-- ==== Sys2Proof/Word.lean ====
section
/-! DEFINITION. The widths the model computes with, and the type of a sparse map. -/

namespace Sys2Proof

/-- A register or record word (R3: every register is 32 bits wide). -/
abbrev Word := BitVec 32

/-- A byte of a packet, of the buffer or of the host's memory. -/
abbrev Byte := BitVec 8

/-- Sparse data by key: strictly rising keys, one entry a key. -/
abbrev Map (α : Type) := List (Nat × α)

end Sys2Proof
end

