-- ==== Sys2Proof/Syntax.lean ====
section
/-! DEFINITION. The commands the block takes, one constructor for each row of the table of operations, and the types
of their operands. What a row's rule leaves to the outside world (a pin, a frame, a reading, a moment) is an operand. -/

namespace Sys2Proof

/-- A mirror record (R561 to R564, R559): a mark set's parts, the context layout's words or a key, a commit's entries as (kind,
address + 2^20 × width, value) with kinds 0 ST, 1 ADDC, 2 TARM and 3 TCANCEL, a fired timer, credits in bytes, and the bounds of
the resynchronisation. -/
inductive PairRec where
  | markTime (mono delay : Nat)
  | course (name admitted departed dropped : Nat)
  | iface (code next conf ended : Nat) (quar : Bool) (speed : Nat)
  | ctxSet (words : List Nat)
  | ctxFree (tpl : Nat) (key : List Byte)
  | ctxTouch (tpl : Nat) (key : List Byte)
  | commit (set : Nat) (entries : List (Nat × Nat × Nat))
  | tfire (set timer : Nat)
  | pol (n : Nat) (peak com : Int)
  | queue (q : Nat) (dep peak com : Int)
  | syncStart
  | syncDone
deriving DecidableEq, Repr

/-- What a CTRL frame says (R567, R571, R627); `ask` is the request of DIR TAKE. -/
inductive Ctrl where
  | absent
  | offer (i : Nat)
  | accept (i : Nat)
  | refuse (i : Nat)
  | switch (i : Nat)
  | ask (i : Nat)
  | move
  | moveEnd
deriving DecidableEq, Repr

/-- TYPE and payload of a Fjarair frame (R552 to R555, R572). -/
inductive FjBody where
  | hello (part step seed state : Nat) (synced : Bool) (roles : Nat)
  | heartbeat (state roles : Nat)
  | ack
  | nak
  | data (recs : List PairRec)
  | xfer (words : List Nat) (bytes : List Byte)
  | ctrl (c : Ctrl)
deriving DecidableEq, Repr

/-- A frame of the Fjarair link (R552): side of the sender, SEQ, ACK, lane, type and payload, and whether its check is good
and its TYPE is listed. -/
structure Fjarair where
  side : Nat
  seq  : Nat
  ack  : Nat
  lane : Nat
  body : FjBody
  good : Bool := true
deriving DecidableEq, Repr

/-- A frame as the receiver of an interface sees it end: its bytes from destination address to FCS, what the PCS, the
staging, the FEC and the reassembly say of it, whether it began while the interface took frames (R72), and the time in
ns since its start-of-frame delimiter (R52). -/
structure RxFrame where
  bytes      : List Byte
  malformed  : Bool
  overrun    : Bool
  fecBad     : Bool
  reassembly : Bool
  taken      : Bool
  age        : Nat
deriving DecidableEq, Repr

/-- An entry of a table that a DMA channel may lock (R221). -/
inductive LockedEntry where
  | context (idx : BitVec 24)
  | learned (course : Fin 18) (bd : BitVec 14) (mac : BitVec 48)
deriving DecidableEq, Repr

/-- What an automata scan meets (R175, R180): nothing; an uncorrectable state record or table entry after `n` bytes; an
uncorrectable stream record; a parity error of the state cache. -/
inductive ScanUpset where
  | none
  | state (n : Nat)
  | stream
  | cache
deriving DecidableEq, Repr

/-- What the action stage reads in error (R254): nothing, the resolution list, the `n`th entry of the chain or a template
of it, the group or one of its members, or the mirror session. -/
inductive ActUpset where
  | none
  | list
  | entry (n : Nat)
  | template (n : Nat)
  | group
  | session
deriving DecidableEq, Repr

/-- What one pass meets in error. `node` is the read of its walk that errs, with whether it is a NODE_ID mismatch;
`control` lists bank addresses whose control words err; `matrix` is the change whose combination matrix errs (R101);
`written` is what reaches the bricks where it is not what the action stage left. -/
structure Upsets where
  node    : Option (Nat × Bool)
  frag    : Bool
  ctx     : Bool
  l2      : Bool
  dst     : Bool
  src     : Bool
  control : List Nat
  action  : ActUpset
  matrix  : Option Nat
  written : Option (List Byte)
deriving DecidableEq, Repr

/-- What an egress MAC meets as it reads and sends a frame: bytes that differ from what the chain and its edits give, an
unreadable link or chain record (R307), a brick that reads uncorrectable (R581), and the time in ns since the frame's
start-of-frame delimiter crossed the ball (R52). -/
structure TxFacts where
  seen : Option (List Byte)
  link : Bool
  bad  : Bool
  age  : Nat
deriving DecidableEq, Repr

/-- A wait place of R333: of a physical course the fragment hold, the miss queue or the recirculation queue, of a unit its
scan queue, an egress, dispatch or host queue, or the Fjarair transmit queue (R572); with the place in it. -/
inductive WaitPlace where
  | hold (course : Fin 18) (i : Nat)
  | miss (course : Fin 18) (i : Nat)
  | recirc (course : Fin 18) (i : Nat)
  | inject (course : Fin 18) (i : Nat)
  | scan (unit : Fin 16) (i : Nat)
  | queue (q : Fin 65536) (i : Nat)
  | fjarair (i : Nat)
deriving DecidableEq, Repr

/-- What a DMA channel's access to the host meets (R466, R467). -/
inductive HostFault where
  | poisoned
  | refused
  | timeout
  | unfetchable
deriving DecidableEq, Repr

/-- What a descriptor meets: a fault of a host access and the bytes or records moved before it; a device-memory word that reads
uncorrectable and what was moved before it (R466); and OP and DESC_ID of the descriptors behind it, up to TAIL, which a halt
completes NOT_RUN. -/
structure DmaFacts where
  host  : Option HostFault
  moved : Nat
  ecc   : Option Nat
  rest  : List (Fin 16 × BitVec 32)
deriving DecidableEq, Repr
/-- What a scrubber reads (R579). -/
inductive ScrubOutcome where
  | clean | corrected | uncorrectable | poisoned
deriving DecidableEq, Repr

/-- What a word of a memory holds, where a poisoned word has a consumer: a word of a set's memory, a context of the store, a
chain's data. -/
inductive Stored where
  | other
  | setWord (s : Fin 64) (w : Nat)
  | context (idx : BitVec 24)
  | chain (a : Nat)
deriving DecidableEq, Repr

/-- An image in a boot flash slot (R652), by what the checks of R654 and R656 find: `good` is check 1, `signed` check 4, `resident`
check 5, and `pages` that every page agrees with its digest. -/
structure FlashImage where
  good     : Bool := false
  signed   : Bool := false
  keySlot  : Nat := 0
  revoke   : Nat := 0
  svnLock  : Bool := false
  svn      : Nat := 0
  version  : Nat := 0
  resident : Bool := true
  pages    : Bool := true
deriving DecidableEq, Repr

/-- What start-up meets (R647 to R661): the last step of R648 that completes, OTP key slots and tile keys whose copies disagree, the
other copy of FW_SVN, a ledger without a valid copy, the references present, whether the spare steward loads, the sleep counter,
and the milliseconds it takes. -/
structure BootFacts where
  upTo      : Fin 12
  otpBad    : BitVec 4
  tileBad   : BitVec 8
  svnCopy   : Option (Fin 65)
  ledgerBad : Bool
  ref156    : Bool
  ref10     : Bool
  spareOk   : Bool
  counter   : BitVec 48
  ms        : Nat
deriving DecidableEq, Repr

/-- Power lost without the order of R697: every rail, or one rail other than VDD_AON. -/
inductive RailLoss where
  | all
  | one (rail : BitVec 8)
deriving DecidableEq, Repr

/-- The commands. -/
inductive Instr where
  /-- R9: A host write to a register that has no row of its own is applied field by field under each field's commit class. -/
  | registerWrite (addr : BitVec 24) (be : BitVec 4) (v : BitVec 32)
  /-- R5: A read of an RC field returns its value and then clears it. -/
  | rcFieldRead (addr : BitVec 24)
  /-- R91: A read of the LO word of a 64-bit counter latches its HI word. -/
  | counterLoRead (addr : BitVec 24)
  /-- R447: A BAR0 access to a register whose domain is not ON reads 0 or is ignored and raises fault 0xD002. -/
  | domainOffAccess (addr : BitVec 24) (write : Bool)
  /-- R40: Each 6.4 ns cycle the time island adds the effective increment to both views and distributes them. -/
  | timeIslandCycle (on156 on10 : Bool)
  /-- R43: A read of TIM_NS captures the whole wall view for TIM_SEC_LO and TIM_SECHI. -/
  | timNsRead
  /-- R43: A read of TIM_MONO_LO captures the interval view for TIM_MONO_HI. -/
  | timMonoLoRead
  /-- R45: A write to TIM_STEP steps the wall view at the next cycle, or is refused with STEP_REJECT and fault 0xB005. -/
  | timStepWrite (v : BitVec 32)
  /-- R46: A write to TIM_SERVO counts as a discipline update under DISC 1 or for the timeout under DISC 3. -/
  | timServoWrite (v : BitVec 32)
  /-- R46: A host write to TIM_ADJ sets the fractional frequency, clamped, and reloads the frequency estimate f. -/
  | timAdjWrite (v : BitVec 32)
  /-- R46: A write that changes DISC restarts LOCK_COUNT, the out-of-window run and the count of four. -/
  | discWrite (v : BitVec 2)
  /-- R50: A write to REFSEL selects a new time reference, handled as a loss if it is absent. -/
  | refselWrite (v : BitVec 1)
  /-- R48: The newly selected reference takes over at the next cycle or after PLL lock, and LOCKED becomes COASTED. -/
  | refselTakeover
  /-- R46: A PPS_IN edge is measured against the second boundary and used for slewing, lock counting or the step count. -/
  | ppsInEdge (rising : Bool)
  /-- R46: No PPS_IN edge within 1.5 s, or a further whole second, counts as a missing edge and sets PPS_MISS. -/
  | ppsEdgeMissing
  /-- R50: Discipline silent for DISC_TIMEOUT raises fault 0xB002 and moves LOCKED to COASTED. -/
  | discTimeout
  /-- R50: Loss of the reference for 10 of its cycles raises fault 0xB001 and fails over to the other input or the internal oscillator. -/
  | referenceLoss (ref : Fin 2)
  /-- R36: Each 10.0 µs window updates CRS_SPEED and sets BELOW with fault 0x9020 when under the guarantee. -/
  | speedWindowEnd (course : Fin 18) (rate : BitVec 16) (mv tj : Nat)
  /-- R56: At the LFO edge after the steward's command the time island captures the time state and stops. -/
  | timeSnapshot (counter : BitVec 48)
  /-- R57: At wake, at the next LFO edge after PLL lock, the time island loads the time base advanced by the slept time. -/
  | wakeTimeLoad (counter : BitVec 48)
  /-- R705: A received frame ends and meets the ordered receive checks that decide its single outcome. -/
  | frameReceived (i : Fin 96) (frame : RxFrame)
  /-- R315: The pause quanta of a received PFC run out and the class node becomes eligible again. -/
  | pfcPauseExpiry (i : Fin 96) (prio : Fin 8)
  /-- R70: A debounced change of BAY_PRSNT_N or of lane-0 signal detect moves the interface to TRAINING or EMPTY. -/
  | presenceChange (i : Fin 96) (present : Bool)
  /-- R69: A write of ENABLE moves the bay or port to EMPTY or lets it leave EMPTY. -/
  | portEnableWrite (i : Fin 96) (en : Bool)
  /-- R85: Switching a network port between whole and breakout resets its sequence counters and raises SEQ_RESET. -/
  | breakoutWrite (n : Fin 16) (split : Bool)
  /-- R92: A write of PRT_BIND_HI loads the binding entry used by frames from both words. -/
  | prtBindHiWrite (bay : Fin 48) (k : Fin 16) (v : BitVec 32)
  /-- R74: Clause 73 auto-negotiation resolves a common mode or none for a training attempt. -/
  | autonegResolved (i : Fin 96) (partner : Nat)
  /-- R69: FEC alignment and PCS lock in the resolved mode take the interface to ADMITTED or QUARANTINED. -/
  | linkUp (i : Fin 96)
  /-- R74: An attempt not up within TRAIN_MAX fails with fault 0x1001 and may remove the mode. -/
  | trainAttemptTimeout (i : Fin 96)
  /-- R74: After RETRY_GAP the interface restarts training with its full advertisement. -/
  | retryGapEnd (i : Fin 96)
  /-- R69: PCS lock or FEC alignment lost for 1.0 ms returns the interface to TRAINING. -/
  | lockLostTimeout (i : Fin 96)
  /-- R78: A priority paused with packets waiting for PFC_WD trips the watchdog with fault 0x1010 and PFC_STORM. -/
  | pfcWatchdogTrip (i : Fin 96) (prio : Fin 8)
  /-- R78: At the end of PFC_RECOVER the pause is honoured again and the watchdog restarts. -/
  | pfcRecoverEnd (i : Fin 96) (prio : Fin 8)
  /-- R300: An XOFF sent for buffer pressure is refreshed every 32,768 quanta while the condition lasts. -/
  | pfcTxRefresh (i : Fin 96)
  /-- R80: At each QUAR_WIN boundary trigger counts restart and a quiet bay may be released automatically. -/
  | quarWindowEnd (i : Fin 96)
  /-- R83: Each 1,000 ms lane window judges corrected symbols and uncorrectable codewords against their limits. -/
  | fecWindowEnd (die : Fin 4) (group : Fin 82) (corr unc : Nat)
  /-- R83: The near-end lane test ends and charges the fault to the lane or excludes it as the partner's. -/
  | laneSelfTestDone (die : Fin 4) (group : Fin 82) (passes : Bool)
  /-- R86: An IEEE 802.3br verify frame is sent at each VERIFY_MS interval. -/
  | preemptVerifySend (i : Fin 96)
  /-- R86: Verification succeeds and sets PREEMPT_ACTIVE, or fails after three attempts with fault 0x1040. -/
  | preemptVerifyResult (i : Fin 96) (ok : Bool)
  /-- R18: A course slot takes a first, recirculated or injected pass through parse, lookups, action and brick admission. -/
  | coursePass (course : Fin 18) (up : Upsets)
  /-- R197: The keeper answers a context read and the parked packets rejoin their pass. -/
  | contextMissReturn (course : Fin 18) (i : Nat) (bad : Bool) (ups : List Upsets)
  /-- R196: A modified context line is written back on eviction or within WB_MAX of its first change. -/
  | contextWriteBack (idx : BitVec 24)
  /-- R200: A PEND entry ends at the end of PEND_LIFE. -/
  | pendExpiry (slice : Fin 16) (set : Fin 1024)
  /-- R206: A course's learn arbiter applies one queued notice to its learned table. -/
  | learnNoticeApply (course : Fin 18)
  /-- R209: A pinned learned entry leaves its pin LRN_PIN_HOLD after FLAP_T. -/
  | pinHoldEnd (course : Fin 18) (bd : BitVec 14) (mac : BitVec 48)
  /-- R214: The learned-table sweeper visits an entry, setting AGED or removing it by compare-and-remove. -/
  | l2SweepVisit (course : Fin 18) (bd : BitVec 14) (mac : BitVec 48) (lapEnd : Bool)
  /-- R215: The context sweeper visits a context on a lap of its class and ages or removes it. -/
  | contextSweepVisit (idx : BitVec 24) (lapEnd : Bool)
  /-- R222: A table lock held 1.0 ms is released by hardware with fault 0x4030. -/
  | lockExpiry (entry : LockedEntry)
  /-- R135: A fragment held FRAG_HOLD is dropped under 0x14. -/
  | fragHoldExpiry (course : Fin 18) (i : Nat) (parity : Bool)
  /-- R136: A PASS or DROP fragment entry expires FRAG_LIFE after its creation. -/
  | fragEntryExpiry (course : Fin 18) (i : Nat)
  /-- R174: An automata unit starts a queued scan when the window's budget allows. -/
  | scanStart (unit : Fin 16)
  /-- R171: A scan ends, reports its matches and lets an INLINE packet rejoin its pass. -/
  | scanComplete (unit : Fin 16) (i : Nat) (upset : ScanUpset) (fetches : Nat) (up : Upsets)
  /-- R174: Each 1 µs window resets the automata budget and applies tier or grant changes. -/
  | auBudgetWindow (unit : Fin 16)
  /-- R176: A write of AU ENABLE takes the automata unit in or out of service. -/
  | auEnableWrite (unit : Fin 16) (en : Bool)
  /-- R159: The bank scanner compares one unit's cells with its shadow and repairs a difference. -/
  | bankScannerVisit (bank : Fin 68) (unit : Fin 2048) (parityOk shadowOk equal : Bool) (lap : Option Nat)
  /-- R158: The bank sweeper finishes clearing the drained epoch's slot bit. -/
  | bankSweepDone
  /-- R161: A WORN bank is copied to a spare and the bank map switched between two searches. -/
  | bankReplace (bank : Fin 68) (verified : Bool)
  /-- R107: At each 1,000 ms boundary the admission-check failure count of a course restarts. -/
  | mortarWindowEnd (course : Fin 18)
  /-- R327: An interface scheduler chooses one queue by tier and start tag and releases its head. -/
  | schedulerRelease (i : Fin 96) (upset : Bool)
  /-- R104: The egress MAC finishes a frame and verifies its mortar word, withholding or stomping a mismatch. -/
  | egressFrameEnd (i : Fin 96) (facts : TxFacts)
  /-- R333: The ager visits a waiting descriptor and ends it under 0x7E once its residence reaches AGE_MAX. -/
  | agerVisit (place : WaitPlace) (lap : Option Nat)
  /-- R335: A refusal notice covering the refusals since the last one is sent to a bay. -/
  | refusalNotice (bay : Fin 48)
  /-- R308: The brick sweeper visits an allocated brick and frees it if orphaned on two laps. -/
  | brickSweepVisit (half : Fin 2) (brick : Nat) (lap : Option Nat)
  /-- R296: A write of a class reserve takes effect or is discarded with VAL_REJECT. -/
  | brkResvWrite (half : Fin 2) (cls : Fin 8) (v : BitVec 32)
  /-- R299: A write of a level threshold or hysteresis takes effect or is discarded with VAL_REJECT. -/
  | brkThreshWrite (half : Fin 2) (k : Fin 4) (v : BitVec 32)
  /-- R325: A write of the interface shaper rate is applied or discarded with VAL_REJECT if CIR sums would break. -/
  | schIfRateWrite (i : Fin 96) (v : BitVec 32)
  /-- R346: At a figure boundary the reel's gates change at the ball. -/
  | figureBoundary (i : Fin 96) (bad : Bool)
  /-- R352: At start time S the pending reel replaces the reel in force. -/
  | reelSwitch (i : Fin 96)
  /-- R365: After a figure-memory error the steward places the reel again and it reopens. -/
  | reelReplaced (i : Fin 96) (poisoned : Bool)
  /-- R261: Sealing checks end and the handle becomes SEALED, stays OPEN or becomes POISONED. -/
  | tileSealDone (handle : Fin 1024) (bad : Option (Fin 2 × Nat))
  /-- R270: Placement of the pending epoch ends and the listed handles become STAGED, or all is undone. -/
  | epochStageDone (bad : Option (Fin 1024 × Fin 2 × Nat))
  /-- R273: At COMMIT_AT every port switches tags, EPOCH fields take effect and the previous epoch drains. -/
  | commitAt
  /-- R273: The draining epoch's count reaches zero and the bank sweep and route fold begin. -/
  | drainCountZero
  /-- R271: The route memory finishes folding the current difference into its full image. -/
  | routeFoldDone
  /-- R277: 100 ms after COMMIT_AT the draining epoch's work items end under EPOCH_END. -/
  | epochEndDeadline
  /-- R277: A drain count not zero 150 ms after COMMIT_AT raises fault 0xC050 and the steward ends everything of the tag. -/
  | drainAudit
  /-- R397: An idle engine with a token starts the next startable work item of its set. -/
  | itemStart (set : Fin 64)
  /-- R386: An engine reaching a SAFE microword commits its journal, checkpoints and takes a waiting interrupt. -/
  | safePoint (set : Fin 64) (pos : Fin 9) (bad : Bool)
  /-- R380: The engine executes a NOP nanoword. -/
  | engNop (set : Fin 64) (pos : Fin 9) (bad : Bool)
  /-- R381: ALU ADD writes A plus B to RD. -/
  | engAdd (set : Fin 64) (pos : Fin 9) (bad : Bool)
  /-- R381: ALU SUB writes A minus B to RD. -/
  | engSub (set : Fin 64) (pos : Fin 9) (bad : Bool)
  /-- R381: ALU AND writes A and B to RD. -/
  | engAnd (set : Fin 64) (pos : Fin 9) (bad : Bool)
  /-- R381: ALU OR writes A or B to RD. -/
  | engOr (set : Fin 64) (pos : Fin 9) (bad : Bool)
  /-- R381: ALU XOR writes A xor B to RD. -/
  | engXor (set : Fin 64) (pos : Fin 9) (bad : Bool)
  /-- R381: ALU MOV writes B to RD. -/
  | engMov (set : Fin 64) (pos : Fin 9) (bad : Bool)
  /-- R381: ALU MIN writes the lesser operand to RD. -/
  | engMin (set : Fin 64) (pos : Fin 9) (bad : Bool)
  /-- R381: ALU MAX writes the greater operand to RD. -/
  | engMax (set : Fin 64) (pos : Fin 9) (bad : Bool)
  /-- R381: ALU CMP sets the flags only. -/
  | engCmp (set : Fin 64) (pos : Fin 9) (bad : Bool)
  /-- R381: FIELD SHL shifts A left by B. -/
  | engShl (set : Fin 64) (pos : Fin 9) (bad : Bool)
  /-- R381: FIELD SHR shifts A right logically by B. -/
  | engShr (set : Fin 64) (pos : Fin 9) (bad : Bool)
  /-- R381: FIELD SAR shifts A right arithmetically by B. -/
  | engSar (set : Fin 64) (pos : Fin 9) (bad : Bool)
  /-- R381: FIELD EXT extracts a field by FPOS and FLEN. -/
  | engExt (set : Fin 64) (pos : Fin 9) (bad : Bool)
  /-- R381: FIELD INS inserts a field by FPOS and FLEN. -/
  | engIns (set : Fin 64) (pos : Fin 9) (bad : Bool)
  /-- R381: FIELD BSWAP reverses the bytes of the operand. -/
  | engBswap (set : Fin 64) (pos : Fin 9) (bad : Bool)
  /-- R381: FIELD POPCNT counts the set bits of the operand. -/
  | engPopcnt (set : Fin 64) (pos : Fin 9) (bad : Bool)
  /-- R381: MEM LD loads set memory at A plus B into RD, waiting for the reply. -/
  | engLd (set : Fin 64) (pos : Fin 9) (bad : Bool)
  /-- R381: MEM LDI loads a word of the item record into RD. -/
  | engLdi (set : Fin 64) (pos : Fin 9) (bad : Bool)
  /-- R381: MEM LDC loads a word of the context buffer into RD. -/
  | engLdc (set : Fin 64) (pos : Fin 9) (bad : Bool)
  /-- R381: MEM STC stores RD into the context buffer. -/
  | engStc (set : Fin 64) (pos : Fin 9) (bad : Bool)
  /-- R388: MEM ST journals a store to set memory. -/
  | engSt (set : Fin 64) (pos : Fin 9) (bad : Bool)
  /-- R388: MEM ADDC journals an addition to set memory applied at commit. -/
  | engAddc (set : Fin 64) (pos : Fin 9) (bad : Bool)
  /-- R381: PKT PLD loads bytes of the current chain into RD. -/
  | engPld (set : Fin 64) (pos : Fin 9) (bad : Bool)
  /-- R385: PKT PST writes RD into the current chain, extending it with bricks as needed. -/
  | engPst (set : Fin 64) (pos : Fin 9) (bad : Bool)
  /-- R381: PKT PLEN returns MLEN of the current chain. -/
  | engPlen (set : Fin 64) (pos : Fin 9) (bad : Bool)
  /-- R381: CTX FIND finds a key and loads its context into the buffer. -/
  | engCtxFind (set : Fin 64) (pos : Fin 9) (bad upset : Bool)
  /-- R381: CTX READ reads the context of a handle into the buffer. -/
  | engCtxRead (set : Fin 64) (pos : Fin 9) (bad upset : Bool)
  /-- R388: CTX WRITE journals a write of buffer words to a context, holding its slot. -/
  | engCtxWrite (set : Fin 64) (pos : Fin 9) (bad : Bool)
  /-- R388: CTX CREATE reserves a slot for a new context, applied at commit. -/
  | engCtxCreate (set : Fin 64) (pos : Fin 9) (bad : Bool)
  /-- R388: CTX FREE journals the free of a context. -/
  | engCtxFree (set : Fin 64) (pos : Fin 9) (bad : Bool)
  /-- R381: CHAIN SEL makes a chain the current chain. -/
  | engChainSel (set : Fin 64) (pos : Fin 9) (bad : Bool)
  /-- R388: CHAIN ALLOC reserves a chain of SVC bricks for the stretch. -/
  | engChainAlloc (set : Fin 64) (pos : Fin 9) (bad : Bool)
  /-- R303: CHAIN SHARE journals one more reference to a chain. -/
  | engChainShare (set : Fin 64) (pos : Fin 9) (bad : Bool)
  /-- R303: CHAIN RELEASE journals the release of a chain reference. -/
  | engChainRelease (set : Fin 64) (pos : Fin 9) (bad : Bool)
  /-- R303: CHAIN FREE journals the end of the set's claim and a release. -/
  | engChainFree (set : Fin 64) (pos : Fin 9) (bad : Bool)
  /-- R381: CHAIN GIVE journals passing the claim on a chain to another holder. -/
  | engChainGive (set : Fin 64) (pos : Fin 9) (bad : Bool)
  /-- R401: QUEUE ENQ journals queuing the current chain, judged at issue under step-8 checks. -/
  | engEnq (set : Fin 64) (pos : Fin 9) (bad : Bool)
  /-- R400: QUEUE INJECT journals injecting the current chain into a course under an injection block. -/
  | engQueueInject (set : Fin 64) (pos : Fin 9) (bad : Bool)
  /-- R402: QUEUE SEND journals sending an item record to a dispatch queue. -/
  | engSend (set : Fin 64) (pos : Fin 9) (bad : Bool)
  /-- R403: QUEUE TARM journals arming a timer under a timer block. -/
  | engTarm (set : Fin 64) (pos : Fin 9) (bad : Bool)
  /-- R403: QUEUE TCANCEL journals disarming a timer. -/
  | engTcancel (set : Fin 64) (pos : Fin 9) (bad : Bool)
  /-- R381: CRC computes CRC-32C over bytes of set memory. -/
  | engCrc (set : Fin 64) (pos : Fin 9) (bad : Bool)
  /-- R381: HASH computes H over the key in the buffer. -/
  | engHash (set : Fin 64) (pos : Fin 9) (bad : Bool)
  /-- R381: TIME RDW reads the wall view into two registers. -/
  | engRdw (set : Fin 64) (pos : Fin 9) (bad : Bool)
  /-- R381: TIME RDI reads the interval view. -/
  | engRdi (set : Fin 64) (pos : Fin 9) (bad : Bool)
  /-- R404: TIME WSERVO journals a write of TIM_SERVO applied at commit. -/
  | engWservo (set : Fin 64) (pos : Fin 9) (bad : Bool)
  /-- R404: TIME WADJ journals a write of TIM_ADJ applied at commit. -/
  | engWadj (set : Fin 64) (pos : Fin 9) (bad : Bool)
  /-- R404: TIME WSTEP journals a step of the wall view applied at commit. -/
  | engWstep (set : Fin 64) (pos : Fin 9) (bad : Bool)
  /-- R378: Sequencing JUMP takes TARGET as the next microword. -/
  | engJump (set : Fin 64) (pos : Fin 9)
  /-- R379: Sequencing BRANCH takes TARGET when its condition holds. -/
  | engBranch (set : Fin 64) (pos : Fin 9)
  /-- R378: Sequencing CALL pushes the return address, trapping STACK at depth 8. -/
  | engCall (set : Fin 64) (pos : Fin 9)
  /-- R378: Sequencing RETURN pops the call stack. -/
  | engReturn (set : Fin 64) (pos : Fin 9)
  /-- R378: Sequencing DISPATCH jumps through a jump-table entry selected by RA. -/
  | engDispatch (set : Fin 64) (pos : Fin 9)
  /-- R387: END DONE commits the journal and completes the item DONE. -/
  | engEndDone (set : Fin 64) (pos : Fin 9) (bad : Bool)
  /-- R387: END FAILED discards the journal and completes the item FAILED with its program reason. -/
  | engEndFailed (set : Fin 64) (pos : Fin 9)
  /-- R388: The reply to a waiting engine operation arrives and sets its status. -/
  | engineReply (set : Fin 64) (pos : Fin 9)
  /-- R391: 1,024 microwords without a safe point trap the engine under WATCHDOG. -/
  | watchdogTrap (set : Fin 64) (pos : Fin 9)
  /-- R409: An item past ITEM_MAX, or its packet at AGE_MAX plus 9 ms, traps under TIME. -/
  | itemTimeTrap (set : Fin 64) (pos : Fin 9)
  /-- R390: An ending interrupt with no safe point within 10 µs traps the engine. -/
  | interruptDeadline (set : Fin 64) (pos : Fin 9)
  /-- R403: An armed set timer fires and queues a TIMER item to its set. -/
  | timerFire (set : Fin 64) (timer : Fin 4096)
  /-- R405: A WORN engine's state moves to the set's spare position at a safe point. -/
  | engineMigration (set : Fin 64) (pos : Fin 9) (ok : Bool)
  /-- R413: Every 10 µs the thermal sensors are read, Tj is formed and excluded readings are faulted. -/
  | sensorReading (readings : Vector Int 16)
  /-- R415: Tj at or above 108 °C for 100 µs raises fault 0x9011 with WITHDRAW. -/
  | tj108Timeout
  /-- R420: Every 10 µs the caller decides VDD_CORE and grants from tier, power head and raise requests. -/
  | callerDecision (mv : BitVec 10)
  /-- R416: Every 100 µs the caller reads the VDD_CORE current over AVSBus. -/
  | avsCurrentRead (ma : BitVec 32) (ok : Bool)
  /-- R418: An AVSBus transaction completes, is retried, or after three failures raises fault 0x9001. -/
  | avsTransactionDone (ok read : Bool)
  /-- R419: VDD_CORE settles within 5 mV of its target and the guarantee moves to the new voltage. -/
  | railSettled
  /-- R419: A rail not settled 20 µs after its command raises fault 0x9001. -/
  | railSettleTimeout
  /-- R419: VDD_CORE below 665 mV for 1.0 µs raises fault 0x9002 with WITHDRAW. -/
  | vddUndervolt
  /-- R419: VDD_CORE above 835 mV for 1.0 µs raises fault 0x9003. -/
  | vddOvervolt
  /-- R417: A change of PWR_BRAKE_N holds VDD_CORE and grants at their minimum or releases them. -/
  | pwrBrakeNEdge (low : Bool)
  /-- R422: Head below 0 for 1 ms at the floor with grants at MIN sets LIMIT_UNMET and fault 0x9004. -/
  | limitUnmetTimeout
  /-- R431: At PWR_DRAIN_MAX a draining domain ends its remaining work FAILED and powers down. -/
  | drainDeadline (dom : Fin 112)
  /-- R431: A draining domain's in-flight count reaches 0 and it clamps and powers down early. -/
  | drainInflightZero (dom : Fin 112)
  /-- R437: A ready signal of a domain-return step arrives and the next step begins. -/
  | returnStepReady
  /-- R440: A return step missing its ready bound raises fault 0x9030 and takes the recovery path. -/
  | returnReadyTimeout
  /-- R435: An enabled wake source becomes active and is recorded or fires the wake latch. -/
  | wakeSourceEvent (src : Fin 6) (active : Bool)
  /-- R437: The wake latch fires and the device returns from Dormant to Keep. -/
  | wakeLatchFire
  /-- R467: A function level reset stops every DMA channel and returns mailboxes to IDLE. -/
  | flr
  /-- R467: A PCIe hot reset stops every DMA channel. -/
  | hotReset
  /-- R467: Loss of the PCIe link stops every channel and raises fault 0xD020. -/
  | pcieLinkLoss
  /-- R467: Clearing Bus Master Enable puts every channel in STOPPED. -/
  | busMasterDisable
  /-- R464: Bus Master Enable set with the link up moves STOPPED channels to PAUSED. -/
  | busMasterEnable
  /-- R448: PERST_N acts as FLR and resets the configuration space. -/
  | perst
  /-- R464: A write of DMA_TAIL rings the doorbell and moves an enabled idle channel to RUN. -/
  | dmaTailWrite (ch : Fin 64) (index : BitVec 16)
  /-- R464: A write of ENABLE runs or pauses a channel. -/
  | dmaEnableWrite (ch : Fin 64) (en : Bool)
  /-- R464: RESUME takes a HALTED channel to RUN or IDLE. -/
  | dmaResume (ch : Fin 64)
  /-- R465: RESET completes posted RECVs, frees held chains and locks, and zeroes the ring indices. -/
  | dmaReset (ch : Fin 64)
  /-- R458: A write of DMA_HOSTQ binds host queues or is discarded with VAL_REJECT on overlap. -/
  | dmaHostqWrite (ch : Fin 64) (v : BitVec 32)
  /-- R463: A host write of DMA_CPL_TAIL frees ring slots and held records are written. -/
  | dmaCplTailWrite (ch : Fin 64) (index : BitVec 16)
  /-- R463: MOD_US after the first unsignalled record the channel's vector is signalled. -/
  | msixModerationTimeout (ch : Fin 64)
  /-- R452: A NOP descriptor completes with its record. -/
  | descNop (ch : Fin 64) (desc : Vector (BitVec 32) 16) (facts : DmaFacts)
  /-- R454: COPY_IN moves bytes from host memory into a tile, set memory space. -/
  | copyIn (ch : Fin 64) (desc : Vector (BitVec 32) 16) (data : List Byte) (facts : DmaFacts)
  /-- R454: COPY_OUT moves bytes from a tile, set memory or chain to host memory. -/
  | copyOut (ch : Fin 64) (desc : Vector (BitVec 32) 16) (facts : DmaFacts)
  /-- R457: An INJECT descriptor injects a host packet at step 4 or step 8. -/
  | descInject (ch : Fin 64) (desc : Vector (BitVec 32) 16) (data : List Byte) (facts : DmaFacts)
  /-- R457: An INJECT held 100 µs on a full injection queue completes FAILED with BUSY. -/
  | injectQueueTimeout (ch : Fin 64) (facts : DmaFacts)
  /-- R459: A RECV descriptor is posted to wait for a packet. -/
  | recv (ch : Fin 64) (desc : Vector (BitVec 32) 16) (facts : DmaFacts)
  /-- R459: A packet from a bound host queue is written to a posted RECV and its mortar word verified. -/
  | recvDeliver (ch : Fin 64) (read : TxFacts) (facts : DmaFacts)
  /-- R461: An ITEM descriptor queues a HOST work item on a dispatch queue. -/
  | item (ch : Fin 64) (desc : Vector (BitVec 32) 16) (data : List Byte) (facts : DmaFacts)
  /-- R460: CHAIN CHOP SHARE adds a reference to a host-held chain. -/
  | dmaChainShare (ch : Fin 64) (desc : Vector (BitVec 32) 16) (facts : DmaFacts)
  /-- R460: CHAIN CHOP RELEASE releases a reference to a chain. -/
  | dmaChainRelease (ch : Fin 64) (desc : Vector (BitVec 32) 16) (facts : DmaFacts)
  /-- R460: CHAIN CHOP FREE ends the host's claim and releases the chain. -/
  | dmaChainFree (ch : Fin 64) (desc : Vector (BitVec 32) 16) (facts : DmaFacts)
  /-- R460: CHAIN CHOP GIVE passes the claim to another holder. -/
  | dmaChainGive (ch : Fin 64) (desc : Vector (BitVec 32) 16) (facts : DmaFacts)
  /-- R460: CHAIN CHOP ENQ queues a host chain with a new descriptor. -/
  | dmaChainEnq (ch : Fin 64) (desc : Vector (BitVec 32) 16) (facts : DmaFacts)
  /-- R154: A bank WRITE record replaces an entry atomically, alone or as one of a pair. -/
  | bankWrite (ch : Fin 64) (desc : Vector (BitVec 32) 16) (record : Vector (BitVec 32) 48) (facts : DmaFacts)
  /-- R154: A bank INVALIDATE record frees an entry atomically. -/
  | bankInvalidate (ch : Fin 64) (desc : Vector (BitVec 32) 16) (record : Vector (BitVec 32) 48) (facts : DmaFacts)
  /-- R153: A bank READ record returns an entry with its HITS. -/
  | bankRead (ch : Fin 64) (desc : Vector (BitVec 32) 16) (record : Vector (BitVec 32) 48) (facts : DmaFacts)
  /-- R219: A table READ record returns a context or learned entry. -/
  | tblRead (ch : Fin 64) (desc : Vector (BitVec 32) 16) (record : Vector (BitVec 32) 40) (bad : Bool) (facts : DmaFacts)
  /-- R219: A table WRITE record writes a context or learned entry, optionally under IF_UNCHANGED. -/
  | tblWrite (ch : Fin 64) (desc : Vector (BitVec 32) 16) (record : Vector (BitVec 32) 40) (facts : DmaFacts)
  /-- R192: A table CREATE record creates a context by key. -/
  | tblCreate (ch : Fin 64) (desc : Vector (BitVec 32) 16) (record : Vector (BitVec 32) 40) (facts : DmaFacts)
  /-- R193: A table DELETE record frees a context or learned entry. -/
  | tblDelete (ch : Fin 64) (desc : Vector (BitVec 32) 16) (record : Vector (BitVec 32) 40) (facts : DmaFacts)
  /-- R221: A table LOCK record locks an entry for the channel. -/
  | tblLock (ch : Fin 64) (desc : Vector (BitVec 32) 16) (record : Vector (BitVec 32) 40) (facts : DmaFacts)
  /-- R221: A table UNLOCK record clears LOCK and CONFLICT. -/
  | tblUnlock (ch : Fin 64) (desc : Vector (BitVec 32) 16) (record : Vector (BitVec 32) 40) (facts : DmaFacts)
  /-- R219: A table FIND record finds a context by key and returns it. -/
  | tblFind (ch : Fin 64) (desc : Vector (BitVec 32) 16) (record : Vector (BitVec 32) 40) (bad : Bool) (facts : DmaFacts)
  /-- R339: A scheduler WRITE record sets a queue, class, group or policer. -/
  | schedWrite (ch : Fin 64) (desc record : Vector (BitVec 32) 16) (facts : DmaFacts)
  /-- R332: A scheduler READ record returns state and clears MAX_SOJ. -/
  | schedRead (ch : Fin 64) (desc record : Vector (BitVec 32) 16) (facts : DmaFacts)
  /-- R334: A scheduler FLUSH record flushes a queue under 0x7C. -/
  | schedFlush (ch : Fin 64) (desc record : Vector (BitVec 32) 16) (facts : DmaFacts)
  /-- R474: An SMBus write of SMB_LIMIT sets the board power limit for the next decision. -/
  | smbLimitWrite (v : BitVec 16) (pec : Bool)
  /-- R473: An SMBus write of FIXED sets the estimate of the other rails. -/
  | smbFixedWrite (v : BitVec 16) (pec : Bool)
  /-- R435: An SMBus write of WAKE sets or clears wake source 1. -/
  | smbWakeWrite (v : BitVec 8) (pec : Bool)
  /-- R474: An SMBus write of TRIP releases THERM_TRIP_N unless Tj is still at or above 115 °C. -/
  | smbTripWrite (v : BitVec 8) (pec : Bool)
  /-- R480: A doorbell posts the request of an IDLE or DONE mailbox, or is discarded with DB_REJECT. -/
  | mbxDoorbell (m : Fin 8) (tag : BitVec 16)
  /-- R479: ACK returns a DONE mailbox to IDLE. -/
  | mbxAck (m : Fin 8)
  /-- R482: CANCEL of a POSTED command completes it NOT_RUN if ordered before the take. -/
  | mbxCancel (m : Fin 8)
  /-- R486: A host write of MBX_CRING_TAIL frees slots and held completion records are written. -/
  | mbxCringTailWrite (m : Fin 8) (v : BitVec 16)
  /-- R481: A command POSTED for 10 ms raises fault 0xD040 and sets NOT_TAKEN. -/
  | mbxNotTaken (m : Fin 8)
  /-- R492: A synchronous command RUNNING past WD_MS sets STALLED and raises fault 0xD041. -/
  | mbxStalled (m : Fin 8)
  /-- R501: DEV_INFO returns firmware version, boot slot, steward roles and identity. -/
  | devInfo (m : Fin 8) (slow : Bool)
  /-- R502: DEV_CANCEL cancels an open ticket still in phase ACCEPTED. -/
  | devCancel (m : Fin 8) (slow : Bool)
  /-- R504: PORT_WITHDRAW withdraws an interface, checking the partner's role unless FORCE. -/
  | portWithdraw (m : Fin 8) (slow : Bool)
  /-- R505: PORT_RETURN moves a WITHDRAWN interface to TRAINING or EMPTY. -/
  | portReturn (m : Fin 8) (slow : Bool)
  /-- R506: PORT_RELEASE releases a QUARANTINED bay after QUAR_HOLD. -/
  | portRelease (m : Fin 8) (slow : Bool)
  /-- R507: PORT_STATUS returns state and sequence numbers of a range of interfaces. -/
  | portStatus (m : Fin 8) (slow : Bool)
  /-- R509: TILE_OPEN allocates a handle and pages for a tile. -/
  | tileOpen (m : Fin 8) (slow : Bool)
  /-- R510: TILE_SEAL freezes a handle's pages and starts its checks. -/
  | tileSeal (m : Fin 8) (slow : Bool)
  /-- R511: TILE_FREE frees a handle and its pages. -/
  | tileFree (m : Fin 8) (slow : Bool)
  /-- R512: TILE_LIST returns the allocated handles. -/
  | tileList (m : Fin 8) (slow fail : Bool)
  /-- R270: EPOCH_STAGE composes the pending epoch and starts its placement into the free tag. -/
  | epochStage (m : Fin 8) (slow : Bool)
  /-- R272: EPOCH_COMMIT makes the pending epoch current at COMMIT_AT. -/
  | epochCommit (m : Fin 8) (slow : Bool)
  /-- R278: EPOCH_ABORT discards the pending epoch and undoes its placement. -/
  | epochAbort (m : Fin 8) (slow : Bool)
  /-- R515: EPOCH_STATUS returns the live and pending epochs and first sequence numbers. -/
  | epochStatus (m : Fin 8) (slow : Bool)
  /-- R516: L2_FLUSH removes non-STATIC learned entries by interface or bridge domain. -/
  | l2Flush (m : Fin 8) (slow : Bool)
  /-- R517: CTX_REVAL starts a walk that clears ACT_VALID in a tenant's contexts. -/
  | ctxReval (m : Fin 8) (slow : Bool)
  /-- R517: The CTX_REVAL walk ends and its completion record is written. -/
  | ctxRevalDone (m : Fin 8) (num : Nat)
  /-- R518: TBL_STATUS returns context and learned-table occupancy. -/
  | tblStatus (m : Fin 8) (slow : Bool)
  /-- R519: SCH_FLUSH_IF flushes the selected classes of an interface's queues. -/
  | schFlushIf (m : Fin 8) (slow : Bool)
  /-- R519: SCH_STATUS returns SHED and each interface's CIR sum. -/
  | schStatus (m : Fin 8) (slow : Bool)
  /-- R520: ITEM_CANCEL cancels a queued or running host work item. -/
  | itemCancel (m : Fin 8) (slow : Bool)
  /-- R521: SET_STATUS returns state, queued items and armed timers of sets. -/
  | setStatus (m : Fin 8) (slow : Bool)
  /-- R430: PWR_STATE_SET moves the device to Full, Trim, Keep or Dormant. -/
  | pwrStateSet (m : Fin 8) (slow : Bool)
  /-- R523: PWR_DOMAIN_SET requests ON, RETAIN or OFF for one SET or AU domain. -/
  | pwrDomainSet (m : Fin 8) (slow : Bool)
  /-- R523: PWR_STATUS returns device state, domain states and grants. -/
  | pwrStatus (m : Fin 8) (slow : Bool)
  /-- R524: PAIR_STATUS returns link, partner, lag and role bitmap. -/
  | pairStatus (m : Fin 8) (slow : Bool)
  /-- R525: PAIR_ROLE_SET moves ACTIVE roles to or from the partner by planned handover. -/
  | pairRoleSet (m : Fin 8) (slow : Bool)
  /-- R526: PAIR_REPORT returns a kept takeover report. -/
  | pairReport (m : Fin 8) (slow fail : Bool)
  /-- R528: FAULT_CLEAR releases a HELD fault source. -/
  | faultClear (m : Fin 8) (slow : Bool)
  /-- R529: SPARE_STATUS returns spares left and worn units per kind. -/
  | spareStatus (m : Fin 8) (slow : Bool)
  /-- R530: SPARE_BRING_IN marks a unit WORN and brings in its spare. -/
  | spareBringIn (m : Fin 8) (slow : Bool)
  /-- R531: WEAR_READ returns bytes of a wear-ledger section. -/
  | wearRead (m : Fin 8) (slow fail : Bool)
  /-- R532: STEWARD_SWAP loads an image into the spare steward and moves the active role to it. -/
  | stewardSwap (m : Fin 8) (slow : Bool)
  /-- R635: The spare steward finishes loading and checking its image during a swap. -/
  | spareImageLoaded (signed accepts : Bool)
  /-- R534: TIME_SET sets the wall view to an absolute value as a step. -/
  | timeSet (m : Fin 8) (slow : Bool)
  /-- R535: TIME_STATUS returns TIM_STATUS, the error bound and the last Dormant time. -/
  | timeStatus (m : Fin 8) (slow : Bool)
  /-- R537: KEY_ENROL writes a tile key entry under an OTP authorisation. -/
  | keyEnrol (m : Fin 8) (slow : Bool)
  /-- R537: KEY_REVOKE sets REVOKED on a tile key entry. -/
  | keyRevoke (m : Fin 8) (slow : Bool)
  /-- R538: DBG_CHALLENGE returns a debug nonce by mailbox. -/
  | dbgChallenge (m : Fin 8) (slow : Bool)
  /-- R538: DBG_UNLOCK verifies a debug response by mailbox and raises the level. -/
  | dbgUnlock (m : Fin 8) (slow : Bool)
  /-- R538: DBG_LOCK returns debug to LOCKED. -/
  | dbgLock (m : Fin 8) (slow : Bool)
  /-- R539: FLASH_PROGRAM starts writing an image into a boot flash slot. -/
  | flashProgram (m : Fin 8) (slow : Bool)
  /-- R539: The flash write, read-back and signature check end and the slot is valid or marked invalid. -/
  | flashProgramDone (image : FlashImage) (ok : Bool)
  /-- R541: LEDGER_READ returns a course ledger in one arbiter step. -/
  | ledgerRead (m : Fin 8) (slow : Bool)
  /-- R542: ACT_CNT_READ returns action counters. -/
  | actCntRead (m : Fin 8) (slow fail : Bool)
  /-- R543: QUEUE_READ returns queue state and clears MAX_SOJ. -/
  | queueRead (m : Fin 8) (slow fail : Bool)
  /-- R544: EXPORT_SET starts, changes or stops periodic telemetry export. -/
  | exportSet (m : Fin 8) (slow : Bool)
  /-- R544: Each export period the steward writes ledger, queue and port records to the host ring. -/
  | exportPeriod (upTo : Nat) (skip : List Nat) (fail : Option Nat)
  /-- R491: The active steward role moves, planned or unplanned, and the incoming steward resolves the command ledger. -/
  | stewardRoleChange (planned : Bool)
  /-- R567: A decided change of the partner's PAIR_ALIVE rails is judged as failure, fault or alive. -/
  | peerRailChange (p n : Bool)
  /-- R555: No valid frame for HB_MISS intervals declares heartbeat loss. -/
  | heartbeatLoss
  /-- R550: A write of SELF_DOWN drives PAIR_ALIVE not alive and gives up all roles. -/
  | selfDownWrite (down : Bool)
  /-- R551: A Fjarair lane gains PCS lock and FEC alignment and joins the round robin. -/
  | fjarairLaneUp (lane : Fin 8)
  /-- R551: A Fjarair lane without lock for 1.0 ms goes down, possibly taking the link down. -/
  | fjarairLaneDown (lane : Fin 8)
  /-- R553: HELLO is sent every 100 µs on every lane that is up while the link is down. -/
  | helloSend
  /-- R553: A received HELLO is accepted or refused with fault 0xA002. -/
  | hello (frame : Fjarair)
  /-- R555: A HEARTBEAT is sent every 1.0 µs on one lane. -/
  | heartbeatSend
  /-- R555: A received HEARTBEAT updates the partner's state and role bitmap. -/
  | heartbeat (frame : Fjarair)
  /-- R554: A received ACK frame releases acknowledged frames from the retransmit buffer. -/
  | ackFrame (frame : Fjarair)
  /-- R554: An idle device sends an ACK frame at least every 1.0 µs while frames reach it. -/
  | ackSend
  /-- R554: A received NAK makes the sender resend everything from the named SEQ. -/
  | nakFrame (frame : Fjarair)
  /-- R554: A SEQ gap unfilled for 2.0 µs makes the receiver send NAK. -/
  | reorderGapTimeout
  /-- R554: ACK stalled 5.0 µs resends the oldest frame, and eight rounds take the link down. -/
  | retransmitTimeout
  /-- R562: Every 10 µs a mark set of time, course and interface ledger records is sent. -/
  | markSetSend
  /-- R561: Every 100 µs POL and QUEUE records are sent for changed credits. -/
  | creditRecordSend
  /-- R562: A received MARK_TIME record starts a partner mark set. -/
  | markTime (frame : Fjarair)
  /-- R562: A received COURSE record holds the partner's ledger counts. -/
  | courseRecord (frame : Fjarair)
  /-- R562: A received IFACE record holds an interface's sequence marks. -/
  | ifaceRecord (frame : Fjarair)
  /-- R563: A received CTX_SET creates or overwrites a context by key. -/
  | ctxSet (frame : Fjarair)
  /-- R563: A received CTX_FREE frees the context of its key. -/
  | ctxFreeRecord (frame : Fjarair)
  /-- R563: A received CTX_TOUCH clears AGED and STALE of its context. -/
  | ctxTouch (frame : Fjarair)
  /-- R564: A received COMMIT record applies a partner commit to set memory and shadow timers. -/
  | commitRecord (frame : Fjarair)
  /-- R564: A received TFIRE disarms the shadow of a fired partner timer. -/
  | tfire (frame : Fjarair)
  /-- R561: A received POL record updates a policer's credit. -/
  | polRecord (frame : Fjarair)
  /-- R561: A received QUEUE record updates a queue's credit. -/
  | queueRecord (frame : Fjarair)
  /-- R559: A received SYNC_START begins resynchronisation of a joining device. -/
  | syncStart (frame : Fjarair)
  /-- R558: A received SYNC_DONE moves a JOINING device to PAIRED with SYNCED. -/
  | syncDone (frame : Fjarair)
  /-- R559: A link down for SOLO_WAIT after the first commit takes ACTIVE for home or every interface. -/
  | soloWaitExpiry
  /-- R567: A received CTRL ABSENT makes the partner's coming failure a planned change. -/
  | ctrlAbsent (frame : Fjarair)
  /-- R571: A received OFFER is answered ACCEPT or REFUSE. -/
  | ctrlOffer (frame : Fjarair)
  /-- R571: A received ACCEPT makes the giver stop admitting, send a mark set and SWITCH. -/
  | ctrlAccept (frame : Fjarair)
  /-- R571: A received REFUSE leaves the interface's role as it was. -/
  | ctrlRefuse (frame : Fjarair)
  /-- R571: A received SWITCH turns the interface ACTIVE on the receiver. -/
  | ctrlSwitch (frame : Fjarair)
  /-- R571: After DRAIN the giver's role becomes STANDBY and its remaining queue is flushed. -/
  | handoverDrainEnd (i : Fin 96)
  /-- R627: A received MOVE defers this device's own partner-dependent move. -/
  | ctrlMove (frame : Fjarair)
  /-- R627: A received MOVE_END lets a deferred move proceed. -/
  | ctrlMoveEnd (frame : Fjarair)
  /-- R572: A copy for a partner-served interface is sent in an XFER frame. -/
  | xferSend
  /-- R573: A received XFER copy enters step 8 on its queue or is dropped under 0xB2. -/
  | xferFrame (frame : Fjarair)
  /-- R556: A WORN Fjarair lane moves to a spare lane while traffic flows. -/
  | fjarairLaneMove (lane : Fin 8)
  /-- R588: A scrubber reads one word in an idle cycle and corrects, poisons or retires as needed. -/
  | scrubWord (m : Fin 23) (a : Nat) (o : ScrubOutcome) (what : Stored) (changed : Bool) (demand : List (Nat × Bool)) (lap : Option Nat)
  /-- R593: A failing HBM row is repaired by sPPR when a repair slot is free. -/
  | hbmRowRepair (stack : Fin 2) (spent : Bool)
  /-- R583: An uncorrectable steward fetch reloads the page from the image copy or declares the steward lost. -/
  | stewardFetchTrap (st : Fin 2) (a : Nat) (good : Bool)
  /-- R601: The collector decides an error or broken rail of a source, records it and applies its reaction. -/
  | faultDecided (src : BitVec 16) (broken : Bool) (rest : List (Fin 16 × BitVec 32))
  /-- R610: QUIET without error returns a FAULTED source to CLEAR and rebuilds its unit. -/
  | quietExpiry (src : BitVec 16)
  /-- R609: A write of POP removes the head fault record. -/
  | fltPop
  /-- R615: FLT_INJ MODE 1 drives the error pattern on a source's rails and raises fault 0xC002. -/
  | fltInjError (src : BitVec 16)
  /-- R615: FLT_INJ MODE 2 drives 00 on a source's rails and raises fault 0xC001. -/
  | fltInjZeros (src : BitVec 16)
  /-- R615: FLT_INJ MODE 3 drives 11 on a source's rails and raises fault 0xC001. -/
  | fltInjOnes (src : BitVec 16)
  /-- R620: A wear monitor is measured against its birth value and its drift recorded. -/
  | monitorMeasurement (src index : BitVec 16) (mon : Fin 4) (tm mv : Nat) (tj : Int) (overlap bad : Bool)
  /-- R628: A WORN course's ports move to the die's spare course with the partner's help. -/
  | courseMove (ok bad : Bool)
  /-- R630: A WORN bay or network lane's port moves onto a spare lane. -/
  | laneMove (ok : Bool)
  /-- R631: A WORN HBM pseudo-channel is copied to a spare and the map switched. -/
  | pseudoChannelMove (stack : Fin 2) (ok : Bool)
  /-- R626: Each second, and at each entry to PAIRED, the steward retries deferred moves. -/
  | moveRetry
  /-- R633: The active steward's heartbeat silent 100 µs makes the spare take the role with fault 0xC066. -/
  | stewardHeartbeatLoss
  /-- R634: No active steward for 10 ms raises fault 0xC067 and resets both stewards. -/
  | noStewardTimeout
  /-- R638: A wear-ledger page is written hourly or after a state change. -/
  | ledgerPageWrite (hourly ok : Bool)
  /-- R644: POR_N rises, AON starts and the straps latch. -/
  | powerOnReset (straps : BitVec 4) (flash : Option (FlashImage × FlashImage))
  /-- R645: DEV_RST_N low or another warm source drains every domain and resets the warm scope. -/
  | deviceReset
  /-- R648: Release of DEV_RST_N runs the boot ROM, image check and bring-up to STAGE RUN. -/
  | startUp (facts : BootFacts)
  /-- R647: A West ROM self-check not passed within 2 ms makes the East steward active. -/
  | romSelfCheckTimeout
  /-- R656: STAGE not RUN 5 s after step 2 counts a failed attempt and resets warm. -/
  | bootWatchdog
  /-- R668: The debug attention sequence resets the port's frame logic and acts as wake source 5. -/
  | attentionSequence
  /-- R671: A debug NOP frame does nothing. -/
  | debugNop (good : Bool)
  /-- R673: A debug READ returns words of an address space without side effects. -/
  | debugRead (space : BitVec 4) (addr : BitVec 48) (count : BitVec 8) (good late : Bool)
  /-- R673: A debug WRITE writes words at the allowed spaces as a host write. -/
  | debugWrite (space : BitVec 4) (addr : BitVec 48) (data : List (BitVec 32)) (good : Bool)
  /-- R675: A debug CHALLENGE returns a nonce for a level. -/
  | debugChallenge (level : BitVec 2) (good : Bool)
  /-- R675: A debug UNLOCK frame starts verification of a signed response. -/
  | debugUnlock (level : BitVec 2) (response : List (BitVec 32)) (good : Bool)
  /-- R675: Verification ends, raising the level with fault 0xE020 or failing with 0xE021. -/
  | unlockVerifyDone
  /-- R674: A debug LOCK sets the level to LOCKED. -/
  | debugLock (good : Bool)
  /-- R675: A debug nonce expires 60 s after its challenge. -/
  | nonceExpiry (level : BitVec 2)
  /-- R675: 60 s after four failed unlocks CHALLENGE is allowed again. -/
  | lockoutEnd
  /-- R676: CTRL HALT posts HALT so an engine halts at its next safe point. -/
  | engineHalt (set : Fin 64) (pos : BitVec 4) (good : Bool)
  /-- R676: CTRL RESUME lets a halted engine go on. -/
  | engineResume (set : Fin 64) (pos : BitVec 4) (good : Bool)
  /-- R676: CTRL STEP_STRETCH runs an engine to its next safe point. -/
  | stepStretch (set : Fin 64) (pos : BitVec 4) (good : Bool)
  /-- R676: CTRL STEP_MICRO executes one microword and halts. -/
  | stepMicro (set : Fin 64) (pos : BitVec 4) (good : Bool)
  /-- R679: CTRL HALT of a steward halts the spare or swaps and halts the active one. -/
  | stewardHalt (steward : Fin 2) (good : Bool)
  /-- R679: CTRL RESUME resets a halted spare steward and reloads it. -/
  | stewardResume (steward : Fin 2) (good : Bool)
  /-- R679: CTRL step executes one steward instruction. -/
  | stewardStep (steward : Fin 2) (good : Bool)
  /-- R681: TRST_N or test-logic-reset selects IDCODE and returns the balls to the device. -/
  | tapReset
  /-- R682: Gated boundary-scan EXTEST drives the balls from the boundary register. -/
  | extest
  /-- R682: SAMPLE/PRELOAD captures and loads the boundary register. -/
  | samplePreload (balls load : Nat)
  /-- R681: IDCODE selects the identification register. -/
  | idcode
  /-- R682: Gated CLAMP holds the boundary outputs while selecting bypass. -/
  | clamp
  /-- R682: Gated HIGHZ sets the outputs to high impedance. -/
  | highz
  /-- R682: Gated EXTEST_PULSE tests AC-coupled pairs under IEEE 1149.6. -/
  | extestPulse
  /-- R682: Gated EXTEST_TRAIN tests AC-coupled pairs with a pulse train. -/
  | extestTrain
  /-- R682: BYPASS selects the one-bit bypass register. -/
  | bypass
  /-- R695: A monitored rail outside its range for 1.0 µs raises fault 0x9040 with WITHDRAW. -/
  | railOutOfRange (rail : BitVec 8)
  /-- R695: VDD_AON below 0.70 V for 1.0 µs acts as power-on reset, or in Dormant resets AON alone. -/
  | aonBrownOut (others : Bool) (straps : BitVec 4)
  /-- R698: Power lost without the ordered sequence ends as a cold or warm start. -/
  | powerLoss (loss : RailLoss)
  /-- R108: INJ_EGR arms inversion of MORTAR of the next admission-checked packet. -/
  | injEgr (course : Fin 18)
  /-- R108: INJ_ADM arms inversion of the check bits of the next admission check. -/
  | injAdm (course : Fin 18)
  /-- R138: INJ_NODEID arms a NODE_ID mismatch on the next node read. -/
  | injNodeid (course : Fin 18)
  /-- R177: INJ_CTL arms an uncorrectable control word in the next matching bank search. -/
  | injCtl (bank : Fin 68)
  /-- R177: INJ_CELL arms a parity error for the next unit the bank scanner checks. -/
  | injCell (bank : Fin 68)
  /-- R178: INJ_STATE arms an uncorrectable state record read in the automata unit. -/
  | injState (unit : Fin 16)
  /-- R224: INJ_CTX arms a parity error on the next clean context line read. -/
  | injCtx (course : Fin 18)
  /-- R224: INJ_L2 arms a parity error on the next learned entry read. -/
  | injL2 (course : Fin 18)
  /-- R255: INJ_ENTRY arms an uncorrectable read of the next action entry. -/
  | injEntry (course : Fin 18)
  /-- R310: INJ_LINK arms an uncorrectable link record read at egress. -/
  | injLink (half : Fin 2)
  /-- R310: INJ_DFREE arms a replayed data-path release rejected as a double free. -/
  | injDfree (half : Fin 2)
  /-- R341: INJ_QSTATE arms an uncorrectable queue state read. -/
  | injQstate
  /-- R341: INJ_POL arms an uncorrectable policer state read. -/
  | injPol
  /-- R410: INJ_JRNL arms a JRNL_ECC trap at the next commit. -/
  | injJrnl (set : Fin 64)
  /-- R410: INJ_FETCH arms a FETCH trap on the next microword fetch. -/
  | injFetch (set : Fin 64)
  /-- R441: INJ_AVS arms check errors on the next three AVSBus responses. -/
  | injAvs
  /-- R441: INJ_SENSOR arms exclusion of the next sensor reading. -/
  | injSensor
  /-- R470: INJ_ECC arms an uncorrectable read in a DMA channel. -/
  | injEcc (ch : Fin 64)
  /-- R495: INJ_LEDGER arms a bad command-ledger entry that the steward rewrites. -/
  | injLedger (m : Fin 8)
  /-- R574: INJ_FRAME arms a check error on the next Fjarair frame received. -/
  | injFrame
  /-- R574: INJ_RAIL arms an invalid decision of the partner's rails. -/
  | injRail
  /-- R595: INJ_UNC arms an uncorrectable error on the next scrubbed word. -/
  | injUnc (m : Fin 23)
  /-- R595: INJ_CORR arms a correctable error on the next scrubbed word. -/
  | injCorr (m : Fin 23)
  /-- R642: INJ_MON arms a check error on the next wear monitor reading. -/
  | injMon
  /-- R464: The PCIe link trains up, and with Bus Master Enable set every STOPPED channel moves to PAUSED and writes its held records. -/
  | pcieLinkUp (speed width : Fin 16)
  /-- R451: A host write that unmasks an MSI-X vector in the BAR4 table signals it if its pending bit is set. -/
  | msixVectorUnmask (vector : BitVec 8) (masked : Bool)
  /-- R480: A host write to a mailbox's request header or payload is taken in IDLE or DONE, and is discarded with WR_REJECT in POSTED or RUNNING. -/
  | mbxRequestAreaWrite (m : Fin 8) (i : Fin 1024) (v : BitVec 32)
  /-- R571: A received CTRL request from a device that takes a role under DIR TAKE makes the giver start the OFFER exchange for the interface. -/
  | ctrlTakeAsk (frame : Fjarair)
  /-- R695: POR_N driven low resets the always-on domain, and both PAIR_ALIVE rails fall to 0. -/
  | porNAsserted
deriving DecidableEq, Repr

end Sys2Proof
end

