-- ==== Sys2Proof/Decode.lean ====
section
/-! DEFINITION. Words of the table of operations. No row of it gives bits: the block has no encoding of its commands, so no word
spells one. -/

namespace Sys2Proof

/-- The command that a word of `nbits` bits spells by the table: none. -/
def decodeTableWord (_nbits _w : Nat) : Option Instr := none

end Sys2Proof
end

