-- ==== Sys2Proof/Machine/Store.lean ====
section
/-! DEFINITION. The helpers every unit uses: bit fields, byte orders, saturation, and the operations of the
sparse map. A map keeps strictly rising keys; a map with a default value lists no key that holds the default. -/

namespace Sys2Proof.Machine

/-- Bits `hi:lo` of a number, in the manual's order. -/
def bits (n hi lo : Nat) : Nat := (n >>> lo) % 2 ^ (hi + 1 - lo)

/-- `n` with its bits `hi:lo` replaced by `v`. -/
def withBits (n hi lo v : Nat) : Nat :=
  n - (bits n hi lo) <<< lo + (v % 2 ^ (hi + 1 - lo)) <<< lo

/-- A Boolean as a bit. -/
def b2n (b : Bool) : Nat := if b then 1 else 0

/-- Addition that stays at the greatest value of `w` bits. -/
def satAdd (w a b : Nat) : Nat := min (a + b) (2 ^ w - 1)

/-- Two's complement reading of `w` bits. -/
def toSigned (w n : Nat) : Int := (BitVec.ofNat w n).toInt

/-- Two's complement writing in `w` bits. -/
def ofSigned (w : Nat) (i : Int) : Nat := (BitVec.ofInt w i).toNat

/-- A number brought between two limits: 'acts and reads as the nearer limit'. -/
def clampNat (lo hi n : Nat) : Nat := max lo (min hi n)

/-- An integer brought between two limits. -/
def clampInt (lo hi n : Int) : Int := max lo (min hi n)

/-- The `i`th element, or the default. -/
def nth {α : Type} (l : List α) (i : Nat) (d : α) : α := l.getD i d

/-- The list with its `i`th element replaced, padded with `d` up to `i`. -/
def setNth {α : Type} (l : List α) (i : Nat) (d v : α) : List α :=
  if i < l.length then l.set i v else l ++ List.replicate (i - l.length) d ++ [v]

/-! ### Bytes and words -/

/-- `n` as `k` bytes, most significant first (network order). -/
def beBytes : Nat → Nat → List Byte
  | 0, _ => []
  | k + 1, n => BitVec.ofNat 8 (n >>> (8 * k)) :: beBytes k n

/-- The number that bytes spell, most significant first. -/
def ofBE (l : List Byte) : Nat := l.foldl (fun a b => a * 256 + b.toNat) 0

/-- `n` as `k` bytes, least significant first. -/
def leBytes : Nat → Nat → List Byte
  | 0, _ => []
  | k + 1, n => BitVec.ofNat 8 n :: leBytes k (n / 256)

/-- The number that bytes spell, least significant first. -/
def ofLE : List Byte → Nat
  | [] => 0
  | b :: l => b.toNat + 256 * ofLE l

/-- `n` bytes of `l` from `at`, short where the list ends. -/
def slice (l : List Byte) (at_ n : Nat) : List Byte := (l.drop at_).take n

/-- `n` bytes from `at`, most significant first, as a number; absent bytes read 0. -/
def field (l : List Byte) (at_ n : Nat) : Nat :=
  let s := slice l at_ n
  ofBE (s ++ List.replicate (n - s.length) 0)

/-- `l` with the bytes `v` written from `at`; nothing is written past the end. -/
def patch (l : List Byte) (at_ : Nat) (v : List Byte) : List Byte :=
  l.take at_ ++ v.take (l.length - at_) ++ l.drop (at_ + v.length)

/-- `n` words of 32 bits as bytes, each least significant byte first (a record in host memory). -/
def wordsToLE (l : List Nat) : List Byte := l.flatMap (leBytes 4)

/-- The words that bytes hold, each least significant byte first; `n` words, absent bytes 0. -/
def leWords : Nat → List Byte → List Nat
  | 0, _ => []
  | n + 1, l => ofLE (l.take 4) :: leWords n (l.drop 4)

/-! ### Sparse maps -/

namespace Map

/-- The value under a key. -/
def get? {α : Type} : Map α → Nat → Option α
  | [], _ => none
  | (k, v) :: m, q => if k = q then some v else if q < k then none else get? m q

/-- The value under a key, or the default. -/
def getD {α : Type} (m : Map α) (q : Nat) (d : α) : α := (get? m q).getD d

/-- Whether the key is listed. -/
def has {α : Type} (m : Map α) (q : Nat) : Bool := (get? m q).isSome

/-- The map with `q` at `v`. -/
def put {α : Type} : Map α → Nat → α → Map α
  | [], q, v => [(q, v)]
  | (k, w) :: m, q, v =>
    if k = q then (q, v) :: m else if q < k then (q, v) :: (k, w) :: m else (k, w) :: put m q v

/-- The map without `q`. -/
def erase {α : Type} : Map α → Nat → Map α
  | [], _ => []
  | (k, w) :: m, q => if k = q then m else if q < k then (k, w) :: m else (k, w) :: erase m q

/-- The map with `q` at `v`, where an unlisted key reads `d`: the canonical form is kept. -/
def putD {α : Type} [DecidableEq α] (m : Map α) (q : Nat) (d v : α) : Map α :=
  if v = d then erase m q else put m q v

/-- The value under a key changed by `f`, where an unlisted key reads `d`. -/
def upd {α : Type} [DecidableEq α] (m : Map α) (q : Nat) (d : α) (f : α → α) : Map α :=
  putD m q d (f (getD m q d))

/-- A listed value changed by `f`; nothing where the key is not listed. -/
def adjust {α : Type} (m : Map α) (q : Nat) (f : α → α) : Map α :=
  m.map fun e => if e.1 = q then (e.1, f e.2) else e

/-- The listed keys. -/
def keys {α : Type} (m : Map α) : List Nat := m.map Prod.fst

/-- Keys strictly rising. -/
def sorted {α : Type} : Map α → Bool
  | [] => true
  | [_] => true
  | (k, _) :: (k', v) :: m => k < k' && sorted ((k', v) :: m)

/-- The canonical form of a map in which an unlisted key reads `d`: equal maps are equal data. -/
def wf {α : Type} [DecidableEq α] (m : Map α) (d : α) : Bool := sorted m && m.all fun e => e.2 != d

end Map

/-! ### Order-free collections of numbers -/

/-- The list with `x` in it once. -/
def addOnce (l : List Nat) (x : Nat) : List Nat := if l.contains x then l else l ++ [x]

/-- The list without `x`. -/
def without (l : List Nat) (x : Nat) : List Nat := l.filter (· != x)

end Sys2Proof.Machine
end

