-- ==== Sys2Proof/Machine/Images.lean ====
section
/-! DEFINITION. What a sealed tile brings: one image type per kind of R258. Where the manual gives a body's words
(PARSE, REEL, PROG) the image keeps them; where it gives only what a body holds (BANK, AUTO, ACT, LPM, POLICY) the
image names the parts, and how the bytes spell them is left open (Config). -/

namespace Sys2Proof.Machine

/-- A PARSE image: the eight header words of R114 and the nodes of R116 as words. -/
structure Graph where
  hdr   : List Nat
  nodes : List (List Nat)
deriving DecidableEq, Repr

/-- An entry that a BANK tile places (R147, R157): logical bank (in a body its slot in the group, R144), first unit, width, cells, and control word. -/
structure TileEntry where
  lb     : Nat
  unit   : Nat
  width  : Nat
  key    : List Byte
  mask   : List Byte
  sticky : Bool
  prio   : Nat
  result : Nat
  auto   : Nat
deriving DecidableEq, Repr

/-- A BANK image (R144): profile by parser node, profile bytes, key templates, entries, and the widths it was made for. -/
structure BankImage where
  profMap   : Map Nat := []
  profiles  : List (List Nat) := []
  templates : List (List Nat) := []
  entries   : List TileEntry := []
  widths    : Map Nat := []
deriving DecidableEq, Repr

/-- A pattern set of R165: descriptor words and class map. -/
structure PatternSet where
  desc : List Nat
  map  : List Nat
deriving DecidableEq, Repr

/-- An AUTO image (R164, R165): state records by index, DENSE table entries by first record × 64 + class, match list,
pattern sets, pattern count. -/
structure AutoImage where
  states   : Map (List Nat) := []
  dense    : Map Nat := []
  size     : Nat := 0
  pins     : Nat := 0
  matchList : List Nat := []
  sets     : List PatternSet := []
  patterns : Nat := 0
deriving DecidableEq, Repr

/-- A template of R238: header bytes and descriptor words. -/
structure Template where
  bytes : List Byte
  desc  : List Nat
deriving DecidableEq, Repr

/-- An ACT image (R228): entries as words, templates, groups, members, mirror sessions, egress edits. -/
structure ActImage where
  entries   : Map (List Nat) := []
  nEntries  : Nat := 0
  templates : Map Template := []
  groups    : Map Nat := []
  members   : Map Nat := []
  mirrors   : Map (Nat × Nat) := []
  edits     : Map (List Nat) := []
deriving DecidableEq, Repr

/-- A route (R212). -/
structure Route where
  v6     : Bool
  inst   : Nat
  addr   : Nat
  len    : Nat
  result : Nat
deriving DecidableEq, Repr

/-- An LPM image: the routes of a full image, or a difference as routes set and routes removed. -/
structure LpmImage where
  full    : Bool := true
  routes  : List Route := []
  removed : List Route := []
deriving DecidableEq, Repr

/-- A POLICY image (R181, R230, R248): table profile by parser node, table profiles, flow-key templates, resolution
lists, and set masks by class. -/
structure Policy where
  profMap  : Map Nat := []
  profiles : List Nat := []
  keys     : List (List Nat) := []
  lists    : List (List Nat) := []
  masks    : List Nat := []
deriving DecidableEq, Repr

/-- A PROG image (R376): header words, entry table, jump tables, microwords and nanowords. -/
structure Prog where
  hdr   : List Nat := []
  entry : List Nat := []
  jumps : List (List Nat) := []
  micro : List Nat := []
  nano  : List Nat := []
deriving DecidableEq, Repr

/-- A tile's image by kind. A REEL image keeps its body words, which chapter 12 lays out. -/
inductive Image where
  | parse (g : Graph)
  | bank (b : BankImage)
  | auto (a : AutoImage)
  | act (a : ActImage)
  | reel (words : List Nat)
  | prog (p : Prog)
  | lpm (l : LpmImage)
  | policy (p : Policy)
deriving DecidableEq, Repr

/-- The null graph of epoch 0 (R267): one DROP node with ARG 0, which serves as every root. -/
def nullGraph : Graph := ⟨[0x400], [[0x80000000]]⟩

end Sys2Proof.Machine
end

