-- ==== Sys2Proof/Config.lean ====
section
/-! DEFINITION. What an implementation fixes and what the manual leaves open. A constant without a body is a free
value: nothing can be proved of it, so a statement that holds, holds whatever it is. -/

namespace Sys2Proof.Config

/-- GLB_ID PKG is fused (R2): the package variant, 1 lidded or 2 lidless. -/
opaque pkg : Nat

/-- The `n`th free value of a run, as a number; a use takes the bits it needs. -/
opaque freeValue : Nat → Nat

/-- How the time island rounds an increment that is no whole number of 2^-24 ns (R40), by TIM_INCR and TIM_ADJ. -/
opaque incrRoundsUp : Nat → Int → Bool

/-- How the time island rounds a correction that is no whole unit of TIM_ADJ (R46), by the exact value scaled by 10^9. -/
opaque adjRoundsUp : Int → Bool

/-- The hash that indexes a fragment table (R131), over the key's parts. -/
opaque fragHash : List Nat → Nat

/-- Which packet of every 2^AUDIT_K a course checks at admission (R103). -/
opaque auditPhase : Nat

/-- Which pass of every 2^SAMPLE_K a mirror session copies (R244). -/
opaque samplePhase : Nat

/-- Whether MIN and MAX compare as signed numbers (R381 does not say). -/
opaque minMaxSigned : Bool

/-- The burst of the cross-forwarding budget in bytes (R572 gives its rate only). -/
opaque xfwdBurst : Nat

/-- How POWER rounds a measure that is no whole number of W (R416), by the measure in µW. -/
opaque powerRoundsUp : Nat → Bool

/-- How often an automata unit may fault before 0x3030 (R180 speaks of its fault limit and gives no number). -/
opaque auFaultLimit : Nat

/-- The SRAM macro or pseudo-channel of a memory ID that holds an address (R619, R622 count by it). -/
opaque macroOf : Nat → Nat → Nat

/-- The set (0 to 31) or course (0 to 8) of its die, or the place in a buffer half, that a memory ID's address lies in. -/
opaque memOwner : Nat → Nat → Nat

/-- SRAM macros of a memory ID. -/
opaque macros : Nat → Nat

/-- Repairs an HBM stack has at manufacture (R593). -/
opaque hbmRepairs : Nat

/-- The row of a macro or stack that holds an address (R592, R593): a name for the row. -/
opaque rowOf : Nat → Nat → Nat

/-- Birth value of a monitor in ps (R620), by unit key, monitor and corner: VDD_CORE 0.68, 0.75, 0.82 V by Tj 70, 85, 105 °C. -/
opaque birth : Nat → Nat → Nat → Nat

/-- How a drift that is no whole number of 0.01 % is rounded (R620), by the exact value scaled by 10^6. -/
opaque driftRoundsUp : Int → Bool

/-- The reading of a region without sensors of its own (R413 places sensors on the core dies only; R640 names eight regions), by
the region and the highest readings of the West and East dies. -/
opaque regionTemp : Nat → Int → Int → Int

/-- How WEAR_LIFE rounds a projection that is no whole number of months (R641), by the hours. -/
opaque monthsRoundUp : Nat → Bool

/-- The acceleration factor of R640 in millionths, by a reading in °C. -/
opaque aging : Int → Nat

/-- How item 32 of the debug port's engine space packs the flags Z, N, C, V (bits 0 to 3) and S (R672 does not say), and how a write
of it is taken apart again. -/
opaque flagsItem : Nat → Nat → Nat
opaque itemFlags : Nat → Nat × Nat

/-- Whether item 34 of that space is the newest entry of the call stack. -/
opaque stackNewestFirst : Bool

/-- Bytes of a section of the wear ledger as WEAR_READ returns it (R639 gives no length), at a free value's place of the run. -/
opaque wearSection : Nat → Nat → Nat

/-! How the bodies of BANK, AUTO, ACT, LPM and POLICY tiles spell their parts: the manual gives the parts and not their
order. A body that spells nothing, or that has a reserved bit set, decodes to none. -/

/-- The body of a BANK tile. -/
opaque bankBody : List Byte → Option Machine.BankImage

/-- The body of an AUTO tile. -/
opaque autoBody : List Byte → Option Machine.AutoImage

/-- The body of an ACT tile. -/
opaque actBody : List Byte → Option Machine.ActImage

/-- The body of an LPM tile. -/
opaque lpmBody : List Byte → Option Machine.LpmImage

/-- The body of a POLICY tile. -/
opaque policyBody : List Byte → Option Machine.Policy

end Sys2Proof.Config
end

