-- ==== Sys2Proof/Machine/Regs.lean ====
section
/-! DEFINITION. What a register table of the manual says, as data: fields with their access code (R5), commit
class (R7) and reset value, registers with their offsets, and blocks with their place in BAR0 (R449). -/

namespace Sys2Proof.Machine

/-- Access codes of R5. -/
inductive Access where
  | rw | ro | wo | w1c | w1s | rc
deriving DecidableEq, Repr

/-- Commit classes of R7. -/
inductive Commit where
  | now | epoch | idle
deriving DecidableEq, Repr

/-- One field of a register table. `lo ≤ written ≤ hi` is what 'acts and reads as the nearer limit' gives. -/
structure Field where
  hi    : Nat
  lo    : Nat
  acc   : Access
  cls   : Commit := .now
  rst   : Nat := 0
  min   : Nat := 0
  max   : Option Nat := none
deriving DecidableEq, Repr

/-- A register, or `n` registers `step` bytes apart. Bits in no field are reserved (R4). -/
structure RegDef where
  name   : String
  off    : Nat
  n      : Nat
  step   : Nat
  fields : List Field
deriving DecidableEq, Repr

/-- 64-bit counters: `n` of them, `step` bytes apart, LO word first (R91). -/
structure CntDef where
  name : String
  off  : Nat
  n    : Nat
  step : Nat
deriving DecidableEq, Repr

/-- A block of BAR0: `n` instances `size` bytes apart from `base`. -/
structure Block where
  base : Nat
  size : Nat
  n    : Nat
  regs : List RegDef
  cnts : List CntDef
deriving DecidableEq, Repr

/-- A read and write field of class NOW. -/
def rw (hi lo : Nat) (rst : Nat := 0) : Field := ⟨hi, lo, .rw, .now, rst, 0, none⟩
/-- A read and write field of class IDLE. -/
def rwI (hi lo : Nat) (rst : Nat := 0) : Field := ⟨hi, lo, .rw, .idle, rst, 0, none⟩
/-- A read and write field of class EPOCH. -/
def rwE (hi lo : Nat) (rst : Nat := 0) : Field := ⟨hi, lo, .rw, .epoch, rst, 0, none⟩
/-- A read-only field. -/
def ro (hi lo : Nat) (rst : Nat := 0) : Field := ⟨hi, lo, .ro, .now, rst, 0, none⟩
/-- A write-only field. -/
def wo (hi lo : Nat) : Field := ⟨hi, lo, .wo, .now, 0, 0, none⟩
/-- A field whose bits a 1 clears. -/
def w1c (hi lo : Nat) (rst : Nat := 0) : Field := ⟨hi, lo, .w1c, .now, rst, 0, none⟩
/-- A field whose bits a 1 sets. -/
def w1s (hi lo : Nat) : Field := ⟨hi, lo, .w1s, .now, 0, 0, none⟩
/-- A field that a read clears. -/
def rc (hi lo : Nat) : Field := ⟨hi, lo, .rc, .now, 0, 0, none⟩
/-- The field with limits that a write acts and reads as. -/
def Field.lim (f : Field) (lo hi : Nat) : Field := { f with min := lo, max := some hi }

/-- One register. -/
def reg (name : String) (off : Nat) (fields : List Field) : RegDef := ⟨name, off, 1, 4, fields⟩
/-- `n` registers four bytes apart. -/
def regs (name : String) (off n : Nat) (fields : List Field) : RegDef := ⟨name, off, n, 4, fields⟩

/-- The bits of a field in place. -/
def Field.mask (f : Field) : Nat := (2 ^ (f.hi + 1 - f.lo) - 1) <<< f.lo

/-- What a field holds in a word. -/
def Field.of (f : Field) (w : Nat) : Nat := bits w f.hi f.lo

/-- The value a written value acts and reads as. -/
def Field.limit (f : Field) (v : Nat) : Nat :=
  match f.max with
  | none => if v < f.min then f.min else v
  | some m => clampNat f.min m v

/-- A register's value at reset. -/
def RegDef.reset (r : RegDef) : Nat := r.fields.foldl (fun a f => a + f.rst <<< f.lo) 0

/-- Whether an offset within the block is one of the definition's registers. -/
def RegDef.holds (r : RegDef) (o : Nat) : Bool :=
  r.off ≤ o && o < r.off + r.n * r.step && (o - r.off) % r.step == 0

/-- The LO address of the counter that an offset lies in, and whether it is the HI word. -/
def CntDef.holds (c : CntDef) (o : Nat) : Bool :=
  c.off ≤ o && o < c.off + c.n * c.step && (o - c.off) % c.step < 8 && o % 4 == 0

end Sys2Proof.Machine
end

