-- ==== Sys2Proof/Machine/RegMap.lean ====
section
/-! DEFINITION. The register tables of the manual, block by block, in the order of the BAR0 map (R449). Read-only
fields that the device works out from other state are listed here and worked out in ReadBack. -/

namespace Sys2Proof.Machine

/-- R616: the fault collector. -/
def fltBlock : Block := ⟨0x30000, 0x8000, 1,
  [reg "FLT_CTRL" 0x00 [rw 7 7 1, rw 4 4 1, rw 1 0],
   reg "FLT_STATUS" 0x04 [ro 24 16],
   reg "FLT_EVENT" 0x08 [w1c 3 3, w1c 2 2, w1c 1 1, w1c 0 0],
   reg "FLT_QUIET" 0x0C [(rw 9 0 10).lim 1 1000],
   reg "FLT_INJ" 0x10 [wo 17 16, wo 15 0],
   reg "FLT_POP" 0x14 [wo 0 0],
   reg "FLT_SRC_SEL" 0x18 [rw 15 0],
   reg "FLT_SRC_STATE" 0x1C [ro 31 30, ro 29 26, ro 15 0],
   regs "FLT_REC" 0x100 16 [ro 31 0],
   regs "FLT_REACT" 0x200 64 [rw 31 31, rw 29 28, rw 15 0]],
  [⟨"FLT_OVF", 0x20, 4, 8⟩]⟩

/-- R595: FLT_MEM_SCRUB. -/
def scrubBlock : Block := ⟨0x37F00, 4, 1, [reg "FLT_MEM_SCRUB" 0 [(rw 31 28 2).lim 1 15, rw 27 0 3600000]], []⟩

/-- R43 and the tables after it: the time island. -/
def timBlock : Block := ⟨0x40000, 0x10000, 1,
  [reg "TIM_CTRL" 0x00 [rw 19 16 3, rw 15 8 100, rw 7 7, rw 6 6, rw 5 4, rw 2 2 1, rw 0 0],
   reg "TIM_STATUS" 0x04 [ro 15 8, w1c 7 7, w1c 6 6, w1c 5 5, ro 3 2, ro 1 0],
   reg "TIM_NS" 0x08 [ro 29 0],
   reg "TIM_SEC_LO" 0x0C [ro 31 0],
   reg "TIM_SECHI" 0x10 [ro 31 16, ro 15 0],
   reg "TIM_INCR" 0x14 [rw 31 24 6, rw 23 0 0x666666],
   reg "TIM_ADJ" 0x18 [rw 31 0],
   reg "TIM_STEP" 0x1C [wo 31 0],
   reg "TIM_SERVO" 0x20 [wo 31 0],
   reg "TIM_ERR_BOUND" 0x24 [ro 31 0 0xFFFFFFFF],
   reg "TIM_PPS_CAP" 0x28 [ro 31 30, ro 29 0],
   reg "TIM_MONO_LO" 0x2C [ro 31 0],
   reg "TIM_MONO_HI" 0x30 [ro 31 0]],
  []⟩

/-- R470: the DMA channels. -/
def dmaBlock : Block := ⟨0x20000, 0x400, 64,
  [reg "DMA_CTRL" 0x00 [rw 23 16 1, rw 15 8, w1s 2 2, w1s 1 1, rw 0 0],
   reg "DMA_STATUS" 0x04 [w1c 31 31, w1c 30 30, ro 2 0],
   reg "DMA_EVENT" 0x08 [w1c 5 5, w1c 4 4, w1c 3 3, w1c 2 2, w1c 1 1, w1c 0 0],
   reg "DMA_INJECT" 0x0C [w1s 0 0],
   reg "DMA_RING_LO" 0x10 [rwI 31 0], reg "DMA_RING_HI" 0x14 [rwI 31 0],
   reg "DMA_RING_SIZE" 0x18 [(rwI 4 0 8).lim 4 16],
   reg "DMA_TAIL" 0x1C [rw 15 0], reg "DMA_HEAD" 0x20 [ro 15 0],
   reg "DMA_CPL_LO" 0x24 [rwI 31 0], reg "DMA_CPL_HI" 0x28 [rwI 31 0],
   reg "DMA_CPL_SIZE" 0x2C [(rwI 4 0 8).lim 4 16],
   reg "DMA_CPL_TAIL" 0x30 [rw 15 0], reg "DMA_CPL_HEAD" 0x34 [ro 15 0],
   reg "DMA_HOSTQ" 0x38 [rwI 26 16, rwI 11 0],
   reg "DMA_RECV" 0x3C [ro 24 16, ro 12 0],
   reg "DMA_HALT_IDX" 0x40 [ro 15 0]],
  [⟨"DMA_CNT", 0x80, 7, 8⟩]⟩

/-- The registers common to every port block (R90). -/
def portRegs : List RegDef :=
  [reg "PRT_FRAME" 0x08 [rwI 31 16 0x9100, (rw 13 0 1522).lim 64 9600],
   reg "PRT_PFC" 0x0C [rw 31 16 200, rw 15 8, rw 7 0],
   reg "PRT_PFC_WD" 0x10 [rw 31 0 20000],
   reg "PRT_PREEMPT" 0x14 [rw 11 10, rw 9 8, rw 7 0],
   reg "PRT_TRAIN" 0x18 [rwI 31 16 3000, rwI 15 12 3, rwI 11 0 10],
   reg "PRT_SEQ_LO" 0x24 [ro 31 0], reg "PRT_SEQ_HI" 0x28 [ro 31 0],
   reg "PRT_CTLPOL0" 0x40 [rw 31 20 64, rw 19 0 1000],
   reg "PRT_CTLPOL1" 0x44 [rw 31 20 64, rw 19 0 2000],
   reg "PRT_CTLPOL2" 0x48 [rw 31 20 128, rw 19 0 2000],
   reg "PRT_CTLPOL3" 0x4C [rw 31 20 1024, rw 19 0 100000]]

/-- 64-bit counters of a port block: drops by reason, PFC received, PFC sent, and traffic (R90). -/
def portCnts : List CntDef :=
  [⟨"PRT_DROP", 0x100, 16, 8⟩, ⟨"PRT_PFC_RX", 0x180, 8, 8⟩, ⟨"PRT_PFC_TX", 0x1C0, 8, 8⟩, ⟨"PRT_CNT", 0x200, 4, 8⟩]

/-- R90: the bays. -/
def bayBlock : Block := ⟨0x200000, 0x2000, 48,
  [reg "PRT_CTRL" 0x00 [rw 8 8, rw 7 7, rw 6 6, rwI 5 5 1, rwI 3 1 7, rw 0 0],
   reg "PRT_STATUS" 0x04 [w1c 31 31, w1c 23 16, ro 10 10, ro 9 9, ro 8 8, ro 7 7, ro 6 4, ro 2 0],
   reg "PRT_QUAR" 0x1C [rw 31 28, rw 27 24 3, rw 23 19 10, rw 18 14 14, rw 13 9 14, rw 8 0 100],
   reg "PRT_EVENT" 0x20 [w1c 7 7, w1c 6 6, w1c 5 5, w1c 4 4, w1c 3 3, w1c 2 2, w1c 1 1, w1c 0 0],
   ⟨"PRT_BIND_LO", 0x80, 16, 8, [rw 31 0]⟩,
   ⟨"PRT_BIND_HI", 0x84, 16, 8, [rw 31 31, rw 27 16, rw 15 0]⟩] ++ portRegs, portCnts⟩

/-- R90: PRT_STATUS and PRT_EVENT of a network port, without the fields that apply to bays only. -/
def netRegs : List RegDef :=
  [reg "PRT_STATUS" 0x04 [w1c 31 31, ro 10 10, ro 8 8, ro 7 7, ro 6 4, ro 2 0],
   reg "PRT_EVENT" 0x20 [w1c 7 7, w1c 6 6, w1c 5 5, w1c 4 4, w1c 2 2, w1c 1 1, w1c 0 0]] ++ portRegs

/-- R90: the whole network ports and their half 0. -/
def netBlock : Block := ⟨0x260000, 0x2000, 16,
  reg "PRT_CTRL" 0x00 [rw 6 6, rwI 5 5 1, rwI 4 4, ro 3 1 4, rw 0 0] :: netRegs, portCnts⟩

/-- R90: the halves 1 of the network ports. -/
def half1Block : Block := ⟨0x261000, 0x2000, 16,
  reg "PRT_CTRL" 0x00 [rw 6 6, rwI 5 5 1, ro 3 1 4, rw 0 0] :: netRegs, portCnts⟩

/-- R92: the lanes of one lane die; blocks 82 to 87 belong to spare lanes. -/
def laneBlock (d : Nat) : Block := ⟨0x280000 + d * 0x10000, 0x100, 88,
  [reg "PRT_LANE_MAP" 0x00 [ro 6 0], reg "PRT_LANE_LIM" 0x04 [rw 12 8 23, rw 7 0 16]],
  [⟨"PRT_LANE_CORR", 0x10, 1, 8⟩, ⟨"PRT_LANE_UNC", 0x18, 1, 8⟩]⟩

/-- R341: the global scheduler registers. -/
def schBlock : Block := ⟨0x300000, 0x1000, 1,
  [reg "SCH_CTRL" 0x00 [(rw 6 0 90).lim 1 90],
   reg "SCH_STATUS" 0x04 [ro 0 0],
   reg "SCH_EVENT" 0x08 [w1c 4 4, w1c 3 3, w1c 2 2, w1c 1 1, w1c 0 0],
   reg "SCH_INJECT" 0x0C [w1s 1 1, w1s 0 0],
   reg "SCH_NOTICE_DA_LO" 0x10 [rw 31 0 0x4F4C4E01], reg "SCH_NOTICE_DA_HI" 0x14 [rw 15 0 0x0345],
   reg "SCH_NOTICE_SA_LO" 0x18 [rw 31 0 0x4F4C0000], reg "SCH_NOTICE_SA_HI" 0x1C [rw 15 0 0x0245],
   reg "SCH_AGER_LAP" 0x20 [ro 31 0]],
  [⟨"SCH_CNT", 0x100, 7, 8⟩]⟩

/-- The registers of one interface's scheduler (R342) and of its reel (R367); `bay` keeps NOTICE_EN. -/
def schIfRegs (bay : Bool) : List RegDef :=
  [reg "SCH_IF_CTRL" 0x00 (rw 11 9 7 :: rwI 5 0 20 :: (if bay then [rw 8 8 1] else [])),
   reg "SCH_IF_STATUS" 0x04 [w1c 31 31, w1c 30 30, ro 6 0 100],
   reg "SCH_IF_RATE" 0x08 [rw 31 31, rw 19 0],
   reg "SCH_IF_BURST" 0x0C [rw 23 0 65536],
   reg "SCH_IF_NOTICE" 0x10 [(rw 25 16 100).lim 10 980, rw 11 0],
   reg "SCH_IF_CIR_SUM" 0x14 [ro 19 0],
   reg "SCH_IF_EVENT" 0x18 [w1c 4 4, w1c 3 3, w1c 2 2, w1c 1 1, w1c 0 0],
   reg "SCH_REEL_CTRL" 0x300 [(rw 25 16 10).lim 1 1023, (rw 15 8 64).lim 64 255, rw 0 0 1],
   reg "SCH_REEL_COAST" 0x304 [rw 0 0],
   reg "SCH_REEL_STATUS" 0x308 [ro 31 30, ro 29 29, ro 23 16 0xFF, ro 10 0],
   reg "SCH_REEL_EVENT" 0x30C [w1c 7 7, w1c 6 6, w1c 5 5, w1c 4 4, w1c 3 3, w1c 2 2, w1c 1 1, w1c 0 0],
   reg "SCH_REEL_LATE" 0x310 [ro 31 0], reg "SCH_REEL_CUR" 0x314 [ro 31 0], reg "SCH_REEL_NEXT" 0x318 [ro 31 0],
   reg "SCH_REEL_AT_NS" 0x31C [ro 29 0], reg "SCH_REEL_AT_SEC_LO" 0x320 [ro 31 0],
   reg "SCH_REEL_AT_SEC_HI" 0x324 [ro 15 0],
   reg "SCH_REEL_HO_SEL" 0x328 [rw 10 0], reg "SCH_REEL_HO_CNT" 0x32C [rc 31 0]]

/-- 64-bit counters of an interface's scheduler: five of each class, five of refusals, four more (R342). -/
def schIfCnts : List CntDef :=
  [⟨"SCH_IF_CLASS", 0x40, 40, 8⟩, ⟨"SCH_IF_REF", 0x180, 5, 8⟩, ⟨"SCH_IF_ENDS", 0x1A8, 4, 8⟩,
   ⟨"SCH_REEL_CNT", 0x330, 4, 8⟩, ⟨"SCH_REEL_HOLD", 0x380, 16, 8⟩]

/-- R342: the schedulers of the bays. -/
def schBayBlock : Block := ⟨0x301000, 0x400, 48, schIfRegs true, schIfCnts⟩
/-- R342: the schedulers of the network ports and their halves; the blocks of codes 48 to 63 hold no register. -/
def schNetBlock : Block := ⟨0x311000, 0x400, 32, schIfRegs false, schIfCnts⟩

/-- R310: the buffer halves. -/
def brkBlock : Block := ⟨0x400000, 0x10000, 2,
  [reg "BRK_CTRL" 0x00 [rw 1 1, rw 0 0 1],
   reg "BRK_STATUS" 0x04 [w1c 31 31, ro 27 26, ro 20 0],
   reg "BRK_EVENT" 0x08 [w1c 9 9, w1c 8 8, w1c 7 7, w1c 6 6, w1c 5 5, w1c 4 4, w1c 3 3, w1c 2 2, w1c 1 1, w1c 0 0],
   reg "BRK_INJECT" 0x0C [w1s 1 1, w1s 0 0],
   reg "BRK_AMBER" 0x10 [rw 20 0 131072], reg "BRK_RED" 0x14 [rw 20 0 65536],
   reg "BRK_BLACK" 0x18 [rw 20 0 16384], reg "BRK_HYST" 0x1C [rw 20 0 4096],
   reg "BRK_BAY_SHARE" 0x20 [rw 20 0 16384],
   reg "BRK_INSERVICE" 0x24 [ro 20 0], reg "BRK_SPARE" 0x28 [ro 20 0], reg "BRK_RETIRED" 0x2C [ro 20 0],
   reg "BRK_RETIRING" 0x30 [ro 20 0], reg "BRK_SWEEP" 0x34 [ro 31 0],
   reg "BRK_RESV0" 0x40 [rw 20 0 98304], reg "BRK_CEIL0" 0x44 [rw 20 0 311808],
   reg "BRK_RESV1" 0x48 [rw 20 0 65536], reg "BRK_CEIL1" 0x4C [rw 20 0 311808],
   reg "BRK_RESV2" 0x50 [rw 20 0 32768], reg "BRK_CEIL2" 0x54 [rw 20 0 103936],
   reg "BRK_RESV3" 0x58 [rw 20 0 8192], reg "BRK_CEIL3" 0x5C [rw 20 0 32768],
   reg "BRK_RESV4" 0x60 [rw 20 0 2048], reg "BRK_CEIL4" 0x64 [rw 20 0 32768],
   reg "BRK_RESV5" 0x68 [rw 20 0 16384], reg "BRK_CEIL5" 0x6C [rw 20 0 65536],
   reg "BRK_RESV6" 0x70 [rw 20 0 8192], reg "BRK_CEIL6" 0x74 [rw 20 0 32768],
   reg "BRK_RESV7" 0x78 [rw 20 0 8192], reg "BRK_CEIL7" 0x7C [rw 20 0 65536],
   regs "BRK_USED" 0x80 8 [ro 20 0], regs "BRK_IF_USED" 0x100 96 [ro 20 0]],
  [⟨"BRK_CNT", 0x300, 13, 8⟩]⟩

/-- R2, R285, R471, R665, R683: the global block. -/
def glbBlock : Block := ⟨0x0, 0x10000, 1,
  [reg "GLB_ID" 0x00 [ro 31 16 0x4800, ro 15 8 0xB0, ro 7 4, ro 0 0],
   reg "GLB_IRQ_EN" 0x200 [rw 7 1], reg "GLB_IRQ_SUM" 0x204 [w1c 7 1],
   reg "GLB_HOST_STATUS" 0x208 [ro 31 28, ro 27 24, ro 0 0],
   reg "GLB_BOOT_STATUS" 0x20C [ro 31 29, ro 28 28, ro 27 26, ro 25 22, ro 21 18, ro 17 16, ro 15 14, ro 6 0],
   reg "GLB_TS_BASE_LO" 0x210 [rw 31 10, rw 0 0], reg "GLB_TS_BASE_HI" 0x214 [rw 31 0],
   reg "GLB_RESET_CAUSE" 0x218 [ro 31 16, w1c 6 0 1],
   reg "GLB_BOOT_INFO" 0x21C [ro 31 16],
   reg "GLB_DBG_STATUS" 0x220 [ro 31 30, ro 29 29, ro 28 28, w1c 27 27, ro 26 26, ro 23 16],
   regs "GLB_TS" 0x400 96 [rc 31 16, ro 13 8, rw 5 0]],
  []⟩

/-- Event, status, injection and counter registers of a physical course: actions (R255), mortar (R108), parser (R138),
tables (R224) and the speed report (R36). -/
def courseRegs : List RegDef :=
  [reg "CRS_SPEED" 0x10 [ro 31 31, w1c 30 30, ro 15 0],
   reg "ACT_STATUS" 0x204 [ro 10 0],
   reg "ACT_EVENT" 0x208 [w1c 4 4, w1c 3 3, w1c 2 2, w1c 1 1, w1c 0 0],
   reg "ACT_INJECT" 0x20C [w1s 0 0],
   reg "ACT_MRT_INJECT" 0x404 [w1s 1 1, w1s 0 0],
   reg "PRS_STATUS" 0x808 [w1c 31 31, ro 27 16, ro 8 0],
   reg "PRS_EVENT" 0x80C [w1c 3 3, w1c 2 2, w1c 1 1, w1c 0 0],
   reg "PRS_INJECT" 0x810 [w1s 0 0],
   reg "TBL_STATUS" 0xC10 [ro 25 13, ro 12 0],
   reg "TBL_EVENT" 0xC14 [w1c 8 8, w1c 7 7, w1c 6 6, w1c 5 5, w1c 4 4, w1c 3 3, w1c 2 2, w1c 1 1, w1c 0 0],
   reg "TBL_INJECT" 0xC18 [w1s 1 1, w1s 0 0],
   reg "TBL_L2_STATUS" 0xC1C [ro 18 0]]

/-- 64-bit counters of a physical course. -/
def courseCnts : List CntDef :=
  [⟨"ACT_CNT", 0x210, 9, 8⟩, ⟨"ACT_MRT_ADM", 0x410, 2, 8⟩, ⟨"PRS_CNT", 0x820, 10, 8⟩, ⟨"TBL_CNT", 0xC80, 16, 8⟩]

/-- The blocks of C00 to C15: the registers of the course of that name beside those of the physical course. -/
def courseBlock : Block := ⟨0x100000, 0x8000, 16, courseRegs ++
  [reg "ACT_RECIRC" 0x200 [rwE 2 0 3],
   reg "ACT_MRT_CTRL" 0x400 [(rw 19 16).lim 0 10, rw 15 8 16, rw 4 0],
   reg "PRS_DEPTH_MAX" 0x800 [(rwE 4 0 24).lim 1 24],
   reg "PRS_FRAG_CTRL" 0x804 [rwI 31 31 1, rw 30 20 512, rw 19 10 200, rw 9 0 20],
   reg "TBL_CTX_CTRL" 0xC00 [(rw 25 13 1024).lim 0 4096, rw 9 0 50],
   reg "TBL_CTX_LAP" 0xC04 [(rw 15 0 100).lim 10 65535],
   reg "TBL_L2_CTRL" 0xC08 [rw 31 31, rw 30 30, rw 25 18 10, rw 17 6 1000, rw 3 0 4],
   reg "TBL_L2_LAP" 0xC0C [rw 15 0 150],
   reg "TBL_CTX_AGE0" 0xC20 [rw 15 0 10], reg "TBL_CTX_AGE1" 0xC24 [rw 15 0 300],
   reg "TBL_CTX_AGE2" 0xC28 [rw 15 0 1200], reg "TBL_CTX_AGE3" 0xC2C [rw 15 0 3000],
   reg "TBL_CTX_AGE4" 0xC30 [rw 15 0 18000], regs "TBL_CTX_AGE5" 0xC34 3 [rw 15 0],
   regs "TBL_LRN_LIMIT" 0xC40 5 [rw 18 0], regs "TBL_LRN_COUNT" 0xC60 5 [ro 18 0]],
  courseCnts ++ [⟨"ACT_MRT_EGR", 0x420, 10, 8⟩]⟩

/-- The blocks of the spare courses C16 and C17; AUDIT_K and LIMIT act on the physical course. -/
def spareCourseBlock : Block := ⟨0x180000, 0x8000, 2,
  reg "ACT_MRT_CTRL" 0x400 [(rw 19 16).lim 0 10, rw 15 8 16] :: courseRegs, courseCnts⟩

/-- The device-wide table registers, in the block of C00 only (R224). -/
def storeBlock : Block := ⟨0x100D00, 0x10, 1,
  [reg "TBL_HASH_SEED" 0x0 [rwI 31 0],
   reg "TBL_STORE_CTRL" 0x4 [(rwI 11 8 4).lim 1 8, rw 7 0 10],
   reg "TBL_CTX_MIN_EPOCH" 0x8 [rwE 15 0],
   reg "TBL_STORE_STATUS" 0xC [w1c 31 31, ro 24 0]], []⟩

/-- R177: the physical banks. -/
def bankBlock : Block := ⟨0x500000, 0x400, 68,
  [reg "ASM_BANK_CTRL" 0x00 [rw 2 2 1, rwI 1 0],
   reg "ASM_BANK_STATUS" 0x04 [w1c 31 31, ro 30 28, ro 11 0],
   reg "ASM_BANK_SCAN" 0x08 [ro 31 0],
   reg "ASM_BANK_INJECT" 0x0C [w1s 1 1, w1s 0 0]],
  [⟨"ASM_BANK_CNT", 0x10, 3, 8⟩]⟩

/-- R177: the bank map. -/
def asmMapBlock : Block := ⟨0x518000, 0x100, 1, [regs "ASM_MAP" 0 64 [ro 6 0]], []⟩

/-- R178: the automata units. -/
def auBlock : Block := ⟨0x580000, 0x1000, 16,
  [reg "AU_CTRL" 0x00 [rw 0 0 1],
   reg "AU_STATUS" 0x04 [ro 31 30 1, ro 26 16, ro 15 14, ro 13 7 100, ro 6 0 100],
   reg "AU_RATE" 0x08 [ro 15 0],
   reg "AU_INJECT" 0x0C [w1s 0 0]],
  [⟨"AU_CNT", 0x20, 9, 8⟩]⟩

/-- R285: the epoch registers of the global block. -/
def epochBlock : Block := ⟨0x100, 0x28, 1,
  [reg "GLB_EPOCH_CUR" 0x0 [ro 31 16, ro 0 0], reg "GLB_EPOCH_DRAIN" 0x4 [ro 31 16, ro 1 1, ro 0 0],
   reg "GLB_EPOCH_STATUS" 0x8 [ro 31 30, ro 15 0], regs "GLB_EPOCH_COUNT" 0xC 2 [ro 31 0],
   reg "GLB_TILE_STORE" 0x14 [ro 28 18, ro 17 0], reg "GLB_STATE_REGION" 0x18 [ro 28 18, ro 17 0],
   reg "GLB_EPOCH_EVENT" 0x1C [w1c 3 3, w1c 2 2, w1c 1 1, w1c 0 0],
   reg "GLB_EPOCH_AT_LO" 0x20 [ro 31 0], reg "GLB_EPOCH_AT_HI" 0x24 [ro 31 0]], []⟩

/-- R410: the sets. -/
def setBlock : Block := ⟨0x600000, 0x2000, 64,
  [reg "SET_CTRL" 0x00 [(rw 31 18 1000).lim 1 10000, rw 17 10 16, rw 2 2, rw 1 1 1, rw 0 0 1],
   reg "SET_STATUS" 0x04 [w1c 31 31, ro 30 28, ro 21 18 8, ro 17 9 0xFF, ro 8 0],
   reg "SET_EVENT" 0x08 [w1c 4 4, w1c 3 3, w1c 2 2, w1c 1 1, w1c 0 0],
   reg "SET_INJECT" 0x0C [w1s 1 1, w1s 0 0],
   reg "SET_PERM" 0x10 [rwI 4 0 15], reg "SET_SERIAL" 0x14 [rwI 15 0],
   reg "SET_LOG" 0x18 [ro 31 16, ro 9 0],
   regs "SET_ENG" 0x20 9 [ro 31 28, ro 27 16, ro 11 8, ro 7 0]],
  [⟨"SET_CNT", 0x100, 9, 8⟩]⟩

/-- R495: the control registers of the mailboxes; their areas are not registers. -/
def mbxBlock : Block := ⟨0x11000, 0x2000, 8,
  [reg "MBX_DOORBELL" 0x00 [wo 15 0],
   reg "MBX_CTRL" 0x04 [rw 23 16 100, rwI 3 3, rw 2 2 1, w1s 1 1, w1s 0 0],
   reg "MBX_STATUS" 0x08 [w1c 31 31, ro 30 23, ro 22 22, ro 21 13, ro 12 6, ro 1 0],
   reg "MBX_EVENT" 0x0C [w1c 7 7, w1c 6 6, w1c 5 5, w1c 4 4, w1c 3 3, w1c 2 2, w1c 1 1, w1c 0 0],
   reg "MBX_CRING_LO" 0x10 [rwI 31 0], reg "MBX_CRING_HI" 0x14 [rwI 31 0],
   reg "MBX_CRING_SIZE" 0x18 [(rwI 4 0 6).lim 4 12],
   reg "MBX_CRING_TAIL" 0x1C [rw 15 0], reg "MBX_CRING_HEAD" 0x20 [ro 15 0],
   reg "MBX_INJECT" 0x24 [w1s 0 0]], []⟩

/-- R441: the caller. PWR_GRANTc has the reset MIN of R423. -/
def pwrBlock : Block := ⟨0x50000, 0x10000, 1,
  [reg "PWR_CTRL" 0x00 [rw 21 21, rw 20 20 1, (rw 19 10 50).lim 1 1000, rw 7 0 10],
   reg "PWR_VOLT" 0x04 [(rw 29 20 820).lim 680 820, (rw 19 10 750).lim 680 820, (rw 9 0 750).lim 680 820],
   reg "PWR_VSTATUS" 0x08 [ro 31 31, ro 30 30, ro 29 20 680, ro 19 10, ro 9 0 680],
   reg "PWR_LIMIT" 0x0C [ro 25 16, rw 9 0],
   reg "PWR_POWER" 0x10 [ro 21 12, rw 9 0 140],
   reg "PWR_THERM" 0x14 [ro 31 24, ro 23 16, ro 15 8, ro 7 6, ro 5 0],
   reg "PWR_STATE" 0x18 [ro 31 30 2, ro 29 28 2, ro 27 27, ro 26 26, ro 25 25, ro 24 24],
   reg "PWR_EVENT" 0x1C [w1c 8 8, w1c 7 7, w1c 6 6, w1c 5 5, w1c 4 4, w1c 3 3, w1c 2 2, w1c 1 1, w1c 0 0],
   reg "PWR_INJECT" 0x20 [w1s 1 1, w1s 0 0],
   reg "PWR_WAKE" 0x24 [w1c 21 16, ro 13 8, rw 5 0 15],
   reg "PWR_ALARM_LO" 0x28 [rw 31 0 0xFFFFFFFF], reg "PWR_ALARM_HI" 0x2C [rw 15 0 0xFFFF],
   regs "PWR_GRANT01" 0x40 2 [ro 23 16 100, (rw 7 0 25).lim 0 100],
   regs "PWR_GRANT23" 0x48 2 [ro 23 16 100, (rw 7 0 10).lim 0 100],
   regs "PWR_GRANT45" 0x50 2 [ro 23 16 100, (rw 7 0 0).lim 0 100],
   reg "PWR_DISPATCH" 0x60 [rw 31 24 64, rw 9 0 16],
   regs "PWR_DOM" 0x100 112 [ro 31 30, ro 29 28, ro 15 0]],
  [⟨"PWR_CNT", 0x300, 5, 8⟩]⟩

/-- R642: wear, with the limits of R622 by kind. -/
def wearBlock : Block := ⟨0x60000, 0x10000, 1,
  [reg "WEAR_CTRL" 0x00 [rw 3 3 1, rw 2 2 1, rw 1 1 1, rw 0 0 1],
   reg "WEAR_THRESH" 0x04 [rw 19 16 3, rw 15 0 500],
   reg "WEAR_STATUS" 0x08 [ro 31 28 15, ro 27 24, ro 23 16, ro 15 0],
   reg "WEAR_EVENT" 0x0C [w1c 5 5, w1c 4 4, w1c 3 3, w1c 2 2, w1c 1 1, w1c 0 0],
   reg "WEAR_INJECT" 0x10 [w1s 0 0],
   reg "WEAR_PERIOD" 0x14 [rw 15 0 60],
   reg "WEAR_LIFE" 0x18 [ro 31 31, ro 15 0],
   reg "WEAR_UNIT_SEL" 0x1C [rw 31 16, rw 15 0],
   reg "WEAR_UNIT" 0x20 [ro 31 29, ro 23 16, ro 15 0],
   reg "WEAR_LIMIT0" 0x40 [rw 31 16 24, rw 15 0 16], reg "WEAR_LIMIT1" 0x44 [rw 31 16 24, rw 15 0 8],
   reg "WEAR_LIMIT2" 0x48 [rw 31 16 24, rw 15 0 16], reg "WEAR_LIMIT3" 0x4C [rw 31 16 24, rw 15 0 32],
   reg "WEAR_LIMIT4" 0x50 [rw 31 16 24, rw 15 0 8], reg "WEAR_LIMIT5" 0x54 [rw 31 16 24, rw 15 0 64],
   reg "WEAR_LIMIT6" 0x58 [rw 31 16 24, rw 15 0 32], reg "WEAR_LIMIT7" 0x5C [rw 31 16, rw 15 0],
   reg "WEAR_LIMIT8" 0x60 [rw 31 16 24, rw 15 0 4], reg "WEAR_LIMIT9" 0x64 [rw 31 16 24, rw 15 0 64]],
  [⟨"WEAR_CNT", 0x100, 5, 8⟩]⟩

/-- R574: the pair. -/
def pairBlock : Block := ⟨0x700000, 0x100000, 1,
  [reg "PAIR_CTRL" 0x00 [(rw 23 16 8).lim 0 9, rw 15 8 100, rwI 7 4 4, rw 3 3 1, rw 2 2],
   reg "PAIR_STATUS" 0x04 [w1c 31 31, ro 30 28, ro 27 26, ro 25 25, ro 24 24, ro 23 16, ro 15 15, ro 14 14, ro 3 0],
   reg "PAIR_EVENT" 0x08 [w1c 9 9, w1c 8 8, w1c 7 7, w1c 6 6, w1c 5 5, w1c 4 4, w1c 3 3, w1c 2 2, w1c 1 1, w1c 0 0],
   reg "PAIR_INJECT" 0x0C [w1s 1 1, w1s 0 0],
   reg "PAIR_LAG" 0x10 [rc 31 16, ro 15 0],
   reg "PAIR_HANDOVER" 0x14 [rw 9 0 100],
   reg "PAIR_XFWD_RATE" 0x18 [rw 19 0 100000],
   regs "PAIR_HOME" 0x20 3 [rw 31 0], regs "PAIR_XFWD" 0x30 3 [rw 31 0]],
  [⟨"PAIR_CNT", 0x100, 9, 8⟩]⟩

/-- R595: the registers of the memory IDs `first` to `first + n - 1`; `scrub` is the field SCRUB_EN. -/
def memBlock (first n : Nat) (scrub : Field) : Block := ⟨0x38000 + first * 0x40, 0x40, n,
  [reg "FLT_MEM_CTRL" 0x00 [rw 31 16 64, rw 15 1 1, scrub],
   reg "FLT_MEM_STATUS" 0x04 [ro 23 8, w1c 4 4, w1c 3 3, w1c 2 2, w1c 1 1, w1c 0 0],
   reg "FLT_MEM_LAP" 0x08 [ro 31 0],
   reg "FLT_MEM_INJECT" 0x0C [w1s 1 1, w1s 0 0]],
  [⟨"FLT_MEM_CNT", 0x10, 6, 8⟩]⟩

/-- Every block of the BAR0 map. -/
def blocks : List Block :=
  [glbBlock, dmaBlock, fltBlock, timBlock, bayBlock, netBlock, half1Block, laneBlock 0, laneBlock 1, laneBlock 2,
   laneBlock 3, schBlock, schBayBlock, schNetBlock, brkBlock, courseBlock, spareCourseBlock, storeBlock, bankBlock,
   asmMapBlock, auBlock, epochBlock, setBlock, mbxBlock, pwrBlock, wearBlock, pairBlock, scrubBlock, memBlock 0 10 (rw 0 0 1),
   memBlock 10 2 (ro 0 0), memBlock 12 11 (rw 0 0 1)]

/-- The register of a block at an address. -/
def Block.reg? (b : Block) (a : Nat) : Option RegDef :=
  if b.base ≤ a && a < b.base + b.n * b.size then b.regs.find? (·.holds ((a - b.base) % b.size)) else none

/-- Whether an address is a word of one of the block's 64-bit counters. -/
def Block.cnt? (b : Block) (a : Nat) : Option Nat :=
  if b.base ≤ a && a < b.base + b.n * b.size then
    (b.cnts.find? (·.holds ((a - b.base) % b.size))).map fun c => a - ((a - b.base) % b.size - c.off) % c.step
  else none

/-- The register at an address of BAR0; none where it holds no register (R4). -/
def reg? (a : Nat) : Option RegDef := blocks.findSome? (·.reg? a)

/-- The LO address of the 64-bit counter at an address of BAR0. -/
def cnt? (a : Nat) : Option Nat := blocks.findSome? (·.cnt? a)

/-- What a register reads at reset. -/
def resetOf (a : Nat) : Nat := match reg? a with | some r => r.reset | none => 0

end Sys2Proof.Machine
end

