-- ==== Sys2Proof/Machine/State.lean ====
section
/-! DEFINITION. The state of the BF-4800 as plain data: one structure per unit of the manual, `Dev` for the whole
block and `State` with the queue of waiting commands. Registers of BAR0 live in one register file by address; what
the hardware keeps beside them has a field of its own. -/

namespace Sys2Proof.Machine

/-! ### Faults and interrupts (chapters 15 and 20) -/

/-- An error held in a source's local error register until the collector decides it (R600). -/
structure Pend where
  src       : Nat
  code      : Nat
  detail    : List Nat
  injected  : Bool
  wear      : Bool
  requeued  : Bool
  coalesced : Nat
  mono      : Nat
  sec       : Nat
  tim       : Nat
  ns        : Nat
deriving DecidableEq, Repr

/-- A fault record (R602). -/
structure Rec where
  seq           : Nat
  code          : Nat
  sev           : Nat
  react         : Nat
  whileHandling : Bool
  injected      : Bool
  requeued      : Bool
  overridden    : Bool
  srcState      : Nat
  coalesced     : Nat
  src           : Nat
  recoveries    : Nat
  earlier       : Nat
  mono          : Nat
  sec           : Nat
  tim           : Nat
  ns            : Nat
  detail        : List Nat
deriving DecidableEq, Repr

/-- A source's state (R610, R611): 0 CLEAR, 1 FAULTED, 2 HELD; the strongest reaction it is under, when it last erred, the
quiet period in force, and whether an injected record began it. -/
structure Src where
  state      : Nat := 0
  recoveries : Nat := 0
  times      : List Nat := []
  lastError  : Nat := 0
  react      : Nat := 0
  quiet      : Nat := 0
  injected   : Bool := false
deriving DecidableEq, Repr

/-- A record being handled (R607), with the address word of its DETAIL. -/
structure Handling where
  seq   : Nat
  src   : Nat
  react : Nat
  at_   : Nat
  addr  : Nat
deriving DecidableEq, Repr

/-- The collector. `handling` holds the records being handled (R607), newest last, `isolated` the sources whose units CONTAIN
holds out of service, and `kept` and `again` the errors and records that AON retains to be queued again (R415, R656). -/
structure Faults where
  pend     : List Pend := []
  queue    : List Rec := []
  nextSeq  : Nat := 1
  srcs     : Map Src := []
  handling : List Handling := []
  isolated : List Nat := []
  kept     : List Pend := []
  again    : List Rec := []
deriving DecidableEq, Repr

/-- What the block drives onto its pins and links, oldest first: the model's own record of it. -/
inductive Emission where
  | msix (vector : Nat)
  | frame (iface : Nat) (bytes : List Byte) (stomped : Bool)
  | cut (iface : Nat)
  | pfc (iface : Nat) (mask quanta : Nat)
  | verify (iface : Nat)
  | fjarair (lane : Nat) (frame : Fjarair)
  | avs (command value : Nat)
  | host (addr : Nat) (bytes : List Byte)
  | dbg (ack : Nat) (data : List Nat)
  | tdo (value : Nat)
deriving DecidableEq, Repr

/-! ### Time (chapter 2) -/

/-- TIM_STATE. -/
inductive TimState where
  | unknown | coasted | locked
deriving DecidableEq, Repr

/-- What the always-on domain retains across Dormant (R56). -/
structure Snapshot where
  wall    : Nat
  mono    : Nat
  st      : TimState
  bound   : Nat
  counter : Nat
deriving DecidableEq, Repr

/-- The time island. Both views are counted in 2^-24 ns (R40). -/
structure Time where
  wall       : Nat := 0
  mono       : Nat := 0
  distWall   : Nat := 0
  distMono   : Nat := 0
  running    : Bool := true
  st         : TimState := .unknown
  steps      : List Int := []
  freq       : Int := 0
  prevUsed   : Bool := false
  outRun     : Nat := 0
  four       : List Int := []
  lockCount  : Nat := 0
  lastUpdate : Nat := 0
  silent     : Bool := false
  lastEdge   : Nat := 0
  missed     : Nat := 0
  boundEntry : Nat := 0xFFFFFFFF
  boundAt    : Nat := 0
  ref156     : Bool := true
  ref10      : Bool := false
  active     : Nat := 0
  takeover   : Option Nat := none
  ppsOut     : Bool := false
  ppsUntil   : Nat := 0
  slept      : Nat := 0
  nap        : Nat := 0
  snapshot   : Option Snapshot := none
  snapAsked  : Bool := false
  sramMono   : Nat := 0
deriving DecidableEq, Repr

/-! ### Packets, ledgers, bricks (chapters 8 and 10) -/

/-- A packet descriptor (R252), with what hardware keeps beside it: the packet's identity for the ledger, its
admission time, the GEN of its chain, the two-step destination of an injected packet, whether it is to be marked at egress,
and whether INJ_EGR inverted its word. -/
structure Desc where
  pid        : Nat := 0
  ledger     : Nat := 0
  aseq       : Nat := 0
  admIf      : Nat := 0xFF
  kind       : Nat := 0
  tag        : Nat := 0
  pass       : Nat := 0
  admChecked : Bool := false
  copy       : Bool := false
  mirror     : Bool := false
  mortar     : Nat := 0
  mlen       : Nat := 0
  msrc       : Nat := 0
  mpatch     : Nat := 0
  course     : Nat := 0
  lastAct    : Option Nat := none
  tstamp     : Nat := 0
  tsTag      : Nat := 0
  tsOp       : Nat := 0
  ptpOff     : Nat := 0
  tsUdp      : Bool := false
  tsSet      : Nat := 0xFF
  queue      : Nat := 0
  color      : Nat := 0
  l3Kind     : Nat := 0
  l3Off      : Nat := 0
  edit       : Option Nat := none
  trunc      : Nat := 0
  ctx        : Option Nat := none
  policer    : Option Nat := none
  chain      : Nat := 0
  gen        : Nat := 0
  node       : Nat := 0
  admTime    : Nat := 0
  mark       : Bool := false
  inverted   : Bool := false
deriving DecidableEq, Repr

/-- A packet's standing in the ledger of R247: its admitting course by name, its
interface and admission number, its copies that are no mirror copies and
have not ended, and whether it has been counted. -/
structure Acct where
  course  : Nat
  iface   : Nat := 0xFF
  aseq    : Nat := 0
  left    : Nat
  counted : Bool
deriving DecidableEq, Repr

/-- A course ledger (R19, R541), by course name. -/
structure Ledger where
  admitted  : Nat := 0
  departed  : Nat := 0
  toService : Nat := 0
  dropped   : Map Nat := []
  resident  : Nat := 0
deriving DecidableEq, Repr

/-- A chain: its chain record (R291), its bricks in order and the bytes they hold (R289). -/
structure Chain where
  refcnt : Nat
  cls    : Nat
  holder : Nat
  gen    : Nat
  bricks : List Nat
  admIf  : Nat
  bytes  : List Byte
  poison : Bool := false
  broken : Option Nat := none
  modified : Bool := false
deriving DecidableEq, Repr

/-- A brick that no valid chain record names (R307, R308), with the class and interface it was charged to and whether
the sweeper has found it on the lap before. -/
structure Orphan where
  cls    : Nat
  admIf  : Nat
  seen   : Nat
deriving DecidableEq, Repr

/-- A buffer half (R288 to R309): `fresh` is the lowest brick never taken, `returned` the freed ones in order. -/
structure Half where
  fresh     : Nat := 0
  returned  : List Nat := []
  chains    : Map Chain := []
  gens      : Map Nat := []
  orphans   : Map Orphan := []
  retired   : List Nat := []
  retiring  : List Nat := []
  level     : Nat := 0
  spareOut  : Bool := false
  lap       : Nat := 0
  netPfc    : Bool := false
  lapFreed  : Bool := false
  lapNo     : Nat := 0
deriving DecidableEq, Repr

/-! ### Queues (chapter 11) -/

/-- A bucket of R319: its credit in units of 1/800,000 byte, and the moment it was last brought up to date. -/
structure Bucket where
  credit : Int
  t      : Nat
deriving DecidableEq, Repr

/-- A copy waiting in a queue, with the moment it was queued and the bricks it is charged with; in a dispatch queue also
its work item record and the brick that holds it (R394), the only one charged where the item has no packet. -/
structure Waiting where
  desc : Desc
  enq  : Nat
  nb   : Nat
  item : Option (List Nat) := none
  brk  : Option (Nat × Nat) := none
deriving DecidableEq, Repr

/-- The parameters of a queue (R339) at the reset values of R340. -/
structure QParam where
  cir       : Nat := 0
  pir       : Nat := 0
  cbs       : Nat := 65536
  pbs       : Nat := 65536
  weight    : Nat := 1
  target    : Nat := 0
  ecnEn     : Bool := false
  qlim      : Nat := 16384
  resetMode : Nat := 0
deriving DecidableEq, Repr

/-- An egress queue. -/
structure Queue where
  par         : QParam := {}
  items       : List Waiting := []
  dep         : Bucket := ⟨65536 * 800000, 0⟩
  peak        : Bucket := ⟨65536 * 800000, 0⟩
  com         : Bucket := ⟨65536 * 800000, 0⟩
  lastSoj     : Nat := 0
  maxSoj      : Nat := 0
  holdOverrun : Nat := 0
  holdNo      : Bool := false
  lastTier    : Nat := 0
  tagG        : Nat := 0
  tagE        : Nat := 0
  awake       : Bool := false
deriving DecidableEq, Repr

/-- A class, group or interface node of the scheduler tree (R314, R327, R339): virtual times of the node, its own
start tags under its parent, and its shaper. -/
structure Node where
  strict : Bool := false
  weight : Nat := 1
  rate   : Nat := 0
  burst  : Nat := 0
  mode   : Nat := 0
  bucket : Bucket := ⟨0, 0⟩
  vtG    : Nat := 0
  vtE    : Nat := 0
  tagG   : Nat := 0
  tagE   : Nat := 0
deriving DecidableEq, Repr

/-- A policer (R323): parameters, buckets and its byte counts by colour. -/
structure Policer where
  cir    : Nat := 0
  pir    : Nat := 0
  cbs    : Nat := 65536
  pbs    : Nat := 65536
  mode   : Nat := 0
  peak   : Bucket := ⟨65536 * 800000, 0⟩
  com    : Bucket := ⟨65536 * 800000, 0⟩
  green  : Nat := 0
  yellow : Nat := 0
  red    : Nat := 0
deriving DecidableEq, Repr

/-- What the refusal notice of a bay has to tell (R335 to R337): unsent counts by class × 5 + cause. -/
structure Notice where
  counts : Map Nat := []
  lastAt : Option Nat := none
  seq    : Nat := 0
deriving DecidableEq, Repr

/-- A reel (R346, R349): its tile, the classes it governs, its start on the wall view in ns, its cycle, and its figures
as gates and interval. -/
structure Reel where
  tileId  : Nat
  handle  : Nat
  gated   : Nat
  start   : Nat
  cycle   : Nat
  figures : List (Nat × Nat)
deriving DecidableEq, Repr

/-- The reel slots of an interface (R345), with the gates last seen at the ball and what the start time was. -/
structure ReelPort where
  cur     : Option Reel := none
  pend    : Option Reel := none
  broken  : Bool := false
  gates   : Nat := 0xFF
  lateN   : Nat := 0
  atNs    : Nat := 0
  stepped : Bool := false
deriving DecidableEq, Repr

/-- The scheduler. Nodes by interface × 1024: class nodes at + g × 8 + k, group nodes at + 512 + g, the interface at + 1023. -/
structure Sched where
  queues   : Map Queue := []
  nodes    : Map Node := []
  policers : Map Policer := []
  notices  : Map Notice := []
  sending  : Map Waiting := []
  held     : Map Waiting := []
  sendEnd  : Map Nat := []
  reels    : Map ReelPort := []
  shed     : Bool := false
  agerAt   : Nat := 0
deriving DecidableEq, Repr

/-! ### Ports (chapter 3) -/

/-- States of R67. -/
inductive PortState where
  | empty | training | admitted | quarantined | withdrawn
deriving DecidableEq, Repr

/-- What a bay, a network port or a breakout half keeps beside its registers. -/
structure Port where
  st          : PortState := .empty
  active      : Bool := false
  present     : Bool := false
  speed       : Nat := 0
  seq         : Nat := 0
  excluded    : Nat := 0
  quarPending : Bool := false
  preActive   : Bool := false
  verifyTries : Nat := 0
  verifying   : Bool := false
  ctl         : Map Bucket := []
  bind        : Map (BitVec 64) := []
  paused      : Map Nat := []
  wdStart     : Map Nat := []
  recover     : Map Nat := []
  xoffSent    : Bool := false
  trig        : Map Nat := []
  winStart    : Nat := 0
  trigHit     : Bool := false
  holdFrom    : Nat := 0
  modesOut    : Nat := 0
  fails       : Map Nat := []
  mode        : Nat := 0
  tryStart    : Nat := 0
  gapFrom     : Option Nat := none
  lostAt      : Option Nat := none
  since       : Nat := 0
deriving DecidableEq, Repr

/-- A lane: corrected symbols and uncorrectable codewords of the window, and whether it is isolated. -/
structure Lane where
  corr     : Nat := 0
  unc      : Nat := 0
  isolated : Bool := false
  testing  : Bool := false
deriving DecidableEq, Repr

/-! ### The block -/

/-- A packet held in staging until its course gives it a slot: descriptor and covered bytes (R293). -/
structure Staged where
  desc  : Desc
  bytes : List Byte
deriving DecidableEq, Repr

/-! ### Passes (chapters 5 to 8) -/

/-- The key of a fragment-table entry (R131). -/
structure FragKey where
  port  : Nat
  level : Nat
  ver   : Nat
  src   : Nat
  dst   : Nat
  proto : Nat
  ident : Nat
deriving DecidableEq, Repr

/-- An entry of the fragment table (R131): its state is 1 PENDING, 2 PASS, 3 DROP. -/
structure FragEntry where
  key       : FragKey
  state     : Nat
  inherited : List Byte
  tlen      : Nat
  created   : Nat
  life      : Nat
deriving DecidableEq, Repr

/-- Layer offsets of one level (R129); none is the absent offset. -/
structure Layers where
  l2   : Option Nat := none
  l3   : Option Nat := none
  l4   : Option Nat := none
  tags : Nat := 0
deriving DecidableEq, Repr

/-- How a walk ended, beside its flags. -/
inductive WalkEnd where
  | limit
  | accept
  | drop (arg : Nat)
  | service (cls : Nat)
  | nodeError (mismatch : Bool)
deriving DecidableEq, Repr

/-- The parse result of R129, with the fragment's key, its offset in bytes and its payload's start. -/
structure Parse where
  fv        : List Byte := List.replicate 128 0
  written   : Nat := 0
  lev0      : Layers := {}
  lev1      : Layers := {}
  lev2      : Layers := {}
  tun0      : Option Nat := none
  tun1      : Option Nat := none
  level     : Nat := 0
  depth     : Nat := 0
  endNode   : Nat := 0
  parseEnd  : Nat := 0
  bound     : Nat := 0
  trunc     : Option Nat := none
  short     : Bool := false
  lenconf   : Option Nat := none
  csum      : Bool := false
  fragFirst : Bool := false
  fragLater : Bool := false
  inherit_  : Bool := false
  fragKey   : Option FragKey := none
  fragOff   : Nat := 0
  fragPay   : Nat := 0
  svc       : Option Nat := none
  fin       : WalkEnd := .limit
deriving DecidableEq, Repr

/-- Outcomes of a flow context lookup (R183, R191). -/
inductive CtxOut where
  | notMade | current | reval | noneFirst | nonePend | error | chainLong
deriving DecidableEq, Repr

/-- Outcomes of the source check (R204). -/
inductive SrcOut where
  | notMade | known | learned | moved | conflict | limit
deriving DecidableEq, Repr

/-- Outcomes of a route lookup (R212, R213). -/
inductive RouteOut where
  | notMade | miss | hit (result len : Nat) | error
deriving DecidableEq, Repr

/-- Outcomes of a result group (R150). -/
inductive GroupOut where
  | miss | hit (addr prio result auto : Nat) | error
deriving DecidableEq, Repr

/-- What the automata decide for a packet (R172, R175, R176). -/
inductive AutoOut where
  | pass | drop (reason : Nat) | service (cls : Nat)
deriving DecidableEq, Repr

/-- The results of a pass's lookups (R183). `l2` is 0 not made, 1 HIT, 2 MISS. -/
structure Look where
  ctxOut  : CtxOut := .notMade
  ctx     : Option (Nat × Nat) := none
  key     : Option (Nat × List Byte) := none
  hash    : Nat := 0
  l2      : Nat := 0
  l2If    : Nat := 0
  src     : SrcOut := .notMade
  rtDst   : RouteOut := .notMade
  rtSrc   : RouteOut := .notMade
  groups  : List GroupOut := []
  auto    : AutoOut := .pass
deriving DecidableEq, Repr

/-- A pass that waits: its descriptor, parse result and lookups; `chained` says that it holds a waiting chain. -/
structure Pass where
  desc    : Desc
  parse   : Parse := {}
  look    : Look := {}
  chained : Bool := false
deriving DecidableEq, Repr

/-- A fragment in the hold (R135): since when, and its FRAG_HOLD in ns. -/
structure Held where
  pass  : Pass
  key   : FragKey
  since : Nat
  hold  : Nat
deriving DecidableEq, Repr

/-- A waiting recirculated pass: the node it starts at, or a fragment released from the hold. -/
structure Recirc where
  desc     : Desc
  node     : Nat
  released : Bool
deriving DecidableEq, Repr

/-- An injected packet that waits (R400, R456): its start node, 0 for ROOT_INJ; `ret` says that an engine returned it and that
it keeps its tag (R280). -/
structure Injected where
  desc : Desc
  node : Nat
  ret  : Bool
deriving DecidableEq, Repr

/-- A flow context (R187). A lock names its channel and when it was granted. -/
structure Ctx where
  key       : List Byte := []
  valid     : Bool := false
  link      : Bool := false
  stale     : Bool := false
  aged      : Bool := false
  lock      : Option (Nat × Nat) := none
  ageEn     : Bool := false
  ageClass  : Nat := 0
  actValid  : Bool := false
  conflict  : Bool := false
  gen       : Nat := 0
  tpl       : Nat := 0
  chain     : Option Nat := none
  actRef    : Nat := 0
  verdict   : Nat := 0
  auto      : Nat := 0
  policer   : Option Nat := none
  svcClass  : Nat := 0
  set       : Nat := 0
  tenant    : Nat := 0
  lastHit   : Nat := 0
  pkts      : Nat := 0
  bytes     : Nat := 0
  engine    : List Nat := List.replicate 8 0
deriving DecidableEq, Repr

/-- A way of a context cache slice (R195, R200): a line, with the moment of its first change, or a PEND entry. -/
inductive Way where
  | line (idx : Nat) (image : Ctx) (dirty : Option Nat)
  | pend (tpl : Nat) (key : List Byte) (until_ : Nat)
deriving DecidableEq, Repr

/-- A learned entry (R202). `flap` is FLAP_T in ns; none while no window is open and the entry is not pinned. -/
structure L2Entry where
  static : Bool := false
  aged   : Bool := false
  stale  : Bool := false
  lock   : Option (Nat × Nat) := none
  pinned : Bool := false
  iface  : Nat
  anchor : Nat := 0
  moves  : Nat := 0
  flap   : Option (Nat × Nat) := none
deriving DecidableEq, Repr

/-- A learn or refresh notice (R205); the key is bridge domain × 2^48 + MAC address. -/
structure Notice2 where
  key     : Nat
  iface   : Nat
  refresh : Bool
deriving DecidableEq, Repr

/-- What a physical course keeps beside its registers. -/
structure Course where
  frags   : List FragEntry := []
  hold    : List Held := []
  missq   : List Pass := []
  recirc  : List Recirc := []
  inject  : List Injected := []
  learned : Map L2Entry := []
  notices : List Notice2 := []
  samples : Map Nat := []
  actCnt  : Map (Nat × Nat) := []
  audit   : Nat := 0
  missWin : Nat := 0
  missOut : Bool := false
  l2Start : Nat := 0
  missAt  : Nat := 0
deriving DecidableEq, Repr

/-- The keeper slice of a course name (R195): ways by set, most recently used first, and the context sweeper's lap. -/
structure Slice where
  sets   : Map (List Way) := []
  lapNo  : Nat := 0
  start  : Nat := 0
  lap    : Nat := 100
deriving DecidableEq, Repr

/-! ### Banks and automata (chapter 6) -/

/-- A bank entry (R147). `pend` is STICKY pending until COMMIT_AT (R157); `tile` says that a BANK tile placed it. -/
structure BankEntry where
  width  : Nat
  key    : List Byte
  mask   : List Byte
  sticky : Bool := false
  pend   : Bool := false
  epochs : Nat := 0
  prio   : Nat := 0
  result : Nat := 0
  auto   : Nat := 0
  hits   : Nat := 0
  tile   : Bool := false
deriving DecidableEq, Repr

/-- A physical bank: its entries by first unit, and its STATE where it is no longer that of birth. -/
structure Bank where
  entries : Map BankEntry := []
  st      : Option Nat := none
deriving DecidableEq, Repr

/-- A scan: an INLINE pass, or a TAP packet with a copy of its bytes; the selector and the range. -/
structure Scan where
  pass   : Pass
  bytes  : List Byte
  inline : Bool
  sel    : Nat
  start  : Nat
  stop   : Nat
deriving DecidableEq, Repr

/-- An automata unit (R171 to R176). -/
structure Au where
  queue      : List Scan := []
  running    : List Scan := []
  spend      : Nat := 0
  inlineNow  : Nat := 0
  inlinePrev : Nat := 0
  window     : Nat := 0
  faults     : Nat := 0
  rateBytes  : Nat := 0
deriving DecidableEq, Repr

/-- A record of the stream table (R169). -/
structure Stream where
  slot   : Nat
  gap    : Bool
  done   : Bool
  state  : Nat
  set    : Nat
  offset : Nat
  valid  : Bool
deriving DecidableEq, Repr

/-! ### Service engines (chapter 13) -/

/-- An entry of a write journal (R388), as it was judged at issue. -/
inductive JEntry where
  | st (addr width value : Nat)
  | addc (addr width value : Nat)
  | ctxWrite (idx gen first : Nat) (words : List Nat)
  | ctxCreate (idx : Nat) (image : Ctx)
  | ctxFree (idx gen : Nat)
  | chainAlloc (addr gen : Nat)
  | chainShare (addr gen : Nat)
  | chainRelease (addr gen : Nat)
  | chainFree (addr gen : Nat)
  | chainGive (addr gen dest : Nat)
  | enq (queue : Nat) (w : Waiting) (src : Nat × Nat) (own : Bool)
  | inject (course node : Nat) (desc : Desc) (own : Bool)
  | send (queue : Nat) (w : Waiting)
  | tarm (timer delay pri cls cookie : Nat)
  | tcancel (timer : Nat)
  | wservo (v : Nat)
  | wadj (v : Nat)
  | wstep (v : Nat)
deriving DecidableEq, Repr

/-- The item that an engine runs: its record, its packet with whether a commit has disposed of it (R399), when it
started, its commits and microwords, and the trap whose handler runs (R393). -/
structure Running where
  words    : List Nat
  desc     : Option Desc := none
  disposed : Bool := false
  start    : Nat := 0
  limit    : Nat := 0
  commits  : Nat := 0
  micros   : Nat := 0
  trapped  : Option Nat := none
deriving DecidableEq, Repr

/-- What an engine computes with (R372): registers, poison bits, flags, S, call stack, context buffer, current chain,
and PKTEND. -/
structure Core where
  regs   : List (BitVec 64) := List.replicate 32 0
  poison : Nat := 0
  z      : Bool := false
  n      : Bool := false
  c      : Bool := false
  v      : Bool := false
  s      : Nat := 0
  stack  : List Nat := []
  buf    : List Nat := List.replicate 32 0
  cur    : Option (Nat × Nat) := none
  pktEnd : Bool := false
  pc     : Nat := 0
deriving DecidableEq, Repr

/-- An engine position. `st` is its STATE where it is no longer that of birth; `intr` holds the interrupts that wait, 0
MIGRATE, 1 HALT, 2 ABORT, 3 EPOCH_END, with when they were posted; `wait` says that it waits for a reply, `seqDue` that the
nanoword of its microword has completed and its sequencing is due, `atSafe` that the safe point before its microword has
been taken. `halted` says that debug has halted it; `dbg` is 1 while it runs one microword for STEP_MICRO and 2 while breakpoints
pass over the microword it goes on from. -/
structure Engine where
  st      : Option Nat := none
  core    : Core := {}
  ckpt    : Core := {}
  journal : List JEntry := []
  badJrnl : Option Bool := none
  count   : Nat := 0
  item    : Option Running := none
  intr    : Map Nat := []
  wait    : Bool := false
  seqDue  : Bool := false
  atSafe  : Bool := false
  lastTrap : Nat := 0
  halted  : Bool := false
  dbg     : Nat := 0
deriving DecidableEq, Repr

/-- A timer of a set (R403); a shadow timer does not fire (R564). -/
structure Timer where
  deadline : Nat
  pri      : Nat
  cls      : Nat
  cookie   : Nat
  shadow   : Bool := false
deriving DecidableEq, Repr

/-- A set (R371): engines, set memory, poisoned words, timers, trap times, the class last started at each priority,
energy tokens, send count, and whether a start already waits for a token. -/
structure SetSt where
  engines  : Map Engine := []
  mem      : Map Byte := []
  poison   : List Nat := []
  timers   : Map Timer := []
  traps    : List Nat := []
  lastCls  : Map Nat := []
  tokens   : Bucket := ⟨6400000, 0⟩
  sends    : Nat := 0
  delayed  : Bool := false
deriving DecidableEq, Repr

/-! ### DMA channels (chapter 15) -/

/-- A posted RECV (R459): ring index, DESC_ID, host address, length, HOLD, IRQ and STOP_ON_FAIL. -/
structure Recv where
  index : Nat
  id    : Nat
  host  : Nat
  len   : Nat
  hold  : Bool
  irq   : Bool
  stop  : Bool
deriving DecidableEq, Repr

/-- A RECORDS descriptor in progress (R456): its words, the records it has judged, those that completed OK, and a record with
PAIR 1 that waits for its second. -/
structure RecRun where
  words : List Nat
  done  : Nat := 0
  good  : Nat := 0
  pair  : Option (List Nat) := none
deriving DecidableEq, Repr

/-- A channel: posted RECVs, held records with their IRQ, passes of the completion ring, records since the last signal
and when the first of them was written, the bound queue served last, an INJECT that has waited and since when, a RECORDS
descriptor in progress, and whether a RESET waits for room. -/
structure Chan where
  posted : List Recv := []
  held   : List (List Nat × Bool) := []
  passes : Nat := 0
  unsig  : Nat := 0
  first  : Option Nat := none
  lastQ  : Nat := 0
  inj    : Option (Nat × List Nat) := none
  recs   : Option RecRun := none
  resets : Bool := false
deriving DecidableEq, Repr

/-! ### Epochs (chapter 9) -/

/-- A slot of the two-slot memories (R266): what is placed for the epoch that holds its tag, the values of its EPOCH
fields by register, and the handles it names as kind × 256 + scope. -/
structure Slot where
  num    : Nat := 0
  graph  : Graph := nullGraph
  banks  : Map BankImage := []
  auto   : AutoImage := {}
  act    : ActImage := {}
  policy : Policy := {}
  routes : List Route := []
  progs  : Map Prog := []
  reels  : Map (List Nat) := []
  fields : Map Word := []
  tiles  : Map Nat := []
deriving DecidableEq, Repr

/-- A tile handle (R262): its state by the codes of R512, what it was opened for, its pages' contents by offset, and what
sealing found in its header. -/
structure Tile where
  st      : Nat := 0
  kind    : Nat := 0
  scope   : Nat := 0
  pages   : Nat := 0
  sealing : Bool := false
  mem     : Map Byte := []
  tileId  : Nat := 0
  svn     : Nat := 0
deriving DecidableEq, Repr

/-- An entry of the tile key table (R260). -/
structure TileKey where
  valid   : Bool := false
  revoked : Bool := false
  key     : List Byte := []
  mask    : Nat := 0
  minSvn  : Nat := 0
deriving DecidableEq, Repr

/-- Epochs (chapter 9). `pend` is PENDING of GLB_EPOCH_STATUS; `listed` and `kept` are the pending epoch's handles as listed
and as composed; `zero`, `swept` and `folded` are the steps of R273 that the draining epoch has passed; `fixed` holds the
EPOCH writes of the commit in its lead; `first` the first admission sequence number of the current epoch by interface. -/
structure Epochs where
  curTag    : Nat := 0
  slot0     : Slot := {}
  slot1     : Slot := {}
  pend      : Nat := 0
  base      : Nat := 0
  listed    : List Nat := []
  ticket    : Option (Nat × Nat) := none
  stageAt   : Nat := 0
  stageDown : Bool := false
  newNum    : Nat := 0
  commitAt  : Nat := 0
  fixed     : Map (Word × Word) := []
  draining  : Bool := false
  zero      : Bool := false
  swept     : Bool := false
  folded    : Bool := false
  audited   : Bool := false
  first     : Map Nat := []
deriving DecidableEq, Repr

/-! ### Mailboxes (chapter 16) -/

/-- A request as the steward takes it: its header's 16 words, its payload words, the TAG of the doorbell, when it was taken and
WD_MS then; `silent` once a reset has returned its mailbox to IDLE (R493). -/
structure Req where
  head    : List Nat
  words   : List Nat
  door    : Nat
  takenAt : Nat
  wd      : Nat
  silent  : Bool := false
deriving DecidableEq, Repr

/-- An open ticket: its number, its request, its phase (0 ACCEPTED, 1 PARTIAL, 2 APPLIED) and what its work has noted. -/
structure Ticket where
  num   : Nat
  req   : Req
  phase : Nat
  data  : List Nat := []
deriving DecidableEq, Repr

/-- An outcome that the steward remembers (R485): the words of its response header. -/
structure Past where
  tag  : Nat
  head : List Nat
deriving DecidableEq, Repr

/-- A mailbox (R476 to R495): its state by the codes of MBX_STATUS, the request area by word, the response area, the TAG
of the doorbell and when it was rung, the command that runs, tickets, held records, and the passes of its ring. -/
structure Mbx where
  st       : Nat := 0
  req      : Map Word := []
  rsp      : List Nat := []
  door     : Nat := 0
  postedAt : Nat := 0
  run      : Option Req := none
  count    : Nat := 0
  tickets  : List Ticket := []
  held     : List (List Nat) := []
  past     : List Past := []
  passes   : Nat := 0
  late     : Bool := false
  stalled  : Bool := false
deriving DecidableEq, Repr

/-- A drain of a domain (R431): the state it ends in (1 RETAIN, 3 OFF), when it began, and its PWR_DRAIN_MAX in ns. -/
structure Drain where
  dest : Nat
  at_  : Nat
  max  : Nat
deriving DecidableEq, Repr

/-- The caller (chapter 14). `tier` is the thermal tier in force, 0 to 3, `tj` the last Tj in °C; `shut` holds the sensors in an
excluded span, `hot` since when Tj has been at 108 °C and whether its fault is raised, `t3At` since when the tier is T3 and `t3Ns`
the rest of a ms spent there; `tripLow` that THERM_TRIP_N is low; `grants` the grants before the tier cap. `amps` is the last
current in mA, `samples` the last power samples in µW, newest first. `avsFails` counts failed transactions in a row, `avsDown` says
that no rise may be made until a read succeeds, `cmdAt` when the last command was sent and `late` that its bound has passed.
`overAt`, `room` and `raised` are since when head is below 0 and above 10 W and when a course last asked for a rise, `reads` the
context reads of each course at the last decision, `limShed` that the limit sheds. `drains` are drains in progress, `back` the
domains that return, `backStep` how far they have come and since when; `change` is the ticket of a state change, `asks` tickets of
domain changes as mailbox, number and domain. `devWake`, `alarm` and `smbWake` are the level sources 0 to 2 of R435, `armed` the
wake latch. -/
structure Power where
  tier     : Nat := 0
  tj       : Int := 0
  shut     : List Nat := []
  hot      : Option (Nat × Bool) := none
  t3At     : Option Nat := none
  t3Ns     : Nat := 0
  tripLow  : Bool := false
  grants   : List Nat := List.replicate 6 100
  amps     : Nat := 0
  samples  : List Nat := []
  avsFails : Nat := 0
  avsDown  : Bool := false
  cmdAt    : Nat := 0
  late     : Bool := false
  overAt     : Option Nat := none
  room     : Option Nat := none
  raised   : Nat := 0
  reads    : Map Nat := []
  limShed  : Bool := false
  drains   : Map Drain := []
  back     : List Nat := []
  backStep : Nat := 0
  backAt   : Nat := 0
  change   : Option (Nat × Nat) := none
  asks     : List (Nat × Nat × Nat) := []
  devWake  : Bool := false
  smbWake  : Bool := false
  alarm    : Bool := false
  armed    : Bool := false
deriving DecidableEq, Repr

/-- The values of an interface in the last mark set received (R562). -/
structure IfaceMark where
  next  : Nat
  conf  : Nat
  ended : Nat
  quar  : Bool
  speed : Nat
deriving DecidableEq, Repr

/-- A takeover report (R570): when it was made, its cause, the age of the mark set in µs, and its ranges as words. -/
structure Report where
  at_    : Nat
  cause  : Nat
  age    : Nat
  ranges : List (List Nat)
deriving DecidableEq, Repr

/-- A role that moves by plan (R571). Given: 0 asked of the partner by none, 1 offered, 2 switched, and then when its drain
ends. Received: 0 asked, 1 accepted, 2 ACTIVE here while the partner drains. -/
structure Hand where
  step : Nat
  give : Bool
  end_ : Nat := 0
deriving DecidableEq, Repr

/-- A PAIR_ROLE_SET in progress (R525): its mailbox and ticket, its DIR, and the interfaces to come, moved and refused. -/
structure RoleAsk where
  mbx     : Nat
  num     : Nat
  give    : Bool
  todo    : List Nat
  moved   : List Nat := []
  refused : List Nat := []
deriving DecidableEq, Repr

/-- The pair and its link (chapter 18). `mute` holds why the device drives not alive (R550): 0 reset, 1 WITHDRAW, 2 Dormant,
3 an emergency drain, 4 SELF_DOWN. `rr` is the lane next in turn. `toSend` holds sequenced frames that wait, with their priority;
`sent` those that no ACK covers, by SEQ, and `ahead` those that wait for a gap; `xq` the transmit queue (R572), `flying` its
copies sent and not acknowledged; `rounds` counts resends without progress. `helloIn` and `helloOut` say that a HELLO has been
accepted and that one has been sent. `feeding` is true while the partner joins from this device, `pairing` while PAIRED waits
for both first mark sets; `quiet` while records of the partner are applied, and `gather` collects the records of a commit.
`peerRoles`, `peerState` are the partner's as last told, `heartAt` when by HEARTBEAT; `clash` the interfaces in conflict;
`firstAt` is when the first epoch was committed, `upSince` that the link has been up since then; `marks`, `markAt`, `peerLedgers` the last mark set received and its estimated
time; `credAt` the credit time of the last credit records; `hands` the roles that move; `peerMove` that the partner has a move in
progress. -/
structure Pair where
  mute        : List Nat := [0]
  rr          : Nat := 0
  toSend      : List (Nat × FjBody) := []
  sent        : List (Nat × FjBody) := []
  ahead       : List (Nat × FjBody) := []
  aheadAt     : Option Nat := none
  xq          : List Waiting := []
  flying      : Map Waiting := []
  txSeq       : Nat := 0
  rxSeq       : Nat := 0
  rounds      : Nat := 0
  ackedAt     : Nat := 0
  heardAt     : Option Nat := none
  lossSeen    : Bool := false
  helloIn     : Bool := false
  helloOut    : Bool := false
  feeding     : Bool := false
  pairing     : Bool := false
  quiet       : Bool := false
  gather      : Option (List PairRec) := none
  peerRoles   : Nat := 0
  peerState   : Nat := 0
  heartAt     : Option Nat := none
  clash       : Nat := 0
  absent      : Bool := false
  firstAt     : Option Nat := none
  upSince     : Bool := false
  marks       : Map IfaceMark := []
  markAt      : Option Nat := none
  peerLedgers : Map (Nat × Nat × Nat) := []
  markOut     : Bool := false
  lagCmd      : Nat := 0
  credit      : Bucket := ⟨0, 0⟩
  credAt      : Nat := 0
  reports     : List Report := []
  hands       : Map Hand := []
  roleAsk     : Option RoleAsk := none
  peerMove    : Bool := false
deriving DecidableEq, Repr

/-- A unit with wear monitors or wear counts (R619, R622, R624): its state where it is not that of birth, its last drifts and runs
beyond THRESH by monitor, and the times of its counted faults. -/
structure WearUnit where
  st     : Option Nat := none
  drifts : Map Int := []
  runs   : Map Nat := []
  faults : List Nat := []
deriving DecidableEq, Repr

/-- A move that needs the partner (R627, R628): its kind (0 course, 3 lane), the unit, the spare, its step, the interfaces given
to the partner, and its ticket. -/
structure Move where
  kind   : Nat
  unit   : Nat
  spare  : Nat
  step   : Nat
  given  : List Nat := []
  ticket : Option (Nat × Nat) := none
deriving DecidableEq, Repr

/-- Wear, spares and moves (chapter 21). Units lie by source × 2^16 + index. `waits` are WORN units whose move waits, as kind
and unit, `noted` those whose deferral has been recorded, `asks` the tickets of SPARE_BRING_IN as mailbox, ticket, kind and
unit. `heat` is the temperature-time product of the eight regions (R640) in millionths of a second, `heatT` the readings in
force since `heatAt`,
`hours` its hourly values, newest first, `spent` the spares brought in as kind and powered hour, `inFull` the powered hours in Full
or Trim, and `powerOns` the power-ons. -/
structure Wear where
  units  : Map WearUnit := []
  move   : Option Move := none
  waits  : List (Nat × Nat) := []
  noted  : List (Nat × Nat) := []
  asks   : List (Nat × Nat × Nat × Nat) := []
  pages  : Nat := 0
  events : List (List Nat) := []
  heat   : List Nat := List.replicate 8 0
  heatT  : List Int := []
  heatAt : Nat := 0
  hours  : List (List Nat) := []
  spent  : List (Nat × Nat) := []
  inFull : Nat := 0
  powerOns : Nat := 0
deriving DecidableEq, Repr

/-- A planned change of the active role (R635): the ticket of its STEWARD_SWAP, the image it takes, and whether debug asked for
it and the outgoing steward is to be halted (R679). `since` is when the spare, its image loaded, began to wait for a move (R637). -/
structure Swap where
  ticket : Option (Nat × Nat)
  image  : Nat
  halt   : Bool
  since  : Option Nat := none
deriving DecidableEq, Repr

/-- The stewards (chapters 16, 21, 23): which is active, the state of the spare by the codes of DEV_INFO, since when
none has been active, when the active one last met a fetch trap, and the stewards that debug has halted. -/
structure Stewards where
  active  : Nat := 0
  spare   : Nat := 3
  lostAt  : Option Nat := none
  trapAt  : Option Nat := none
  halted  : List Nat := []
  swap    : Option Swap := none
deriving DecidableEq, Repr

/-! ### Stored data (chapter 19) -/

/-- A memory ID (R577): its bucket level in units of 1/60,000,000,000 of a correction and when it was last brought up to date, its
hints, its repeat table as word, the lap at which the entry expires and whether the word was poisoned, the number and start of the
lap, the spare rows taken by macro (or repairs made), the words whose rows wait for a repair slot, and when the last was made. -/
structure MemId where
  level   : Nat := 0
  at_     : Nat := 0
  hints   : List Nat := []
  repeats : List (Nat × Nat × Bool) := []
  lapNo   : Nat := 0
  start   : Nat := 0
  gone    : Map Nat := []
  rows    : List Nat := []
  fixAt   : Option Nat := none
deriving DecidableEq, Repr

/-! ### Start-up and debug (chapters 22 and 23) -/

/-- An OTP key slot (R653): public key, USE bits, and REVOKED. What is fused at manufacture the manual leaves open: DESIGN CHOICE
every USE bit set. -/
structure OtpKey where
  key     : List Byte := []
  use     : Nat := 7
  revoked : Bool := false
deriving DecidableEq, Repr

/-- What a page set of the wear ledger restores (R624, R638): wear by unit, engine positions and banks that are no longer what
they were at birth, the assignments of spares, spare rows taken by memory, the retired bricks of each half, and powered hours. -/
structure WearPages where
  wear    : Wear := {}
  engs    : Map Nat := []
  banks   : Map Nat := []
  serving : Map Nat := []
  asmMap  : Map Nat := []
  laneMap : Map Nat := []
  rows    : Map (Map Nat) := []
  west    : List Nat := []
  east    : List Nat := []
  hours   : Nat := 0
deriving DecidableEq, Repr

/-- Start-up (chapter 22): OTP, the two flash slots and their ledger area, what AON retains, the last step completed, the image
that runs, and whether POR_N is low. -/
structure Boot where
  keys     : List OtpKey := List.replicate 4 {}
  fwSvn    : Nat := 0
  serial   : Nat := 0
  slotA    : FlashImage := {}
  slotB    : FlashImage := {}
  ledger   : WearPages := {}
  failsA   : Nat := 0
  failsB   : Nat := 0
  straps   : Nat := 0
  image    : FlashImage := {}
  step     : Nat := 0
  por      : Bool := false
deriving DecidableEq, Repr

/-- The debug port and the test access port (chapter 23): nonces by level with the end of their life, the verification in
progress, the lockout's end, the debug space's registers, the boundary-scan instruction
in force, the boundary register, and whether it drives the balls. -/
structure Debug where
  nonces  : Map (List Byte × Nat) := []
  verify  : Option (Nat × List Byte) := none
  lockEnd : Option Nat := none
  bps     : Map Word := []
  errs    : Nat := 0
  ir      : Nat := 2
  cells   : Nat := 0
  drives  : Bool := false
  started : Bool := false
deriving DecidableEq, Repr

/-- Telemetry export (R544): its settings, SEQ of the next record, the records skipped since the last one written, and when the next
period begins. -/
structure Export where
  on      : Bool := false
  sources : Nat := 0
  period  : Nat := 0
  base    : Nat := 0
  size    : Nat := 0
  first   : Nat := 0
  count   : Nat := 0
  seq     : Nat := 0
  lost    : Nat := 0
  at_     : Nat := 0
deriving DecidableEq, Repr

/-- States of a power domain (R425). -/
inductive DomState where
  | on | retain | draining | off
deriving DecidableEq, Repr

/-- The whole block. -/
structure Dev where
  regs     : Map Word := []
  cnts     : Map (BitVec 64) := []
  latch    : Map Word := []
  readData : Word := 0
  staged   : Map (Word × Word) := []
  fresh    : Nat := 0
  out      : List Emission := []
  unmasked : List Nat := []
  msixPend : List Nat := []
  faults   : Faults := {}
  time     : Time := {}
  doms     : Map DomState := [(0, .on)]
  serving  : Map Nat := []
  ledgers  : Map Ledger := []
  accts    : Map Acct := []
  nextPid  : Nat := 0
  west     : Half := {}
  east     : Half := {}
  sched    : Sched := {}
  ports    : Map Port := []
  lanes    : Map Lane := []
  laneMap  : Map Nat := []
  epochs   : Epochs := {}
  staging  : Map (List Staged) := []
  courses  : Map Course := []
  slices   : Map Slice := []
  store    : Map Ctx := []
  banks    : Map Bank := []
  asmMap   : Map Nat := []
  aus      : Map Au := []
  streams  : Map Stream := []
  sets     : Map SetSt := []
  chans    : Map Chan := []
  itemIds  : Map Nat := []
  freeWait : List (Nat × Nat) := []
  badCtx   : List Nat := []
  tiles    : Map Tile := []
  tileKeys : List TileKey := List.replicate 8 {}
  mbxs     : Map Mbx := []
  power    : Power := {}
  pair     : Pair := {}
  wear     : Wear := {}
  stw      : Stewards := {}
  mems     : Map MemId := []
  boot     : Boot := {}
  dbg      : Debug := {}
  export_  : Export := {}
deriving DecidableEq, Repr

/-- The machine: the block, and the commands that wait, first in, first out. -/
structure State where
  dev     : Dev
  pending : List Instr
deriving DecidableEq, Repr

/-- Why a step stops with a fault. -/
inductive Fault where
  /-- Nothing raises it: every command of this block ends in a next state. -/
  | none
deriving DecidableEq, Repr

/-- Why a step has no meaning. -/
inductive Refusal where
  /-- An arm of `exec` that no meaning has been written for: safe, since nothing can be proved of its effect. -/
  | notModelled (mnemonic : String)
deriving DecidableEq, Repr

/-- The outcome of a step. -/
abbrev Result := Host.Outcome State Fault Refusal

/-- The machine right after reset. -/
def State.reset : State := ⟨{}, []⟩

end Sys2Proof.Machine
end

