-- ==== Sys2Proof/Machine/Ops.lean ====
section
/-! DEFINITION. The named operations every unit shares: the register file, the 64-bit counters, events and
interrupts, reading the time base, power domains, the local error registers, and free values. -/

namespace Sys2Proof.Machine

/-- A command whose effect on the block is `f`. -/
def State.act (s : State) (f : Dev → Dev) : Result := .next { s with dev := f s.dev }

namespace Dev

/-! ### Registers -/

/-- What the register file holds at an address; a register never written holds its reset value. -/
def reg (d : Dev) (a : Nat) : Nat :=
  match Map.get? d.regs a with
  | some w => w.toNat
  | none => resetOf a

/-- The register file with a whole word stored by hardware. -/
def setReg (d : Dev) (a v : Nat) : Dev :=
  { d with regs := Map.putD d.regs a (BitVec.ofNat 32 (resetOf a)) (BitVec.ofNat 32 v) }

/-- Bits `hi:lo` of a register. -/
def fld (d : Dev) (a hi lo : Nat) : Nat := bits (d.reg a) hi lo

/-- One bit of a register. -/
def flag (d : Dev) (a i : Nat) : Bool := (d.reg a).testBit i

/-- Bits `hi:lo` of a register changed by hardware. -/
def setFld (d : Dev) (a hi lo v : Nat) : Dev := d.setReg a (withBits (d.reg a) hi lo v)

/-- A bit of a register set by hardware. -/
def setBit (d : Dev) (a i : Nat) : Dev := d.setFld a i i 1

/-- A bit of a register cleared by hardware. -/
def clrBit (d : Dev) (a i : Nat) : Dev := d.setFld a i i 0

/-! ### 64-bit counters (R91) -/

/-- A 64-bit counter, by the address of its LO word. -/
def cnt (d : Dev) (a : Nat) : Nat := (Map.getD d.cnts a 0).toNat

/-- The counter advanced by `n`; it wraps at 2^64. -/
def bump (d : Dev) (a : Nat) (n : Nat := 1) : Dev :=
  { d with cnts := Map.upd d.cnts a 0 (· + BitVec.ofNat 64 n) }

/-- The counter set to 0. -/
def clearCnt (d : Dev) (a : Nat) : Dev := { d with cnts := Map.erase d.cnts a }

/-! ### Free values -/

/-- The next free value of the run. -/
def free (d : Dev) : Nat := Config.freeValue d.fresh

/-- The block once `n` free values have been taken. -/
def used (d : Dev) (n : Nat := 1) : Dev := { d with fresh := d.fresh + n }

/-! ### Time (R41, R42) -/

/-- The interval view in ns, as last distributed. -/
def now (d : Dev) : Nat := d.time.distMono / 2 ^ 24 % 2 ^ 64

/-- The interval view less the time slept: what buckets accrue from (R59, R319). -/
def creditNow (d : Dev) : Nat := d.now - d.time.slept

/-- Seconds of the wall view, as last distributed. -/
def wallSec (d : Dev) : Nat := d.time.distWall / (2 ^ 24 * 1000000000)

/-- Nanoseconds of the wall view, as last distributed. -/
def wallNs (d : Dev) : Nat := d.time.distWall / 2 ^ 24 % 1000000000

/-- TIM_STATE as TIM_STATUS codes it. -/
def timCode (d : Dev) : Nat :=
  match d.time.st with
  | .unknown => 0
  | .coasted => 1
  | .locked => 2

/-! ### Interrupts (R450, R451) -/

/-- An MSI-X vector signalled, or its pending bit set while it is masked. -/
def signal (d : Dev) (v : Nat) : Dev :=
  if d.unmasked.contains v then { d with out := d.out ++ [.msix v] }
  else { d with msixPend := addOnce d.msixPend v }

/-- A bit of GLB_IRQ_SUM set; the vector of a bit that was 0 is signalled where GLB_IRQ_EN allows. -/
def sumBit (d : Dev) (i : Nat) : Dev :=
  let d' := d.setBit 0x204 i
  if !d.flag 0x204 i && d.flag 0x200 i then d'.signal (72 + i) else d'

/-- The GLB_IRQ_SUM bit that an event register belongs to (R450); 0 where its block has a vector of its own. -/
def sumOf (a : Nat) : Nat :=
  if a < 0x10000 then 4
  else if 0x40000 ≤ a && a < 0x50000 then 1
  else if 0x50000 ≤ a && a < 0x60000 then 2
  else if 0x700000 ≤ a && a < 0x800000 then 3
  else if 0x200000 ≤ a && a < 0x300000 then 6
  else if (0x100000 ≤ a && a < 0x200000) || (0x300000 ≤ a && a < 0x700000) then 7
  else 0

/-- An event bit set by hardware. -/
def event (d : Dev) (a i : Nat) : Dev :=
  let d := d.setBit a i
  if sumOf a = 0 then d else d.sumBit (sumOf a)

/-! ### Power domains (R425) -/

/-- State of a domain. -/
def dom (d : Dev) (k : Nat) : DomState := Map.getD d.doms k .off

/-- R591: a lap of a scrubber, scanner or sweeper, in µs, judged against SCRUB_LAP_WARN. -/
def lapLong (d : Dev) (us : Nat) : Bool := d.fld 0x37F00 27 0 ≠ 0 && us > d.fld 0x37F00 27 0 * 1000

/-- Whether a domain works. -/
def isOn (d : Dev) (k : Nat) : Bool := d.dom k == .on

/-- A domain's state set. -/
def setDom (d : Dev) (k : Nat) (v : DomState) : Dev := { d with doms := Map.putD d.doms k .off v }

/-- STAGE of GLB_BOOT_STATUS (R665): 0 ROM, 1 LOAD, 2 INIT, 3 RUN, 4 SAFE, 5 TEST. -/
def stage (d : Dev) : Nat := d.fld 0x20C 31 29

/-- Whether BAR0 is enabled (R649, R657). -/
def bar0 (d : Dev) : Bool := (d.stage = 3 || d.stage = 4) && d.isOn 1

end Dev

/-- A command of the host on BAR0 or BAR4: nothing happens while they are not enabled. -/
def State.host (s : State) (f : Dev → Dev) : Result := s.act fun d => if d.bar0 then f d else d

namespace Dev

/-! ### Errors (R598, R600) -/

/-- The memory ID whose word an error finds uncorrectable (R577, R581). -/
def memOf (src code : Nat) : Option Nat :=
  let i := src % 0x1000
  let die := b2n (!(i < 8 || i = 16))
  match code with
  | 0x4022 => some i
  | 0xC020 => some i
  | 0xC040 => some i
  | 0xC023 => some i
  | 0x4050 => some i
  | 0x5002 => some (if src / 0x1000 = 2 then 19 + i / 128 else i)
  | 0x2003 => some (12 + die)
  | 0x3002 => some (12 + b2n (34 ≤ i))
  | 0x6030 => some (4 + i)
  | 0x7001 => some (14 + i)
  | 0x7002 => some (14 + i)
  | 0x7020 => some (12 + i)
  | 0x8004 => some (8 + i / 512)
  | 0x800A => some (10 + i / 512)
  | _ => none

/-- R579: a word of a memory found uncorrectable is written POISONED, and counted. -/
def wordPoisoned (d : Dev) (m : Nat) : Dev := (d.bump (0x38018 + 0x40 * m)).setBit (0x38004 + 0x40 * m) 2

/-- An error held in its source's local error register; one of the same code there already is merged. -/
def raiseAs (d : Dev) (src code : Nat) (detail : List Nat) (injected wear : Bool) : Dev :=
  let same (p : Pend) : Bool := p.src == src && p.code == code && p.injected == injected
  let old := d.faults.pend
  let held : Pend :=
    { src, code, detail, injected, wear, requeued := false, coalesced := 0, mono := d.now,
      sec := d.wallSec % 2 ^ 32, tim := d.timCode, ns := d.wallNs }
  let merged := old.map fun p => if same p then { p with coalesced := satAdd 6 p.coalesced 1 } else p
  let pend := if old.any same then merged else old ++ [held]
  let d := { d with faults := { d.faults with pend := pend } }
  let d := match memOf src code with
    | some m => d.wordPoisoned m
    | none => d
  if code / 0x1000 = 0xB then d.sumBit 1 else d

/-- An error that enters no wear count and that no injection caused. -/
def raise (d : Dev) (src code : Nat) (detail : List Nat := []) : Dev := d.raiseAs src code detail false false

/-- An error that enters a wear count of its unit. -/
def raiseWear (d : Dev) (src code : Nat) (detail : List Nat := []) : Dev := d.raiseAs src code detail false true

/-- An error that an injection bit caused. -/
def raiseInj (d : Dev) (src code : Nat) (detail : List Nat := []) (wear : Bool := false) : Dev :=
  d.raiseAs src code detail true wear

/-! ### Interfaces -/

/-- What an interface keeps beside its registers. -/
def port (d : Dev) (i : Nat) : Port := Map.getD d.ports i {}

/-- That state changed. -/
def setPort (d : Dev) (i : Nat) (f : Port → Port) : Dev := { d with ports := Map.upd d.ports i {} f }

end Dev

/-! ### Source numbers of R598 -/

/-- Source of an interface. -/
def srcIf (i : Nat) : Nat := 0x1000 + i
/-- Source of a lane: lane die and physical lane. -/
def srcLane (die l : Nat) : Nat := 0x2000 + die * 128 + l
/-- Source of a physical course. -/
def srcCourse (c : Nat) : Nat := 0x3000 + c
/-- Source of a physical bank. -/
def srcBank (b : Nat) : Nat := 0x4000 + b
/-- Source of an automata unit. -/
def srcAu (u : Nat) : Nat := 0x5000 + u
/-- Source of a set. -/
def srcSet (s : Nat) : Nat := 0x6000 + s
/-- Source of an engine. -/
def srcEng (s p : Nat) : Nat := 0x7000 + s * 16 + p
/-- Source of a buffer half. -/
def srcHalf (h : Nat) : Nat := 0x8000 + h
/-- Source of a memory. -/
def srcMem (m : Nat) : Nat := 0x9000 + m

/-- DETAIL of the memory family of faults (R604): the memory ID and the address of the word or row. -/
def memDetail (m a : Nat) : List Nat := [m % 256, a / 2 ^ 32 % 2 ^ 32, a % 2 ^ 32]

/-- R584: a partial write refused over a POISONED word of a memory; the word's address is left open. -/
def Dev.writeRefused (d : Dev) (m : Nat) (a : Option Nat) : Dev :=
  match a with
  | some a => d.raise (srcMem m) 0xC021 (memDetail m a)
  | none => (d.raise (srcMem m) 0xC021 (memDetail m d.free)).used

/-! ### Interface codes of R146 and where things lie -/

/-- The interface codes: bays, whole ports or halves 0, halves 1. -/
def ifaces : List Nat := List.range 48 ++ (List.range 32).map (· + 64)

/-- Whether a number is an interface code. -/
def isIface (i : Nat) : Bool := i < 48 || (64 ≤ i && i < 96)

/-- A command about one interface; a number that is no interface code names nothing, and nothing happens. -/
def State.actIf (s : State) (i : Nat) (f : Dev → Dev) : Result := s.act fun d => if isIface i then f d else d

/-- A command of the host about one interface. -/
def State.hostIf (s : State) (i : Nat) (f : Dev → Dev) : Result := s.host fun d => if isIface i then f d else d

/-- The port block of an interface (R90). -/
def portBase (i : Nat) : Nat :=
  if i < 48 then 0x200000 + i * 0x2000
  else if i < 80 then 0x260000 + (i - 64) * 0x2000
  else 0x261000 + (i - 80) * 0x2000

/-- The network port number of an interface of a network port. -/
def netOf (i : Nat) : Nat := if i < 80 then i - 64 else i - 80

/-- The lane die of an interface (R13). -/
def dieOf (i : Nat) : Nat := if i < 48 then i / 12 else netOf i / 4

/-- The buffer half of an interface: 0 West, 1 East (R14). -/
def halfOf (i : Nat) : Nat := dieOf i / 2

/-- The course, by name, that serves an interface's ingress (R15). -/
def courseOf (i : Nat) : Nat := if i < 48 then i / 3 else netOf i

/-- The scheduler block of an interface (R342). -/
def schBase (i : Nat) : Nat := 0x301000 + i * 0x400

namespace Dev

/-- Whether network port `n` is split into halves (R61). -/
def breakout (d : Dev) (n : Nat) : Bool := d.flag (portBase (64 + n)) 4

/-- The interface of an egress queue in Q0 to Q55295 (R313, R314). -/
def ifOfQueue (d : Dev) (q : Nat) : Nat :=
  if q < 30720 then q / 640
  else
    let n := (q - 30720) / 1536
    if d.breakout n && 768 ≤ (q - 30720) % 1536 then 80 + n else 64 + n

/-- The buffer half that holds an egress queue (R14). -/
def halfOfQueue (q : Nat) : Nat :=
  if q < 30720 then halfOf (q / 640)
  else if q < 55296 then halfOf (64 + (q - 30720) / 1536)
  else if q < 63488 then (q - 55296) / 128 / 32
  else 0

/-- The owner class of a queue's chains (R292). -/
def classOfQueue (q : Nat) : Nat :=
  if q < 30720 then 0 else if q < 55296 then 1 else if q < 63488 then 2 else 3

/-- Lowest queue of an interface (R241). -/
def qbase (i : Nat) : Nat :=
  if i < 48 then i * 640 else 30720 + netOf i * 1536 + (if 80 ≤ i then 768 else 0)

/-- How many queues an interface has while its port is whole or split (R314). -/
def qcount (d : Dev) (i : Nat) : Nat :=
  if i < 48 then 640 else if d.breakout (netOf i) then 768 else if i < 80 then 1536 else 0

/-- The physical course that serves a course name (R16). -/
def physical (d : Dev) (name : Nat) : Nat := Map.getD d.serving name name

end Dev

end Sys2Proof.Machine
end

