-- ==== Sys2Proof/Machine/Bricks.lean ====
section
/-! DEFINITION. Chapter 10: the ledger a packet is counted in (R19, R247), the buffer halves, their arbiter, levels
and back-pressure, references and holders, retirement, link errors and the sweeper. -/

namespace Sys2Proof.Machine

/-- How a copy of a packet ends (R247). -/
inductive Ending where
  | departed
  | service
  | dropped (reason : Nat)
deriving DecidableEq, Repr

/-- The kind of an allocation (R297). -/
inductive AllocKind where
  | new | copy | xfer
deriving DecidableEq, Repr

/-- What a share, release or free by an external holder comes to (R303, R304). -/
inductive ChainOutcome where
  | ok | misuse | full
deriving DecidableEq, Repr

namespace Dev

/-! ### Ledgers -/

/-- A course ledger, by name. -/
def ledger (d : Dev) (n : Nat) : Ledger := Map.getD d.ledgers n {}

/-- A course ledger changed. -/
def setLedger (d : Dev) (n : Nat) (f : Ledger → Ledger) : Dev := { d with ledgers := Map.upd d.ledgers n {} f }

/-- A packet admitted into the ledger of course `n`, with its interface and admission number where it has one; the block and the
packet's identity. -/
def enrol (d : Dev) (n : Nat) (iface : Nat := 0xFF) (aseq : Nat := 0) : Dev × Nat :=
  let pid := d.nextPid
  let d := d.setLedger n fun l => { l with admitted := l.admitted + 1, resident := l.resident + 1 }
  ({ d with nextPid := pid + 1, accts := Map.put d.accts pid { course := n, iface := iface, aseq := aseq, left := 1, counted := false } }, pid)

/-- `k` more copies of a packet that are no mirror copies. -/
def moreCopies (d : Dev) (pid k : Nat) : Dev :=
  { d with accts := Map.adjust d.accts pid fun a => { a with left := a.left + k } }

/-- R614: whether the sums of a course's ledger disagree, with the signed difference in 32 bits. -/
def ledgerGap (l : Ledger) : Option Nat :=
  let n : Int := (l.admitted : Int) - (l.departed + l.dropped.foldl (fun k e => k + e.2) 0 + l.resident : Nat)
  if n = 0 then none else some (n % 2 ^ 32).toNat

/-- R614: the check of every course ledger at a mark set. -/
def ledgersChecked (d : Dev) : Dev :=
  (List.range 16).foldl (fun d c => match ledgerGap (d.ledger c) with
    | some n => d.raiseWear (srcCourse (d.physical c)) 0xC004 [c, n]
    | none => d) d

/-- R247: one copy of a packet ends. Mirror copies never enter the ledger. -/
def endCopy (d : Dev) (x : Desc) (e : Ending) : Dev :=
  if x.mirror then d else
  match Map.get? d.accts x.pid with
  | none => d
  | some a =>
    let left := a.left - 1
    let gone (l : Ledger) : Ledger := { l with resident := l.resident - 1 }
    let count : Option (Ledger → Ledger) :=
      if a.counted then none else
      match e with
      | .departed => some fun l => { gone l with departed := l.departed + 1 }
      | .service => some fun l => { gone l with departed := l.departed + 1, toService := l.toService + 1 }
      | .dropped r => if left = 0 then some fun l => { gone l with dropped := Map.upd l.dropped r 0 (· + 1) } else none
    let d := match count with
      | some f => d.setLedger a.course f
      | none => d
    let d := match e with
      | .dropped r => if 0xD0 ≤ r && count.isSome then d.raiseWear (srcCourse (d.physical a.course)) 0xC003 [a.course, r] else d
      | _ => d
    if left = 0 then { d with accts := Map.erase d.accts x.pid }
    else { d with accts := Map.put d.accts x.pid { a with left := left, counted := a.counted || count.isSome } }

/-! ### Halves -/

/-- Block of a half's registers. -/
def brkBase (h : Nat) : Nat := 0x400000 + h * 0x10000

/-- A buffer half: 0 West, 1 East. -/
def half (d : Dev) (h : Nat) : Half := if h = 0 then d.west else d.east

/-- That half changed. -/
def setHalf (d : Dev) (h : Nat) (f : Half → Half) : Dev :=
  if h = 0 then { d with west := f d.west } else { d with east := f d.east }

/-- USED of R295: the bricks of class `c`, orphaned ones included until the sweeper frees them. -/
def usedOf (x : Half) (c : Nat) : Nat :=
  x.chains.foldl (fun n e => if e.2.cls = c then n + e.2.bricks.length else n) 0
    + (x.orphans.filter fun e => e.2.cls = c).length

/-- BRK_IF_USED of R301. -/
def ifUsed (x : Half) (i : Nat) : Nat :=
  x.chains.foldl (fun n e => if e.2.admIf = i then n + e.2.bricks.length else n) 0
    + (x.orphans.filter fun e => e.2.admIf = i).length

/-- Bricks in service (R306). -/
def inService (x : Half) : Nat := min 655360 (668672 - x.retired.length)

/-- Spare bricks left (R306). -/
def sparesLeft (x : Half) : Nat := 13312 - x.retired.length

/-- RESV of R295. -/
def resv (d : Dev) (h c : Nat) : Nat := d.fld (brkBase h + 0x40 + 8 * c) 20 0

/-- CEIL of R295. -/
def ceilOf (d : Dev) (h c : Nat) : Nat := d.fld (brkBase h + 0x44 + 8 * c) 20 0

/-- SHUSE of R295. -/
def shuse (d : Dev) (h c : Nat) : Nat := usedOf (d.half h) c - d.resv h c

/-- SHARED of R295. -/
def sharedOf (d : Dev) (h : Nat) : Int :=
  inService (d.half h) - ((List.range 8).foldl (fun n c => n + d.resv h c) 0 : Nat)

/-- FREE of R295. -/
def freeOf (d : Dev) (h : Nat) : Int :=
  d.sharedOf h - ((List.range 8).foldl (fun n c => n + d.shuse h c) 0 : Nat)

/-- A threshold of R299: 0 AMBER, 1 RED, 2 BLACK, 3 the hysteresis. -/
def thresh (d : Dev) (h k : Nat) : Nat := d.fld (brkBase h + 0x10 + 4 * k) 20 0

/-- The level that FREE enters from below (R299). -/
def enterLevel (d : Dev) (h : Nat) : Nat :=
  let f := d.freeOf h
  if f < d.thresh h 2 then 3 else if f < d.thresh h 1 then 2
  else if f < d.thresh h 0 || d.sharedOf h < d.thresh h 0 + d.thresh h 3 then 1 else 0

/-- The level once FREE has let it fall from `l` (R299). -/
def fallLevel (d : Dev) (h : Nat) : Nat → Nat
  | 0 => 0
  | l + 1 => if d.freeOf h ≥ d.thresh h l + d.thresh h 3 then fallLevel d h l else l + 1

/-- Whether PFC is wanted toward an interface by one half at its level (R300); NET_PFC is as it stood at the half's last
change of level (R310). -/
def wantsXoff (d : Dev) (i h : Nat) : Bool :=
  let x := d.half h
  let bay := i < 48
  (x.level ≥ 1 && bay && ifUsed x i > d.fld (brkBase h + 0x20) 20 0)
    || (x.level ≥ 2 && (bay || x.netPfc))

/-- PFC frames sent toward an interface on every priority of PFC_TX (R76, R300). -/
def sendPfc (d : Dev) (i quanta : Nat) : Dev :=
  let m := d.fld (portBase i + 0x0C) 15 8
  if m = 0 then d else
  (List.range 8).foldl (fun d p => if m.testBit p then d.bump (portBase i + 0x1C0 + 8 * p) else d)
    { d with out := d.out ++ [.pfc i m quanta] }

/-- R300: XOFF sent or ended toward one interface as its condition now stands. -/
def pressPort (d : Dev) (i : Nat) : Dev :=
  let p := d.port i
  let able := p.active && p.st == .admitted
  let want := able && (d.wantsXoff i 0 || d.wantsXoff i 1)
  if want = p.xoffSent then d
  else
    let d := d.setPort i fun p => { p with xoffSent := want }
    if want then d.sendPfc i 0xFFFF else if able then d.sendPfc i 0 else d

/-- R300: back-pressure judged again toward every interface. -/
def press (d : Dev) : Dev :=
  if d.west.level = 0 && d.east.level = 0 && !d.ports.any (fun e => e.2.xoffSent) then d
  else ifaces.foldl pressPort d

/-- R299: the level judged after a grant, a free or a change of the figures. -/
def judge (d : Dev) (h : Nat) : Dev :=
  let l := (d.half h).level
  let l' := max (d.enterLevel h) (d.fallLevel h l)
  let d := d.setHalf h fun x => { x with level := l', netPfc := if l' = l then x.netPfc else d.flag (brkBase h) 1 }
  let enter (d : Dev) (k : Nat) : Dev :=
    if l < k && k ≤ l' then (d.event (brkBase h + 8) (k - 1)).bump (brkBase h + 0x350 + 8 * (k - 1)) else d
  (enter (enter (enter d 1) 2) 3).press

/-- Whether the shared region is open to a class and kind at a level (R300). -/
def sharedOpen (l c : Nat) (k : AllocKind) : Bool :=
  if l ≤ 1 then true
  else if l = 2 then k != .new || (c != 2 && c != 3)
  else k != .new

/-- Bricks of a covered length (R289). -/
def bricksFor (n : Nat) : Nat := (n + 127) / 128

/-- Up to `n` bricks never used, from `f` on, that are not retired; and the brick after the last looked at. -/
def freshFrom (retired : List Nat) : Nat → Nat → Nat → List Nat × Nat
  | 0, f, _ => ([], f)
  | _, f, 0 => ([], f)
  | fuel + 1, f, n + 1 =>
    if f ≥ 655360 then ([], f)
    else if retired.contains f then freshFrom retired fuel (f + 1) (n + 1)
    else
      let (l, e) := freshFrom retired fuel (f + 1) n
      (f :: l, e)

/-- `n` bricks taken from the free list: those never used first, then freed ones in the order of their return. -/
def takeBricks (x : Half) (n : Nat) : Half × List Nat :=
  let (news, f) := freshFrom x.retired (n + x.retired.length) x.fresh n
  let k := n - news.length
  ({ x with fresh := f, returned := x.returned.drop k }, news ++ x.returned.take k)

/-- Why an allocation of `n` bricks is refused under R297; none when it is granted. -/
def allocReason (d : Dev) (h c n : Nat) (k : AllocKind) : Option Nat :=
  let used := usedOf (d.half h) c
  let need := (used + n - d.resv h c) - d.shuse h c
  if need = 0 then none
  else if !sharedOpen (d.half h).level c k then some 0x63
  else if d.shuse h c + need > d.ceilOf h c then some 0x62
  else if d.freeOf h < need then some 0x61
  else none

/-- A refusal of R297 counted. -/
def countRefusal (d : Dev) (h r : Nat) : Dev :=
  if r = 0x61 then (d.bump (brkBase h + 0x310)).event (brkBase h + 8) 9
  else if r = 0x62 then d.bump (brkBase h + 0x318)
  else if r = 0x63 then d.bump (brkBase h + 0x320)
  else d

/-- Whether a half works (R309). -/
def halfOn (d : Dev) (h : Nat) : Bool := d.isOn (104 + h)

/-- R297: a chain of `n` bricks allocated and filled, or the reason it is refused. The pair is the chain's brick address
and its GEN. A half that is not ON grants nothing (R309, R432). -/
def allocN (d : Dev) (h c n : Nat) (k : AllocKind) (holder admIf : Nat) (bytes : List Byte) : Dev × Except Nat (Nat × Nat) :=
  if !d.halfOn h then (d, .error 0xA2) else
  match d.allocReason h c n k with
  | some r => (d.countRefusal h r, .error r)
  | none =>
    let (x, bs) := takeBricks (d.half h) n
    let ix := bs.headD 0
    let g := (Map.getD x.gens ix 0 + 1) % 256
    let chain : Chain := { refcnt := 1, cls := c, holder := holder, gen := g, bricks := bs, admIf := admIf, bytes := bytes }
    let d := d.setHalf h fun _ => { x with chains := Map.put x.chains ix chain, gens := Map.putD x.gens ix 0 g }
    let d := if k = .xfer then d.bump (brkBase h + 0x348) else d
    ((d.bump (brkBase h + 0x300)).judge h, .ok (h * 2 ^ 20 + ix, g))

/-- A whole chain for the bytes of a packet or record. -/
def alloc (d : Dev) (h c : Nat) (k : AllocKind) (holder admIf : Nat) (bytes : List Byte) : Dev × Except Nat (Nat × Nat) :=
  d.allocN h c (max 1 (bricksFor bytes.length)) k holder admIf bytes

/-- The half of a brick address. -/
def halfAddr (a : Nat) : Nat := a / 2 ^ 20 % 2
/-- The index of a brick address within its half. -/
def ixAddr (a : Nat) : Nat := a % 2 ^ 20

/-- The valid chain that an address and GEN name. -/
def chain? (d : Dev) (a g : Nat) : Option Chain :=
  (Map.get? (d.half (halfAddr a)).chains (ixAddr a)).filter fun c => c.gen = g

/-- A valid chain changed in place. -/
def setChain (d : Dev) (a : Nat) (f : Chain → Chain) : Dev :=
  d.setHalf (halfAddr a) fun x => { x with chains := Map.adjust x.chains (ixAddr a) f }

/-- The bytes of a chain. -/
def chainBytes (d : Dev) (a g : Nat) : List Byte := ((d.chain? a g).map (·.bytes)).getD []

/-- Whether a brick is in service: not retired, and no spare that waits (R288, R306). -/
def serves (x : Half) (b : Nat) : Bool :=
  !x.retired.contains b && (b < 655360 || x.returned.contains b || x.chains.any (fun e => e.2.bricks.contains b) || Map.has x.orphans b)

/-- The first spare from a brick on that waits, of at most `n`. -/
def nextSpare (x : Half) : Nat → Nat → Option Nat
  | 0, _ => none
  | n + 1, b => if x.retired.contains b || serves x b then nextSpare x n (b + 1) else some b

/-- R306: a free brick retired; a spare takes its place while one is left. A spare that waits is retired as it is. -/
def retire (d : Dev) (h b : Nat) : Dev :=
  let x := d.half h
  let spare := sparesLeft x
  let served := x.retiring.contains b || serves x b
  let gone := { x with retired := addOnce x.retired b, retiring := without x.retiring b, returned := without x.returned b }
  let x' := match if served then nextSpare gone 13312 655360 else none with
    | some n => { gone with returned := gone.returned ++ [n] }
    | none => gone
  let d := d.setHalf h fun _ => x'
  if spare = 0 && !x.spareOut then
    ((d.setHalf h fun x => { x with spareOut := true }).raise (srcHalf h) 0x6020).event (brkBase h + 8) 8
  else d

/-- One brick returned to the free list, or retired (R306). -/
def returnBrick (d : Dev) (h b : Nat) : Dev :=
  if (d.half h).retiring.contains b then d.retire h b
  else d.setHalf h fun x => { x with returned := x.returned ++ [b] }

/-- R303: a chain freed. -/
def freeChain (d : Dev) (a : Nat) : Dev :=
  let h := halfAddr a
  match Map.get? (d.half h).chains (ixAddr a) with
  | none => d
  | some c =>
    let d := d.setHalf h fun x => { x with chains := Map.erase x.chains (ixAddr a) }
    ((c.bricks.foldl (fun d b => d.returnBrick h b) d).bump (brkBase h + 0x308)).judge h

/-- One reference given up; at 0 the chain is freed. -/
def dropRef (d : Dev) (a : Nat) (c : Chain) : Dev :=
  if c.refcnt ≤ 1 then d.freeChain a else d.setChain a fun c => { c with refcnt := c.refcnt - 1 }

/-- Fault 0x6010 of a half, counted. -/
def doubleFree (d : Dev) (h : Nat) (inj wear : Bool) : Dev :=
  ((d.raiseAs (srcHalf h) 0x6010 [] inj wear).bump (brkBase h + 0x328)).event (brkBase h + 8) 3

/-- A release by the data path (R303, R304), and its replay under INJ_DFREE (R310). -/
def release (d : Dev) (a g : Nat) : Dev :=
  let h := halfAddr a
  let d := match d.chain? a g with
    | none => d.doubleFree h false true
    | some c => d.dropRef a c
  if d.flag (brkBase h + 0x0C) 0 then (d.clrBit (brkBase h + 0x0C) 0).doubleFree h true true else d

/-- R304 for a request from an external holder `p`; `share` tells a share, or another use that takes no reference away, from a
release or free. -/
def judgeHolder (d : Dev) (p a g : Nat) (share : Bool) : Dev × Option Chain :=
  let h := halfAddr a
  match d.chain? a g with
  | none =>
    if share then ((d.raise (srcHalf h) 0x6012).event (brkBase h + 8) 5, none) else (d.doubleFree h false false, none)
  | some c =>
    if c.holder ≠ p then
      (((d.raise (srcHalf h) 0x6011).bump (brkBase h + 0x330)).event (brkBase h + 8) 4, none)
    else (d, some c)

/-- R303: a share by the external holder. -/
def shareBy (d : Dev) (p a g : Nat) : Dev × ChainOutcome :=
  match d.judgeHolder p a g true with
  | (d, none) => (d, .misuse)
  | (d, some c) => if c.refcnt ≥ 255 then (d, .full) else (d.setChain a fun c => { c with refcnt := c.refcnt + 1 }, .ok)

/-- R303: a release by the external holder. -/
def releaseBy (d : Dev) (p a g : Nat) : Dev × ChainOutcome :=
  match d.judgeHolder p a g false with
  | (d, none) => (d, .misuse)
  | (d, some c) => (d.dropRef a c, .ok)

/-- R303: a free by the external holder. Its claim ends, then as a release. -/
def freeBy (d : Dev) (p a g : Nat) : Dev × ChainOutcome :=
  match d.judgeHolder p a g false with
  | (d, none) => (d, .misuse)
  | (d, some c) => ((d.setChain a fun c => { c with holder := 0 }).dropRef a c, .ok)

/-- R302: the claim passed to another holder in one arbiter step. -/
def giveBy (d : Dev) (p a g dest : Nat) : Dev × ChainOutcome :=
  match d.judgeHolder p a g true with
  | (d, none) => (d, .misuse)
  | (d, some _) => (d.setChain a fun c => { c with holder := dest }, .ok)

/-- R305: a read by the host or an engine. -/
def readChain (d : Dev) (a g : Nat) (n : Nat) : Dev × Option (List Byte) :=
  let h := halfAddr a
  match d.chain? a g with
  | none => ((d.raise (srcHalf h) 0x6012).event (brkBase h + 8) 5, none)
  | some c => (d, some (c.bytes.take n))

/-- Whether a number is a holder that R302 issues. -/
def isHolder (p : Nat) : Bool := (1 ≤ p && p ≤ 0x88) || p = 0xFF

/-- R307: a link or chain record of a chain read in error. The first brick is found and freed, and the bricks beyond it
stay allocated until the sweeper. -/
def linkError (d : Dev) (a : Nat) (inj : Bool) : Dev :=
  let h := halfAddr a
  let d := ((d.raiseAs (srcHalf h) 0x6030 [] inj true).bump (brkBase h + 0x338)).event (brkBase h + 8) 6
  match Map.get? (d.half h).chains (ixAddr a) with
  | none => d
  | some c =>
    let lost := c.bricks.drop 1
    let d := d.setHalf h fun x =>
      { x with chains := Map.put x.chains (ixAddr a) { c with bricks := c.bricks.take 1 },
               orphans := lost.foldl (fun m b => Map.put m b ⟨c.cls, c.admIf, 0⟩) x.orphans }
    d.freeChain a

/-- R306: a brick condemned: retired at once while free, marked while it serves a chain. -/
def condemn (d : Dev) (h b : Nat) : Dev :=
  let x := d.half h
  if x.retired.contains b then d
  else if x.chains.any (fun e => e.2.bricks.contains b) || Map.has x.orphans b then
    d.setHalf h fun x => { x with retiring := addOnce x.retiring b }
  else
    (d.retire h b).judge h

/-- R308: the sweeper at one allocated brick; `lapEnd` carries the lap's time in ms when it is the lap's last. -/
def brickSweep (d : Dev) (h b : Nat) (lapEnd : Option Nat) : Dev :=
  let base := brkBase h
  if !d.flag base 0 || !d.halfOn h then d else
  let x := d.half h
  let d := match Map.get? x.orphans b with
    | none => d
    | some o =>
      if o.seen ≠ 0 && o.seen + 1 = x.lapNo + 1 then
        let d := d.setHalf h fun x => { x with orphans := Map.erase x.orphans b }
        let d := (d.returnBrick h b).bump (base + 0x340)
        if x.lapFreed then d.judge h
        else ((d.setHalf h fun x => { x with lapFreed := true }).raise (srcHalf h) 0x6031).event (base + 8) 7 |>.judge h
      else d.setHalf h fun x => { x with orphans := Map.put x.orphans b { o with seen := x.lapNo + 1 } }
  match lapEnd with
  | none => d
  | some ms =>
    let d := if d.lapLong (ms * 1000) then d.raise (srcHalf h) 0xC011 else d
    d.setHalf h fun x => { x with lap := min ms (2 ^ 32 - 1), lapNo := x.lapNo + 1, lapFreed := false }

/-- R296: whether a reserve may be written; the figures are judged as the write would leave them. -/
def resvOk (d : Dev) (h c v : Nat) : Bool :=
  let d' := d.setReg (brkBase h + 0x40 + 8 * c) v
  d'.sharedOf h ≥ d.thresh h 0 + d.thresh h 3 && d'.freeOf h ≥ 0

/-- R299: whether a threshold or the hysteresis may be written. -/
def threshOk (d : Dev) (h k v : Nat) : Bool :=
  let d' := d.setReg (brkBase h + 0x10 + 4 * k) v
  d'.thresh h 0 > d'.thresh h 1 && d'.thresh h 1 > d'.thresh h 2
    && d'.sharedOf h ≥ d'.thresh h 0 + d'.thresh h 3

end Dev

/-- BRICK_SWEEP_VISIT (R308): half, brick index, and the lap's time in ms where the visit ends a lap. -/
def execBrickSweepVisit (half : Fin 2) (brick : Nat) (lap : Option Nat) (s : State) : Result :=
  s.act (·.brickSweep half brick lap)

end Sys2Proof.Machine
end

