-- ==== Sys2Proof/Machine/Mortar.lean ====
section
/-! DEFINITION. Chapter 4: the mortar word and the frame check sequence, the patch arithmetic, and the limits of one
pass. -/

namespace Sys2Proof.Machine

/-- `n` steps of a reflected remainder with polynomial `p`. -/
def crcBits (p : Nat) : Nat → Nat → Nat
  | 0, c => c
  | n + 1, c => crcBits p n (if c % 2 = 1 then (c / 2) ^^^ p else c / 2)

/-- A reflected remainder carried over bytes. -/
def crcOver (p : Nat) (c : Nat) (l : List Byte) : Nat := l.foldl (fun c b => crcBits p 8 (c ^^^ b.toNat)) c

/-- CRC-32C's polynomial, reflected (R94). -/
def polyC : Nat := 0x82F63B78
/-- CRC-32's polynomial, reflected: the FCS. -/
def polyF : Nat := 0xEDB88320

/-- The mortar word over covered bytes (R94). -/
def crc32c (l : List Byte) : Nat := crcOver polyC 0xFFFFFFFF l ^^^ 0xFFFFFFFF

/-- The frame check sequence over a frame's bytes, as its four bytes on the wire. -/
def fcs (l : List Byte) : List Byte := leBytes 4 (crcOver polyF 0xFFFFFFFF l ^^^ 0xFFFFFFFF)

/-- raw(d): the remainder with initial value 0 and no final XOR (R98). -/
def crcRaw (l : List Byte) : Nat := crcOver polyC 0 l

/-- shift(c, t): c · x^(8t) mod P (R98). -/
def crcShift (c t : Nat) : Nat := crcBits polyC (8 * t) c

/-- k(n) of R99. -/
def crcInit (n : Nat) : Nat := crcShift 0xFFFFFFFF n ^^^ 0xFFFFFFFF

/-- A packet as the patch unit sees it: its bytes, its word and the changes made so far in this pass. -/
structure Patched where
  bytes   : List Byte
  mortar  : Nat
  mpatch  : Nat
  changes : Nat
deriving DecidableEq, Repr

/-- Why a patch is refused (R101). -/
inductive PatchError where
  | limit
deriving DecidableEq, Repr

/-- A change's remainder applied, with the covered length before and after (R99). -/
def patchWord (m before after delta : Nat) : Nat := ((m ^^^ crcInit before) ^^^ delta) ^^^ crcInit after

/-- Bookkeeping of one change under the limits of R101: at most 15 changes, within the 512-byte window, and a covered
length of 14 to 16,383. -/
def patchDone (p : Patched) (reach : Nat) (bytes : List Byte) (m : Nat) : Except PatchError Patched :=
  if p.changes ≥ 15 || reach > 512 || bytes.length < 14 || bytes.length > 16383 then .error .limit
  else .ok { bytes := bytes, mortar := m, mpatch := min 15 (p.mpatch + 1), changes := p.changes + 1 }

/-- R99: an overwrite of the bytes at `off` by `y`. -/
def patchOverwrite (p : Patched) (off : Nat) (y : List Byte) : Except PatchError Patched :=
  let n := p.bytes.length
  let x := slice p.bytes off y.length
  let delta := crcShift (crcRaw (List.zipWith (· ^^^ ·) x y)) (n - off - y.length)
  if off + y.length > n then .error .limit
  else patchDone p (off + y.length) (patch p.bytes off y) (patchWord p.mortar n n delta)

/-- R99: bytes `b` inserted at `off`. -/
def patchInsert (p : Patched) (off : Nat) (b : List Byte) : Except PatchError Patched :=
  let n := p.bytes.length
  let a := p.bytes.take off
  let delta := crcShift (crcRaw b ^^^ crcShift (crcRaw a) b.length ^^^ crcRaw a) (n - off)
  if off > n then .error .limit
  else patchDone p (off + b.length) (a ++ b ++ p.bytes.drop off) (patchWord p.mortar n (n + b.length) delta)

/-- R99: `len` bytes removed at `off`. -/
def patchRemove (p : Patched) (off len : Nat) : Except PatchError Patched :=
  let n := p.bytes.length
  let a := p.bytes.take off
  let b := slice p.bytes off len
  let delta := crcShift (crcRaw b ^^^ crcShift (crcRaw a) len ^^^ crcRaw a) (n - off - len)
  if off + len > n then .error .limit
  else patchDone p (off + len) (a ++ p.bytes.drop (off + len)) (patchWord p.mortar n (n - len) delta)

/-- R99: a removal at the tail, which keeps `keep` bytes: how a copy is truncated. It reads no byte of the window. -/
def patchTruncate (p : Patched) (keep : Nat) : Except PatchError Patched :=
  let n := p.bytes.length
  if keep = 0 || n ≤ keep then .ok p
  else
    let a := p.bytes.take keep
    let b := p.bytes.drop keep
    let delta := crcRaw b ^^^ crcShift (crcRaw a) b.length ^^^ crcRaw a
    if keep < 14 then .error .limit
    else patchDone p 0 a (patchWord p.mortar n keep delta)

/-- Offset of a course block's mortar registers. -/
def mrtBase (c : Nat) : Nat := 0x100400 + c * 0x8000

/-- Port index p of an interface within its course (R108). -/
def portIndex (i : Nat) : Nat := if i < 48 then i % 3 else if i < 80 then 3 else 4

/-- DETAIL of the mortar family of faults (R604): the packet, its carried and its computed word. -/
def mortarDetail (x : Desc) (epoch carried computed : Nat) : List Nat :=
  [x.admIf % 256 * 2 ^ 24 + x.course * 2 ^ 16 + x.msrc * 2 ^ 12 + x.mpatch * 2 ^ 8 + b2n x.lastAct.isSome * 2
      + b2n x.admChecked,
   x.aseq / 2 ^ 32 % 2 ^ 16 * 2 ^ 16 + epoch, x.aseq % 2 ^ 32, x.mlen * 2 ^ 18 + x.lastAct.getD 0, carried, computed]

end Sys2Proof.Machine
end

