-- ==== Sys2Proof/Machine/Parser.lean ====
section
/-! DEFINITION. Chapter 5: node fields, selectors, the walk, what a walk's end leads to, and the keys that the
classifier builds from a parse result (R144 to R146). -/

namespace Sys2Proof.Machine

/-- Word `i` of a node or record. -/
def word (l : List Nat) (i : Nat) : Nat := l.getD i 0

/-- The 512-byte header window (R117). -/
def window (bytes : List Byte) : List Byte := bytes.take 512

/-- R117: the selector of `w` bits that starts at bit `sb` of byte `at_`, in network order. -/
def selector (win : List Byte) (at_ sb w : Nat) : Nat := (field win at_ 3 >>> (24 - sb - w)) % 2 ^ w

/-- Ones among the low 16 bits. -/
def popcount16 (v : Nat) : Nat := (List.range 16).foldl (fun n i => n + b2n (v.testBit i)) 0

/-- R118: the header length of a node whose header starts at `off`. -/
def headerLen (nd : List Nat) (win : List Byte) (off : Nat) : Nat :=
  let w1 := word nd 1
  let v := selector win (off + bits w1 27 21) (bits w1 20 18) (bits w1 17 13)
  match bits w1 31 30 with
  | 1 => v <<< bits w1 29 28 + bits w1 12 4
  | 2 => popcount16 v <<< bits w1 29 28 + bits w1 12 4
  | _ => bits w1 12 4

/-- R119: the node that follows. -/
def nextNode (nd : List Nat) (win : List Byte) (off : Nat) : Nat :=
  let w3 := word nd 3
  let t := selector win (off + bits w3 31 25) (bits w3 24 22) (bits w3 21 17)
  let cand := (List.range 8).find? fun k =>
    let v := word nd (4 + k)
    let j := word nd (12 + k / 2)
    let m := bits v 15 0
    (if k % 2 = 1 then j.testBit 31 else j.testBit 15) && (t &&& m) == (bits v 31 16 &&& m)
  match cand with
  | some k => let j := word nd (12 + k / 2); if k % 2 = 1 then bits j 25 16 else bits j 9 0
  | none => bits w3 9 0

/-- R120: the extracts of a node applied to the field vector. -/
def extracts (nd : List Nat) (win : List Byte) (off : Nat) (p : Parse) : Parse :=
  (List.range 8).foldl (fun p k =>
    let x := word nd (16 + k)
    let n := bits x 24 20
    let dest := bits x 19 13
    let src := beBytes n (field win (off + bits x 31 25) n)
    { p with fv := patch p.fv dest src, written := p.written ||| (2 ^ n - 1) <<< dest }) p

/-- The layers of the level a walk is at. -/
def Parse.layers (p : Parse) : Layers := if p.level = 0 then p.lev0 else if p.level = 1 then p.lev1 else p.lev2

/-- Those layers changed. -/
def Parse.setLayers (p : Parse) (f : Layers → Layers) : Parse :=
  if p.level = 0 then { p with lev0 := f p.lev0 }
  else if p.level = 1 then { p with lev1 := f p.lev1 } else { p with lev2 := f p.lev2 }

/-- R121, R124: layer offsets, tag count and level of an applied header. -/
def noteLayer (nd : List Nat) (off : Nat) (p : Parse) : Parse :=
  let w0 := word nd 0
  let p := if w0.testBit 22 then p.setLayers fun l => { l with tags := min 3 (l.tags + 1) } else p
  match bits w0 25 23 with
  | 1 => p.setLayers fun l => { l with l2 := some off }
  | 2 => p.setLayers fun l => { l with l3 := some off }
  | 3 => p.setLayers fun l => { l with l4 := some off }
  | 4 => if p.level = 0 then { p with tun0 := some off, level := 1 } else { p with tun1 := some off, level := 2 }
  | _ => p

/-- Ones' complement sum of 16-bit words, folded. -/
def onesSum (l : List Byte) : Nat :=
  let rec go : List Byte → Nat
    | [] => 0
    | [a] => a.toNat * 256
    | a :: b :: r => a.toNat * 256 + b.toNat + go r
  let s := go l
  let s := s % 65536 + s / 65536
  s % 65536 + s / 65536

/-- Whether an IPv4 header checks. -/
def ipv4CsumOk (win : List Byte) (off h : Nat) : Bool := onesSum (slice win off h) == 0xFFFF

/-- R130: offset in bytes and more flag of a FRAG node's header. -/
def fragFields (nd : List Nat) (win : List Byte) (off : Nat) : Nat × Bool :=
  if bits (word nd 0) 21 20 = 1 then
    let v := field win (off + 6) 2
    (v % 8192 * 8, v.testBit 13)
  else
    let v := field win (off + 2) 2
    (v / 8 * 8, v % 2 = 1)

/-- R131: the key of a fragment; the port index is filled in by the course. -/
def fragKey (nd : List Nat) (win : List Byte) (off : Nat) (p : Parse) : FragKey :=
  let l3 := p.layers.l3.getD 0x3FF
  if bits (word nd 0) 21 20 = 1 then
    ⟨0, p.level, 4, field win (l3 + 12) 4, field win (l3 + 16) 4, field win (off + 9) 1, field win (off + 4) 2⟩
  else ⟨0, p.level, 6, field win (l3 + 8) 16, field win (l3 + 24) 16, field win off 1, field win (off + 4) 4⟩

/-- R121: the walk. `bad` is the read, counted from 0, that errs, with whether it is a NODE_ID mismatch. -/
def walk (g : Graph) (depthMax mlen : Nat) (win : List Byte) (bad : Option (Nat × Bool)) :
    Nat → Nat → Nat → Parse → Parse
  | 0, _, _, p => p
  | fuel + 1, off, node, p =>
    let p := { p with endNode := node }
    let nd := g.nodes.getD node []
    let w0 := word nd 0
    if bad.any fun b => b.1 = p.depth then { p with fin := .nodeError ((bad.map (·.2)).getD false) }
    else if bits (word nd 31) 9 0 ≠ node then { p with fin := .nodeError true }
    else match bits w0 31 30 with
    | 1 => { p with fin := .accept }
    | 2 => { p with fin := .drop (bits w0 29 26) }
    | 3 => { p with fin := .service (bits w0 29 26) }
    | _ =>
      let w2 := word nd 2
      let h := headerLen nd win off
      let kind := bits w2 13 12
      let e := (if kind = 1 then off else off + h) + field win (off + bits w2 10 4) 2
      if p.depth = depthMax then { p with trunc := some 0 }
      else if h > bits w2 22 14 then { p with trunc := some 3 }
      else if h < bits w2 31 23 then { p with lenconf := some 3 }
      else if off + h > 512 then { p with trunc := some 1 }
      else if off + h > mlen then { p with short := true }
      else if off + h > p.bound then { p with lenconf := some 0 }
      else if bits w0 25 23 = 4 ∧ p.level = 2 then { p with trunc := some 2 }
      else if kind ≠ 0 ∧ e > p.bound then { p with lenconf := some 0 }
      else if kind ≠ 0 ∧ e < off + h then { p with lenconf := some 2 }
      else if kind ≠ 0 ∧ w2.testBit 11 ∧ e ≠ p.bound then { p with lenconf := some 1 }
      else
        let p := if kind ≠ 0 then { p with bound := e } else p
        let p := noteLayer nd off (extracts nd win off p)
        let p := if w0.testBit 19 && !ipv4CsumOk win off h then { p with csum := true } else p
        let p := { p with depth := p.depth + 1, parseEnd := off + h }
        let next := nextNode nd win off
        let frag := bits w0 21 20
        let (fo, more) := fragFields nd win off
        let noted := { p with fragKey := some (fragKey nd win off p), fragOff := fo, fragPay := off + h }
        if frag ≠ 0 ∧ fo ≠ 0 then { noted with fragLater := true }
        else
          let p := if frag ≠ 0 ∧ more then { noted with fragFirst := true } else p
          walk g depthMax mlen win bad fuel (off + h) next p

/-- A whole walk from a start node (R112). -/
def parseFrom (g : Graph) (depthMax : Nat) (bytes : List Byte) (node : Nat) (bad : Option (Nat × Bool)) : Parse :=
  walk g depthMax bytes.length (window bytes) bad (depthMax + 1) 0 node { bound := bytes.length }

/-- What a parse leads to (R127). -/
inductive Resolved where
  | classify
  | later
  | drop (reason : Nat)
  | service (cls : Nat)
deriving DecidableEq, Repr

/-- Rows 1 to 10 of R127. -/
def resolve (g : Graph) (p : Parse) : Resolved :=
  let w2 := word g.hdr 2
  let dflt := bits w2 7 4
  let row (hit : Bool) (act reason : Nat) (rest : Resolved) : Resolved :=
    if !hit then rest else if act = 1 then .drop reason else if act = 2 then .service dflt else rest
  match p.fin with
  | .nodeError _ => .drop 0x1A
  | _ =>
    if p.short && p.fragFirst then .drop 0x15 else
    row p.short (bits w2 15 14) 0x10 <| row p.lenconf.isSome (bits w2 13 12) 0x12 <|
    row p.csum (bits w2 11 10) 0x19 <|
    match p.fin with
    | .drop a => .drop (0x20 + a)
    | _ =>
      if p.fragLater then .later else
      row p.trunc.isSome (bits w2 17 16) 0x11 <|
      match p.fin with
      | .service c => .service c
      | _ => .classify

/-! ### Keys (R145, R146) -/

/-- The metadata block of R146. -/
def metadata (x : Desc) (p : Parse) : List Byte :=
  let flags := b2n p.trunc.isSome * 128 + b2n p.short * 64 + b2n p.lenconf.isSome * 32 + b2n p.csum * 16
    + b2n p.fragFirst * 8 + b2n p.fragLater * 4 + b2n p.inherit_ * 2
  let port := if isIface x.admIf then portIndex x.admIf else 0
  let w := (List.range 128).foldl (fun n i => n * 2 + b2n (p.written.testBit i)) 0
  beBytes 1 x.admIf ++ beBytes 1 (x.kind * 64 + x.tag * 32 + port) ++ beBytes 1 flags
    ++ beBytes 1 (p.trunc.getD 0 * 64 + p.lenconf.getD 0 * 16 + p.level * 4) ++ beBytes 1 p.depth
    ++ beBytes 1 (p.lev0.tags + p.lev1.tags * 4 + p.lev2.tags * 16) ++ beBytes 2 p.endNode
    ++ beBytes 8 0 ++ beBytes 16 w

/-- R145: a key of `n` bytes built by the segments of a template. -/
def buildKey (n : Nat) (segs : List Nat) (fv md : List Byte) : List Byte :=
  segs.foldl (fun k s =>
    let src := if s.testBit 31 then md else fv
    let len := bits s 23 19
    patch k (bits s 18 12) (beBytes len (field src (bits s 30 24) len))) (List.replicate n 0)

namespace Dev

/-! ### Slots of the two live epochs -/

/-- The slot of a tag. -/
def slot (d : Dev) (tag : Nat) : Slot := if tag = 0 then d.epochs.slot0 else d.epochs.slot1

/-- The slot of a tag changed. -/
def setSlot (d : Dev) (tag : Nat) (f : Slot → Slot) : Dev :=
  if tag = 0 then { d with epochs := { d.epochs with slot0 := f d.epochs.slot0 } }
  else { d with epochs := { d.epochs with slot1 := f d.epochs.slot1 } }

/-- The value of an EPOCH register for the packets of a tag (R281). -/
def epochReg (d : Dev) (tag a : Nat) : Nat := ((Map.get? (d.slot tag).fields a).map (·.toNat)).getD (resetOf a)

/-! ### Courses -/

/-- Block of a course, physical or by name (R36). -/
def crsBase (c : Nat) : Nat := 0x100000 + c * 0x8000

/-- What a physical course keeps. -/
def course (d : Dev) (c : Nat) : Course := Map.getD d.courses c {}

/-- That state changed. -/
def setCourse (d : Dev) (c : Nat) (f : Course → Course) : Dev := { d with courses := Map.upd d.courses c {} f }

/-- The course name that a physical course serves (R16); none for an idle spare. -/
def nameOf (d : Dev) (c : Nat) : Option Nat := (List.range 16).find? fun n => d.physical n = c

/-- Physical courses in service. -/
def servingCourses (d : Dev) : List Nat := ((List.range 16).map d.physical).filter fun c => d.isOn (4 + c)

/-- The core die of a physical course: 0 West, 1 East (R12). -/
def dieOfCourse (c : Nat) : Nat := if c < 8 || c = 16 then 0 else 1

end Dev

end Sys2Proof.Machine
end

