-- ==== Sys2Proof/Machine/Channels.lean ====
section
/-! DEFINITION. Completion rings of the DMA channels (R462, R463) and their signals. -/

namespace Sys2Proof.Machine

namespace Dev

/-- Block of a DMA channel (R470). -/
def dmaBase (c : Nat) : Nat := 0x20000 + c * 0x400

/-- What a channel keeps beside its registers. -/
def chan (d : Dev) (c : Nat) : Chan := Map.getD d.chans c {}

/-- That state changed. -/
def setChan (d : Dev) (c : Nat) (f : Chan → Chan) : Dev := { d with chans := Map.upd d.chans c {} f }

/-- Entries of a channel's completion ring. -/
def cplSize (d : Dev) (c : Nat) : Nat := 2 ^ d.fld (dmaBase c + 0x2C) 4 0

/-- STATE of a channel (R464). -/
def chanState (d : Dev) (c : Nat) : Nat := d.fld (dmaBase c + 4) 2 0

/-- A write to host memory. -/
def toHost (d : Dev) (addr : Nat) (bytes : List Byte) : Dev := { d with out := d.out ++ [.host addr bytes] }

/-- R463: whether the next slot of the completion ring is free. -/
def cplFree (d : Dev) (c : Nat) : Bool :=
  (d.fld (dmaBase c + 0x34) 15 0 + 1) % d.cplSize c ≠ d.fld (dmaBase c + 0x30) 15 0 % d.cplSize c

/-- R463: a channel's vector signalled; the count of records since starts anew. -/
def cplSignal (d : Dev) (c : Nat) : Dev := (d.signal c).setChan c fun x => { x with unsig := 0, first := none }

/-- R462, R463: a record of eight words written to the next slot, with its PHASE; the vector follows. -/
def cplWrite (d : Dev) (c : Nat) (w : List Nat) (irq : Bool) : Dev :=
  let base := dmaBase c
  let head := d.fld (base + 0x34) 15 0
  let phase := (d.chan c).passes % 2 = 0
  let w := w.take 7 ++ [w.getD 7 0 + b2n phase * 2 ^ 31]
  let d := d.toHost (d.reg (base + 0x28) * 2 ^ 32 + d.reg (base + 0x24) / 32 * 32 + 32 * head) (wordsToLE w)
  let next := (head + 1) % d.cplSize c
  let d := d.setFld (base + 0x34) 15 0 next
  let d := d.setChan c fun x =>
    { x with passes := if next = 0 then x.passes + 1 else x.passes, unsig := x.unsig + 1,
             first := some (x.first.getD d.now) }
  if irq || (d.chan c).unsig ≥ max 1 (d.fld base 23 16) || d.fld base 15 8 = 0 then d.cplSignal c else d

/-- A record written, or held while the ring is full or the channel STOPPED (R463, R467). -/
def cplPut (d : Dev) (c : Nat) (w : List Nat) (irq : Bool) : Dev :=
  if d.cplFree c && (d.chan c).held.isEmpty && d.chanState c ≠ 4 then d.cplWrite c w irq
  else (d.setChan c fun x => { x with held := x.held ++ [(w, irq)] }).event (dmaBase c + 8) 2

/-- Held records written while slots are free. -/
def cplDrain (d : Dev) (c : Nat) : Dev :=
  (d.chan c).held.foldl (fun d r =>
    if d.cplFree c && d.chanState c ≠ 4 then
      (d.setChan c fun x => { x with held := x.held.drop 1 }).cplWrite c r.1 r.2
    else d) d

/-- R463: MOD_US since the first unsignalled record. -/
def modTimeout (d : Dev) (c : Nat) : Dev :=
  match (d.chan c).first with
  | none => d
  | some t => if d.now < t + d.fld (dmaBase c) 15 8 * 1000 then d else d.cplSignal c

end Dev

/-- MSIX_MODERATION_TIMEOUT (R463). -/
def execMsixModerationTimeout (ch : Fin 64) (s : State) : Result := s.act (·.modTimeout ch)

end Sys2Proof.Machine
end

