-- ==== Sys2Proof/Machine/QueueBase.lean ====
section
/-! DEFINITION. The egress, dispatch and host queues themselves (R313, R314): what they hold, what holds them, and the
entry of a copy. -/

namespace Sys2Proof.Machine

namespace Dev

/-- An egress queue. -/
def queue (d : Dev) (q : Nat) : Queue := Map.getD d.sched.queues q {}

/-- That queue changed. -/
def setQueue (d : Dev) (q : Nat) (f : Queue → Queue) : Dev :=
  { d with sched := { d.sched with queues := Map.upd d.sched.queues q {} f } }

/-- The write journals of the engines that have entries, by set × 16 + position. -/
def journals (d : Dev) : List (Nat × List JEntry) :=
  d.sets.flatMap fun s => s.2.engines.filterMap fun e =>
    if e.2.journal.isEmpty then none else some (s.1 * 16 + e.1, e.2.journal)

/-- Bricks of the places that journals hold in a queue (R388). -/
def heldBricks (d : Dev) (q : Nat) : Nat :=
  (d.journals.flatMap (·.2)).foldl (fun n e => match e with
    | .enq x w _ _ => if x = q then n + w.nb else n
    | .send x w => if x = q then n + w.nb else n
    | _ => n) 0

/-- Places that journals hold in the injection queue of a course by name (R400). -/
def heldInjects (d : Dev) (c : Nat) : Nat :=
  (d.journals.flatMap (·.2)).foldl (fun n e => match e with
    | .inject x _ _ _ => if x = c then n + 1 else n
    | _ => n) 0

/-- Bricks that a queue holds (R322). -/
def depthB (x : Queue) : Nat := x.items.foldl (fun n w => n + w.nb) 0

/-- The queues of an interface that are not at reset. -/
def queuesOf (d : Dev) (i : Nat) : List Nat :=
  (Map.keys d.sched.queues).filter fun q => q < 55296 && d.ifOfQueue q == i

/-- Whether class `k` of an interface is held by PFC that the interface honours (R78, R315). -/
def pfcHeld (d : Dev) (i k : Nat) : Bool :=
  let p := d.port i
  Map.has p.paused k && p.active && p.st == .admitted
    && (d.fld (portBase i + 0x0C) 7 0).testBit k && !Map.has p.recover k

/-- Whether a packet of class `k` waits in an interface's queues (R78). -/
def classWaits (d : Dev) (i k : Nat) : Bool :=
  (d.queuesOf i).any fun q => q % 8 == k && !(d.queue q).items.isEmpty

/-- An entry added to a queue: a child that was empty wakes at the next choice (R329), and the PFC watchdog of a held
class counts from the first packet that waits (R78). -/
def enqueue (d : Dev) (q : Nat) (w : Waiting) : Dev :=
  let i := d.ifOfQueue q
  let starts := q < 55296 && d.pfcHeld i (q % 8) && !d.classWaits i (q % 8)
  let d := d.setQueue q fun x => { x with items := x.items ++ [w], awake := x.awake && !x.items.isEmpty }
  if starts then d.setPort i fun p => { p with wdStart := Map.put p.wdStart (q % 8) d.now } else d

end Dev

end Sys2Proof.Machine
end

