-- ==== Sys2Proof/Machine/Items.lean ====
section
/-! DEFINITION. Work items (R394 to R399): set memory, the packet descriptor's words, items queued to a set, and the
completion of an item. -/

namespace Sys2Proof.Machine

/-- R252: the words of a packet descriptor. -/
def Desc.toWords (x : Desc) : List Nat :=
  let opt (hi : Nat) (o : Option Nat) (sh : Nat) : Nat := match o with
    | some n => 2 ^ hi + n <<< sh
    | none => 0
  [x.aseq % 2 ^ 32,
   (x.aseq / 2 ^ 32) <<< 16 + x.admIf <<< 8 + x.kind <<< 6 + x.tag <<< 5 + (x.pass % 8) <<< 2 + b2n x.admChecked * 2 + b2n x.copy,
   x.mortar,
   x.mlen <<< 18 + x.msrc <<< 16 + x.mpatch <<< 12 + x.course <<< 7 + b2n x.lastAct.isSome <<< 6,
   x.tstamp,
   x.tsTag <<< 16 + x.tsOp <<< 14 + x.ptpOff <<< 4 + b2n x.tsUdp <<< 3,
   x.queue <<< 16 + x.color <<< 14 + x.l3Kind <<< 12 + x.l3Off <<< 2,
   opt 31 x.edit 17 + x.lastAct.getD 0,
   opt 31 x.ctx 0, opt 31 x.policer 13, x.chain, 0]

/-- Dispatch queue of a set, class and priority (R248). -/
def dispatchQueue (s cls pri : Nat) : Nat := 55296 + 128 * s + 8 * cls + pri

/-- The set of a dispatch queue. -/
def setOfQueue (q : Nat) : Nat := (q - 55296) / 128

namespace Dev

/-! ### Sets and set memory (R373) -/

/-- Block of a set (R410). -/
def setBase (s : Nat) : Nat := 0x600000 + s * 0x2000

/-- What a set holds. -/
def set (d : Dev) (s : Nat) : SetSt := Map.getD d.sets s {}

/-- That state changed. -/
def setSet (d : Dev) (s : Nat) (f : SetSt → SetSt) : Dev := { d with sets := Map.upd d.sets s {} f }

/-- Whether a set is IN_SERVICE. -/
def setReady (d : Dev) (s : Nat) : Bool := d.isOn (38 + s) && d.fld (setBase s + 4) 30 28 = 0

/-- Bytes of set memory. -/
def memRead (d : Dev) (s a n : Nat) : List Byte := (List.range n).map fun i => Map.getD (d.set s).mem (a + i) 0

/-- Bytes written to set memory; a word wholly written is no longer POISONED. -/
def memWrite (d : Dev) (s a : Nat) (l : List Byte) : Dev :=
  d.setSet s fun x =>
    { x with mem := (l.zipIdx a).foldl (fun m e => Map.putD m e.2 0 e.1) x.mem,
             poison := x.poison.filter fun w => !(a ≤ 8 * w && 8 * w + 8 ≤ a + l.length) }

/-- The POISONED words of set memory that `n` bytes meet. -/
def poisonMet (d : Dev) (s a n : Nat) : List Nat := (d.set s).poison.filter fun w => a < 8 * w + 8 && 8 * w < a + n

/-- Bytes stored in set memory: a POISONED word that they do not fill keeps its bytes (R580, R584, R585). -/
def memStore (d : Dev) (s a : Nat) (l : List Byte) : Dev :=
  let part := (d.poisonMet s a l.length).filter fun w => !(a ≤ 8 * w && 8 * w + 8 ≤ a + l.length)
  if part.isEmpty then d.memWrite s a l
  else
    let d := part.foldl (fun d _ => d.writeRefused (6 + s / 32) none) d
    let first := if part.contains (a / 8) then a / 8 * 8 + 8 else a
    let last := (a + l.length - 1) / 8
    let stop := if part.contains last then last * 8 else a + l.length
    d.memWrite s first ((l.drop (first - a)).take (stop - first))

/-- A 32-bit word of set memory at a byte offset, its lowest byte least significant. -/
def memWord (d : Dev) (s a : Nat) : Nat := ofLE (d.memRead s a 4)

/-! ### Completion (R398, R399) -/

/-- The record of R398 written to a set's completion log. -/
def logRecord (d : Dev) (s : Nat) (r : List Nat) : Dev :=
  let base := setBase s
  let head := d.fld (base + 0x18) 9 0
  let d := d.memWrite s (0x7C000 + 16 * head) (wordsToLE r)
  let d := d.setFld (base + 0x18) 9 0 ((head + 1) % 1024)
  if head = 1023 then d.setFld (base + 0x18) 31 16 (min 65535 (d.fld (base + 0x18) 31 16 + 1)) else d

/-- The next ITEM_ID of a source, coded as ORIGIN. -/
def nextItemId (d : Dev) (src : Nat) : Dev × Nat :=
  let n := Map.getD d.itemIds src 0
  ({ d with itemIds := Map.putD d.itemIds src 0 ((n + 1) % 2 ^ 32) }, n)

/-- The set of an origin that is a set (R302): holders 1 to 64. -/
def originSet (o : Nat) : Option Nat := if 1 ≤ o && o ≤ 64 then some (o - 1) else none

/-- A record brick and place for an item of a dispatch queue; the reason that refuses it (R394). -/
def itemPlace (d : Dev) (q nb holder : Nat) (w : List Nat) : Dev × Except Nat (Nat × Nat) :=
  let x := d.queue q
  if x.par.qlim ≠ 0 && depthB x + d.heldBricks q + nb + 1 > x.par.qlim then (d, .error 0x74)
  else d.alloc (halfOfQueue q) 2 .new holder 0xFF (wordsToLE w)

/-- An item without a packet queued to a set; the reason that refuses it. -/
def queueItem (d : Dev) (q : Nat) (w : List Nat) : Dev × Option Nat :=
  match d.itemPlace q 0 0 w with
  | (d, .error r) => (d, some r)
  | (d, .ok b) => (d.enqueue q { desc := { queue := q }, enq := d.now, nb := 1, item := some w, brk := some b }, none)

/-- Header words 0 to 3 of an item (R394). -/
def itemHead (d : Dev) (kind tag pri cls cplTo id origin cplArg : Nat) (ctx : Option Nat) : List Nat :=
  let num := if tag = 0 then d.epochs.slot0.num else d.epochs.slot1.num
  [kind <<< 28 + tag <<< 27 + pri <<< 24 + cls <<< 20 + cplTo <<< 18, id, num <<< 16 + origin <<< 8 + cplArg,
   match ctx with
   | some n => 2 ^ 31 + n
   | none => 0]

/-- R398: the record of an item goes to the log and to the target of CPL_TO, and it is counted. -/
def completeItem (d : Dev) (s : Nat) (w : List Nat) (status reason pos commits micros result : Nat) : Dev :=
  let base := setBase s
  let w0 := w.getD 0 0
  let w2 := w.getD 2 0
  let kind := bits w0 31 28
  let cplTo := bits w0 19 18
  let r := [w.getD 1 0, status <<< 30 + kind <<< 24 + reason <<< 16 + s <<< 10 + pos <<< 6,
    min 65535 commits <<< 16 + min 65535 micros, result]
  let d := d.bump (base + 0x108 + 8 * status)
  let d := if status ≠ 0 || d.flag base 2 then d.logRecord s r else d
  if cplTo = 1 then
    let c := bits w2 7 0 % 64
    if (d.chan c).held.length ≥ 256 then
      let o := s
      let d := ((d.bump (dmaBase c + 0xB0)).event (dmaBase c + 8) 5)
      if status ≠ 0 || d.flag base 2 then d else d.logRecord o r
    else d.cplPut c (r ++ [0, 0, 0, 2 ^ 28]) false
  else if cplTo = 2 then
    match originSet (bits w2 15 8) with
    | none => d
    | some o =>
      let q := dispatchQueue o (bits w2 7 4) (bits w2 2 0)
      let (d, id) := d.nextItemId (0x100 + o)
      (d.queueItem q (d.itemHead 5 d.epochs.curTag (bits w2 2 0) (bits w2 7 4) 0 id (s + 1) 0 none ++ r
        ++ List.replicate 24 0)).1
  else d

/-- R399, R411: the drop reason of a packet whose item completes with a reason. -/
def dropOfReason (r : Nat) : Nat :=
  if r ≥ 0x80 then 0x91 else if r = 0x20 then 0x92 else if r = 0x21 then 0x93 else if r = 0x24 then 0x94
  else if r = 0x23 then 0x95 else if r = 0x22 then 0x96 else if r = 0x25 then 0x7E else 0x90

/-- A queued item that is not started completes NOT_RUN; its packet ends under `drop`, and its bricks are given back. -/
def notRun (d : Dev) (q : Nat) (w : Waiting) (reason drop : Nat) : Dev :=
  let d := match w.brk with
    | some b => d.release b.1 b.2
    | none => d
  match w.item with
  | none => d
  | some ws =>
    let d := d.completeItem (setOfQueue q) ws 2 reason 15 0 0 0
    if w.nb > 1 then (d.release w.desc.chain w.desc.gen).endCopy w.desc (.dropped drop) else d

/-- An item whose set is not IN_SERVICE completes NOT_RUN with the reason of the set's state (R396, R406, R408). -/
def downReason (d : Dev) (s : Nat) : Nat := if d.fld (setBase s + 4) 30 28 = 3 then 0x24 else 0x20

/-- R396: a queued item of a set that is not IN_SERVICE. -/
def refuseIfDown (d : Dev) (q : Nat) : Dev :=
  if q < 55296 || q ≥ 63488 || d.setReady (setOfQueue q) || d.fld (setBase (setOfQueue q) + 4) 30 28 = 4 then d
  else
    let ws := (d.queue q).items
    let r := d.downReason (setOfQueue q)
    let d := d.setQueue q fun x => { x with items := [] }
    ws.foldl (fun d w => d.notRun q w r (dropOfReason r)) d

end Dev

end Sys2Proof.Machine
end

