-- ==== Sys2Proof/Machine/Queues.lean ====
section
/-! DEFINITION. Chapter 11: buckets, meters and shapers; queues, their limits and their flush; the scheduler's choice
of a queue; refusals and the refusal notice; scheduler records. -/

namespace Sys2Proof.Machine

/-- Units of credit in a byte: the rate in Mb/s times the time in ns is 8,000 units a byte, and a rate in force is a
hundredth (R319, R325). -/
def creditUnit : Nat := 800000

/-- R319: a bucket brought up to date; the rate is in hundredths of Mb/s. -/
def accrue (b : Bucket) (rate burst t : Nat) : Bucket :=
  ⟨min (burst * creditUnit : Nat) (b.credit + rate * (t - b.t) ), t⟩

/-- R320: a bucket whose rate or burst a write has changed. -/
def resetBucket (mode burst t : Nat) : Bucket := ⟨if mode = 0 then (burst * creditUnit : Nat) else 0, t⟩

/-- Results of the marker of R320. -/
inductive Meter where
  | overPeak | overCommitted | withinCommitted
deriving DecidableEq, Repr

/-- The marker of R320 over two buckets already brought up to date; a rate of 0 is no bucket. -/
def meter (pkRate : Nat) (pk : Bucket) (cmRate : Nat) (cm : Bucket) (l : Nat) : Meter × Bucket × Bucket :=
  let need : Int := l * creditUnit
  if pkRate ≠ 0 ∧ pk.credit < need then (.overPeak, pk, cm)
  else
    let pk := if pkRate ≠ 0 then { pk with credit := pk.credit - need } else pk
    if cmRate = 0 ∨ cm.credit < need then (.overCommitted, pk, cm)
    else (.withinCommitted, pk, { cm with credit := cm.credit - need })

namespace Dev

/-- Key of a class node. -/
def classKey (i g k : Nat) : Nat := i * 1024 + g * 8 + k
/-- Key of a group node. -/
def groupKey (i g : Nat) : Nat := i * 1024 + 512 + g
/-- Key of an interface node. -/
def ifKey (i : Nat) : Nat := i * 1024 + 1023

/-- A node of the scheduler tree. -/
def node (d : Dev) (k : Nat) : Node := Map.getD d.sched.nodes k {}

/-- That node changed. -/
def setNode (d : Dev) (k : Nat) (f : Node → Node) : Dev :=
  { d with sched := { d.sched with nodes := Map.upd d.sched.nodes k {} f } }

/-- SCALE of R325 in percent. -/
def scale (d : Dev) (i : Nat) : Nat := d.fld (schBase i + 4) 6 0

/-- OVERHEAD of R318. -/
def overhead (d : Dev) (i : Nat) : Nat := d.fld (schBase i) 5 0

/-- The metered length L of R318. -/
def metered (d : Dev) (i mlen : Nat) : Nat := mlen + 4 + d.overhead i

/-- R317: whether an interface takes packets. -/
def takes (d : Dev) (i : Nat) : Bool :=
  let p := d.port i
  p.active && (p.st == .admitted || p.st == .quarantined)

/-- Whether a copy for an interface goes to the partner: STANDBY here, and its bit of PAIR_XFWD set (R572). -/
def crosses (d : Dev) (i : Nat) : Bool := !(d.port i).active && (d.reg (0x700030 + 4 * (i / 32))).testBit (i % 32)

/-- R572: whether a copy may be handed to the link, its bytes charged to the rate budget; counted where it may not. -/
def xferAllowed (d : Dev) (mlen : Nat) : Dev × Bool :=
  let rate := d.fld 0x700018 19 0
  let b := accrue d.pair.credit (rate * 100) Config.xfwdBurst d.creditNow
  let need := (48 + mlen) * creditUnit
  let d := { d with pair := { d.pair with credit := b } }
  if d.flag 0x700004 24 && d.pair.xq.length < 4096 && rate ≠ 0 && b.credit ≥ need then
    ({ d with pair := { d.pair with credit := { b with credit := b.credit - need } } }, true)
  else (d.bump 0x700138, false)

/-- A copy that enters the Fjarair transmit queue. -/
def enterXfer (d : Dev) (w : Waiting) : Dev := { d with pair := { d.pair with xq := d.pair.xq ++ [w] } }

/-! ### Refusals (R334 to R337) -/

/-- The cause of a refusal by its reason: SURPLUS, LIMIT, POOL, SHED, POLICE; none for other reasons. -/
def causeOf (r : Nat) : Option Nat :=
  if r = 0x70 then some 0
  else if r = 0x71 ∨ r = 0x74 ∨ r = 0x75 then some 1
  else if r = 0x61 ∨ r = 0x62 ∨ r = 0x63 then some 2
  else if r = 0x76 then some 3
  else if r = 0x73 then some 4
  else none

/-- A refusal counted in the admitting interface's counters and, for a bay, toward its notice. -/
def countCause (d : Dev) (x : Desc) (q r : Nat) : Dev :=
  match causeOf r with
  | none => d
  | some c =>
    if x.mirror || !isIface x.admIf then d else
    let i := x.admIf
    let k := q % 8
    let d := ((d.bump (schBase i + 0x40 + 0x28 * k)).bump (schBase i + 0x180 + 8 * c)).event (schBase i + 0x18) 0
    let more (n : Notice) : Notice := { n with counts := Map.upd n.counts (k * 5 + c) 0 (· + 1) }
    if i < 48 then { d with sched := { d.sched with notices := Map.upd d.sched.notices i {} more } } else d

/-- Global counts of drops by reason (R341). -/
def countGlobal (d : Dev) (r : Nat) : Dev :=
  if r = 0x7E then (d.bump 0x300100).event 0x300008 0
  else if r = 0x7C then d.bump 0x300108
  else if r = 0x74 then d.bump 0x300110
  else if r = 0x75 then d.bump 0x300118
  else if r = 0x73 then d.bump 0x300120
  else if r = 0x7D then d.bump 0x300130
  else d

/-- A copy refused at step 8: counted, and ended in its ledger. -/
def refuseCopy (d : Dev) (x : Desc) (q r : Nat) : Dev :=
  ((d.countCause x q r).countGlobal r).endCopy x (.dropped r)

/-! ### Ends of waiting copies -/

/-- A copy that waits in a queue, or is being sent, ended under a reason: its chain is released and it is counted. A
work item in a dispatch queue completes NOT_RUN, with reason 0x25 when aging ends it (R398) and else 0x22. -/
def endWaiting (d : Dev) (w : Waiting) (r : Nat) : Dev :=
  let d := d.countGlobal r
  if w.item.isSome then d.notRun w.desc.queue w (if r = 0x7E then 0x25 else 0x22) r
  else (d.release w.desc.chain w.desc.gen).endCopy w.desc (.dropped r)

/-- The counter of an interface's ends: 0 flushed, 1 aged (R342). -/
def countIfEnd (d : Dev) (q k : Nat) : Dev :=
  if q < 55296 then d.bump (schBase (d.ifOfQueue q) + 0x1A8 + 8 * k) else d

/-- Every copy waiting in a queue ended under a reason. -/
def emptyQueue (d : Dev) (q r : Nat) : Dev :=
  let ws := (d.queue q).items
  let d := d.setQueue q fun x => { x with items := [], awake := false }
  ws.foldl (fun d w => let d := d.endWaiting w r; if r = 0x7C then d.countIfEnd q 0 else d) d

/-- R334: one queue flushed. -/
def flushQueue (d : Dev) (q : Nat) : Dev :=
  let d := d.emptyQueue q 0x7C
  if q < 55296 then d.event (schBase (d.ifOfQueue q) + 0x18) 3 else d

/-- R334: the queues of an interface flushed, those of the classes in `mask`. -/
def flushIf (d : Dev) (i mask : Nat) : Dev :=
  let qs := (d.queuesOf i).filter fun q => mask.testBit (q % 8)
  (qs.foldl (fun d q => d.emptyQueue q 0x7C) d).event (schBase i + 0x18) 3

/-- R105 item 2: an interface that leaves service ends the frame it is sending, and a frame it has suspended. -/
def cutSending (d : Dev) (i : Nat) : Dev :=
  let cut (d : Dev) (w : Option Waiting) : Dev :=
    match w with
    | none => d
    | some w => ({ d with out := d.out ++ [.cut i] } : Dev).endWaiting w 0x7C
  let a := Map.get? d.sched.sending i
  let b := Map.get? d.sched.held i
  let s := d.sched
  let d := { d with sched := { s with sending := Map.erase s.sending i, held := Map.erase s.held i } }
  cut (cut d a) b

/-! ### Policers (R323) -/

/-- A policer. -/
def policer (d : Dev) (n : Nat) : Policer := Map.getD d.sched.policers n {}

/-- That policer changed. -/
def setPolicer (d : Dev) (n : Nat) (f : Policer → Policer) : Dev :=
  { d with sched := { d.sched with policers := Map.upd d.sched.policers n {} f } }

/-- R322 check 1: the colour a policer gives a pass of `l` bytes, 1 green, 2 yellow, 3 red. -/
def police (d : Dev) (n l : Nat) : Dev × Nat :=
  let p := d.policer n
  let t := d.creditNow
  if p.pir = 0 then (d, 1)
  else if d.flag 0x30000C 0 then
    let d := d.setPolicer n fun p => { p with peak := resetBucket 0 p.pbs t, com := resetBucket 0 p.cbs t }
    (((d.clrBit 0x30000C 0).raiseInj (srcHalf (n / 131072)) 0x7002).event 0x300008 2, 1)
  else
    let pk := accrue p.peak (p.pir * 100) p.pbs t
    let cm := accrue p.com (p.cir * 100) p.cbs t
    let (m, pk, cm) := meter p.pir pk p.cir cm l
    let p := { p with peak := pk, com := cm }
    match m with
    | .overPeak => (d.setPolicer n fun _ => { p with red := p.red + l }, 3)
    | .overCommitted => (d.setPolicer n fun _ => { p with yellow := p.yellow + l }, 2)
    | .withinCommitted => (d.setPolicer n fun _ => { p with green := p.green + l }, 1)

/-! ### The arrival meter and the limit (R322, R324, R326) -/

/-- Checks 3 and 4 of R322 for a copy of `mlen` bytes to queue `q`; the reason that refuses it. -/
def judgeQueue (d : Dev) (x : Desc) (q : Nat) : Dev × Option Nat :=
  let qs := d.queue q
  let t := d.creditNow
  let i := d.ifOfQueue q
  let (d, r) : Dev × Option Nat :=
    if q ≥ 55296 then (d, none)
    else
      let cir := qs.par.cir * d.scale i
      let pk := accrue qs.peak (qs.par.pir * 100) qs.par.pbs t
      let cm := accrue qs.com cir qs.par.cbs t
      let (m, pk, cm) := meter qs.par.pir pk cir cm (d.metered i x.mlen)
      let d := d.setQueue q fun y => { y with peak := pk, com := cm }
      if m = .overPeak then (d, some 0x70)
      else if d.sched.shed && (m = .overCommitted || x.color = 2) then (d, some 0x76)
      else (d, none)
  match r with
  | some _ => (d, r)
  | none =>
    if qs.par.qlim ≠ 0 && depthB qs + d.heldBricks q + bricksFor x.mlen + (if 55296 ≤ q && q < 63488 then 1 else 0) > qs.par.qlim then
      (d, some (if q < 55296 then 0x71 else if q < 63488 then 0x74 else 0x75))
    else (d, none)

/-- INJ_QSTATE (R341, R344): the queue state that step 8 reads is uncorrectable; the queue is flushed under 0x7D, its
parameters kept. True when it acted. -/
def queueStateError (d : Dev) (q : Nat) : Dev × Bool :=
  if d.flag 0x30000C 1 then
    ((((d.clrBit 0x30000C 1).emptyQueue q 0x7D).raiseInj (srcHalf (halfOfQueue q)) 0x7001 [] true).event 0x300008 1, true)
  else (d, false)

/-- R344: the queue's state read at step 8, and checks 3 and 4 of R322 on it. -/
def readQueue (d : Dev) (x : Desc) (q : Nat) : Dev × Option Nat :=
  match d.queueStateError q with
  | (d, true) => (d, some 0x7D)
  | (d, false) => d.judgeQueue x q

/-! ### Release (R327 to R331) -/

/-- Residence limit of R333 in ns. -/
def ageMax (d : Dev) : Nat := d.fld 0x300000 6 0 * 1000000

/-- Whether a copy's residence has reached AGE_MAX (R333); admission times are kept in units of 128 ns. -/
def aged (d : Dev) (x : Desc) : Bool := d.now / 128 * 128 ≥ x.admTime * 128 + d.ageMax

/-- A queue's departure shaper brought up to date (R327). -/
def departureBucket (d : Dev) (i : Nat) (x : Queue) : Bucket :=
  accrue x.dep (x.par.cir * d.scale i) x.par.cbs d.creditNow

/-- A shaper of a group or interface node brought up to date (R321). -/
def nodeBucket (d : Dev) (n : Node) : Bucket := accrue n.bucket (n.rate * 100) n.burst d.creditNow

/-- The interface shaper as a node, from SCH_IF_RATE and SCH_IF_BURST. -/
def ifNode (d : Dev) (i : Nat) : Node :=
  { d.node (ifKey i) with
    rate := d.fld (schBase i + 8) 19 0, burst := d.fld (schBase i + 0x0C) 23 0 }

/-- Whether a shaper lets its owner go (R321). -/
def shaperOpen (d : Dev) (n : Node) : Bool := n.rate = 0 || (d.nodeBucket n).credit ≥ 0

/-- Group and class of a queue of an interface (R314). -/
def groupOf (i q : Nat) : Nat := (q - qbase i) / 64

/-- Whether queue `q` is a candidate of tier G (R327). -/
def candG (d : Dev) (i q : Nat) : Bool :=
  let x := d.queue q
  x.par.cir ≠ 0 && (d.departureBucket i x).credit ≥ 0

/-- Whether the shapers let queue `q` go in tier E (R327). -/
def candE (d : Dev) (i q : Nat) : Bool :=
  d.shaperOpen (d.node (groupKey i (groupOf i q))) && d.shaperOpen (d.ifNode i)

/-- Whether a start tag lies before another, modulo 2^48 (R328). -/
def tagBefore (a b : Nat) : Bool := let x := (b + 2 ^ 48 - a) % 2 ^ 48; 0 < x && x < 2 ^ 47

/-- The child with the smallest tag; ties go to the lowest index (R327). -/
def pick (tag : Nat → Nat) : List Nat → Option Nat
  | [] => none
  | c :: l =>
    match pick tag l with
    | none => some c
    | some b => if tagBefore (tag b) (tag c) then some b else some c

/-- R329 for the children of one node: those that wake have both tags set to the node's virtual times. -/
def wakeNodes (d : Dev) (parent : Nat) (kids : List Nat) (wakes : Nat → Bool) : Dev :=
  let p := d.node parent
  kids.foldl (fun d k => if wakes k then d.setNode k fun n => { n with tagG := p.vtG, tagE := p.vtE } else d) d

/-- The candidate queues of an interface: with a packet, not held, and with a head that `ok` lets start; each with its
tiers. -/
def candidates (d : Dev) (i : Nat) (ok : Nat → Bool) : List (Nat × Bool × Bool) :=
  (d.queuesOf i).filterMap fun q =>
    let k := q % 8
    if (d.queue q).items.isEmpty || d.pfcHeld i k || !ok q then none
    else
      let g := d.candG i q
      let e := !g && d.candE i q
      if g || e then some (q, g, e) else none

/-- R329 at every level of an interface's tree, for its candidates: a node is awake while a queue beneath it is. -/
def wakeTree (d : Dev) (i : Nat) (cs : List (Nat × Bool × Bool)) : Dev :=
  let qs := cs.map (·.1)
  let groups := (d.queuesOf i).foldl (fun l q => addOnce l (groupOf i q)) []
  let on := (d.queuesOf i).filter fun q => (d.queue q).awake
  let wakes (p : Nat → Bool) : Bool := qs.any p && !on.any p
  let d := d.wakeNodes (ifKey i) (groups.map (groupKey i)) fun key => wakes fun q => groupKey i (groupOf i q) = key
  let d := groups.foldl (fun d g =>
    d.wakeNodes (groupKey i g) ((List.range 8).map (classKey i g)) fun key =>
      wakes fun q => classKey i (groupOf i q) (q % 8) = key) d
  (d.queuesOf i).foldl (fun d q =>
    let p := d.node (classKey i (groupOf i q) (q % 8))
    d.setQueue q fun x =>
      if qs.contains q then (if x.awake then x else { x with awake := true, tagG := p.vtG, tagE := p.vtE })
      else { x with awake := false }) d

/-- The queue that the tree's walk chooses among `qs`, all candidates of one tier (R327). -/
def chooseQueue (d : Dev) (i : Nat) (tierG : Bool) (qs : List Nat) : Option Nat := do
  let tagN := fun k => if tierG then (d.node k).tagG else (d.node k).tagE
  let groups := qs.foldl (fun l q => addOnce l (groupOf i q)) []
  let g ← pick (fun g => tagN (groupKey i g)) groups
  let qs := qs.filter fun q => groupOf i q = g
  let classes := qs.foldl (fun l q => addOnce l (q % 8)) []
  let strict := classes.filter fun k => (d.node (classKey i g k)).strict
  let k ← match strict with
    | [] => pick (fun k => tagN (classKey i g k)) classes
    | l => l.max?
  pick (fun q => if tierG then (d.queue q).tagG else (d.queue q).tagE) (qs.filter fun q => q % 8 = k)

/-- The advance of a start tag by a release of `l` bytes (R328). -/
def tagStep (tierG : Bool) (l w : Nat) : Nat := if tierG then l * 4096 else l * 4096 / max 1 w

/-- A node's virtual time set to the chosen child's tag, for one tier (R328). -/
def setVt (n : Node) (tierG : Bool) (t : Nat) : Node := if tierG then { n with vtG := t } else { n with vtE := t }

/-- A node's own tag raised (R328). -/
def raiseTag (n : Node) (tierG : Bool) (l : Nat) : Node :=
  if tierG then { n with tagG := (n.tagG + tagStep true l 1) % 2 ^ 48 }
  else { n with tagE := (n.tagE + tagStep false l n.weight) % 2 ^ 48 }

/-- A shaper debited by a release (R321, R328); an absent one keeps none. -/
def debit (d : Dev) (n : Node) (l : Nat) : Node :=
  if n.rate = 0 then n
  else
    let b := d.nodeBucket n
    { n with bucket := { b with credit := b.credit - l * creditUnit } }

/-- R328: the debits and tags of a release of `l` bytes from queue `q`. -/
def chargeRelease (d : Dev) (i q l : Nat) (tierG : Bool) : Dev :=
  let g := groupOf i q
  let ck := classKey i g (q % 8)
  let gk := groupKey i g
  let x := d.queue q
  let qTag := if tierG then x.tagG else x.tagE
  let nTag := fun k => if tierG then (d.node k).tagG else (d.node k).tagE
  let cTag := nTag ck
  let gTag := nTag gk
  let dep := d.departureBucket i x
  let d := d.setQueue q fun x =>
    let x := if x.par.cir = 0 then x else { x with dep := { dep with credit := dep.credit - l * creditUnit } }
    if tierG then { x with tagG := (x.tagG + tagStep true l 1) % 2 ^ 48, lastTier := 1 }
    else { x with tagE := (x.tagE + tagStep false l x.par.weight) % 2 ^ 48, lastTier := 2 }
  let d := d.setNode ck fun n => raiseTag (setVt n tierG qTag) tierG l
  let grp := d.debit (d.node gk) l
  let d := d.setNode gk fun _ => raiseTag (setVt grp tierG cTag) tierG l
  let top := d.debit (d.ifNode i) l
  d.setNode (ifKey i) fun _ => setVt { top with rate := 0, burst := 0 } tierG gTag

/-- Whether an IP packet's ECN field says ECT(0) or ECT(1) (R331). -/
def ect (x : Desc) (bytes : List Byte) : Bool :=
  let tos :=
    if x.l3Kind = 1 then field bytes (x.l3Off + 1) 1
    else if x.l3Kind = 2 then field bytes x.l3Off 2 / 16
    else 0
  tos % 4 = 1 || tos % 4 = 2

/-- R331: a copy released in tier E with its sojourn beyond TARGET is marked, or counted as delayed; `room` says whether a
mark stays within the limits of R101. -/
def markDelay (d : Dev) (i q soj : Nat) (room : Waiting → Bool) (w : Waiting) : Dev × Waiting :=
  let par := (d.queue q).par
  let base := schBase i + 0x40 + 0x28 * (q % 8)
  if par.target = 0 || soj ≤ par.target * 1000 then (d, w)
  else if par.ecnEn && ect w.desc (d.chainBytes w.desc.chain w.desc.gen) then
    if !room w then (d.bump 0x300128, w)
    else ((d.bump (base + 8)).event (schBase i + 0x18) 1, { w with desc := { w.desc with mark := true } })
  else (d.bump (base + 0x10), w)

/-- Heads that have reached AGE_MAX ended, queue by queue, until a head that may be sent (R333). -/
def ageHeads (d : Dev) (i : Nat) (qs : List Nat) : Dev :=
  qs.foldl (fun d q =>
    let old := (d.queue q).items.takeWhile fun w => d.aged w.desc
    if old.isEmpty then d else
    let d := d.setQueue q fun x => { x with items := x.items.drop old.length, awake := x.awake && old.length < x.items.length }
    old.foldl (fun d w => ((d.endWaiting w 0x7E).countIfEnd q 1).event (schBase i + 0x18) 4) d) d

/-- R327: the release that an interface scheduler makes at an opportunity: the head taken, with its queue and tier.
`ok` is the gate and fit test of a queue's head, `room` the limit of a mark. -/
def takeHead (d : Dev) (i : Nat) (ok : Nat → Bool) (room : Waiting → Bool) : Dev × Option (Nat × Waiting) :=
  let cs := d.candidates i ok
  let d := d.wakeTree i cs
  let gs := (cs.filter fun c => c.2.1).map (·.1)
  let tierG := !gs.isEmpty
  let pool := if tierG then gs else cs.map (·.1)
  match d.chooseQueue i tierG pool with
  | none => (d, none)
  | some q =>
    match (d.queue q).items with
    | [] => (d, none)
    | w :: rest =>
      let l := d.metered i w.desc.mlen
      let soj := d.now - w.enq
      let d := d.chargeRelease i q l tierG
      let d := d.setQueue q fun x =>
        { x with items := rest, lastSoj := min soj (2 ^ 32 - 1), maxSoj := max x.maxSoj (min soj (2 ^ 32 - 1)),
                 awake := x.awake && !rest.isEmpty, holdNo := false }
      let d := d.bump (schBase i + 0x40 + 0x28 * (q % 8) + (if tierG then 0x18 else 0x20))
      let (d, w) := if tierG then (d, w) else d.markDelay i q soj room w
      (d, some (q, w))

/-! ### The refusal notice (R335 to R337) -/

/-- Bytes of a bay's notice frame, its FCS included (R336). -/
def noticeLen (d : Dev) (b : Nat) : Nat := if d.fld (schBase b + 0x10) 11 0 = 0 then 130 else 134

/-- The notice frame of a bay, with its FCS; its tag, where VID is not 0, has PCP 7 (R336, R337). -/
def noticeFrame (d : Dev) (b : Nat) (n : Notice) : List Byte :=
  let da := beBytes 2 (d.fld 0x300014 15 0) ++ beBytes 4 (d.reg 0x300010)
  let sa := beBytes 2 (d.fld 0x30001C 15 0) ++ beBytes 4 (withBits (d.reg 0x300018) 7 0 b)
  let vid := d.fld (schBase b + 0x10) 11 0
  let tag := if vid = 0 then [] else beBytes 4 (0x8100E000 + vid)
  let flags := b2n d.sched.shed * 128 + (if d.time.st = .locked then 64 else 0)
  let head := beBytes 2 0x88B5 ++ [0x01, 0x01] ++ beBytes 2 n.seq ++ beBytes 1 b ++ beBytes 1 flags
    ++ beBytes 2 (d.fld (schBase b + 0x10) 25 16) ++ beBytes 4 (d.wallSec % 2 ^ 32) ++ beBytes 4 d.wallNs
  let record (k : Nat) : List Byte :=
    beBytes 2 (k * 256) ++ (List.range 5).flatMap fun c => beBytes 2 (min 65535 (Map.getD n.counts (k * 5 + c) 0))
  let body := da ++ sa ++ tag ++ head ++ (List.range 8).flatMap record
  body ++ fcs body

/-- R335: a notice that is due sent, or suppressed. -/
def refusalNotice (d : Dev) (b : Nat) (gate : Nat → Bool) : Dev :=
  let n := Map.getD d.sched.notices b {}
  let gap := d.fld (schBase b + 0x10) 25 16 * 1000
  let due := match n.lastAt with
    | none => true
    | some t => t + gap ≤ d.now
  let k := d.fld (schBase b) 11 9
  if b ≥ 48 || !d.flag (schBase b) 8 || n.counts.isEmpty || !due || d.pfcHeld b k || !gate k then d
  else if !d.takes b || usedOf (d.half (halfOf b)) 3 ≥ d.resv (halfOf b) 3 then d.bump (schBase b + 0x1C0)
  else
    let d := { d with out := d.out ++ [Emission.frame b (d.noticeFrame b n) false] }
    let n' : Notice := { counts := [], lastAt := some d.now, seq := (n.seq + 1) % 65536 }
    let d : Dev := { d with sched := { d.sched with notices := Map.putD d.sched.notices b {} n' } }
    let d := (d.bump (portBase b + 0x210)).bump (portBase b + 0x218) (d.noticeLen b)
    (d.bump (schBase b + 0x1B8)).event (schBase b + 0x18) 2

/-! ### Scheduler records (R339, R340) -/

/-- The largest speed of an interface in Mb/s (R325). -/
def topSpeed (d : Dev) (i : Nat) : Nat :=
  if i < 48 then 400000 else if d.breakout (netOf i) then 400000 else 800000

/-- Sum of CIR over the queues of an interface that satisfy `p`. -/
def cirSum (d : Dev) (i : Nat) (p : Nat → Bool) : Nat :=
  (d.queuesOf i).foldl (fun n q => if p q then n + (d.queue q).par.cir else n) 0

/-- R325: whether the CIR sums of interface `i` stay within its speed, its shaper and its groups' shapers. -/
def cirOk (d : Dev) (i : Nat) : Bool :=
  let all := d.cirSum i fun _ => true
  let rate := d.fld (schBase i + 8) 19 0
  all ≤ d.topSpeed i && (rate = 0 || all ≤ rate) &&
    (List.range 24).all fun g =>
      let r := (d.node (groupKey i g)).rate
      r = 0 || d.cirSum i (fun q => groupOf i q = g) ≤ r

/-- Groups of an interface (R314). -/
def groupsOf (d : Dev) (i : Nat) : Nat := if i < 48 then 10 else if d.breakout (netOf i) then 12 else 24

/-- Bits of the words of a scheduler WRITE record that its object uses, word by word (R339). -/
def schedMask (obj : Nat) : List Nat :=
  let w0 := 0xFC03FFFF
  match obj with
  | 0 => [w0, 0xC00FFFFF, 0x00FFFFFF, 0x000FFFFF, 0x00FFFFFF, 0xFFFF0FFF, 0x001FFFFF, 0]
  | 1 => [w0, 0x80000FFF, 0, 0, 0, 0, 0, 0]
  | 2 => [w0, 0x80000FFF, 0x000FFFFF, 0x00FFFFFF, 0, 0, 0, 0]
  | _ => [w0, 0x800FFFFF, 0x00FFFFFF, 0x000FFFFF, 0x00FFFFFF, 0, 0, 0]

/-- Whether the object a record names exists (R340). -/
def schedIndexOk (d : Dev) (obj ix : Nat) : Bool :=
  match obj with
  | 0 => ix < 65536
  | 1 => isIface (ix / 256) && ix % 256 / 8 < d.groupsOf (ix / 256)
  | 2 => isIface (ix / 32) && ix % 32 < d.groupsOf (ix / 32)
  | _ => ix < 262144

/-- Status codes of records: OK, BAD_PARAM, CIR_OVER. -/
def cirOver : Nat := 0x0501

/-- A WRITE of one object, whose words are sound; the CIR limits are judged on the result. -/
def schedApply (d : Dev) (obj ix : Nat) (w : List Nat) : Dev :=
  let t := d.creditNow
  let w1 := w.getD 1 0
  let mode := bits w1 31 31
  match obj with
  | 0 =>
    let par : QParam :=
      { cir := bits w1 19 0, pir := bits (w.getD 3 0) 19 0, cbs := bits (w.getD 2 0) 23 0, pbs := bits (w.getD 4 0) 23 0,
        weight := max 1 (bits (w.getD 5 0) 11 0), target := bits (w.getD 5 0) 31 16, ecnEn := w1.testBit 30,
        qlim := bits (w.getD 6 0) 20 0, resetMode := mode }
    d.setQueue ix fun x =>
      let c := x.par.cir ≠ par.cir || x.par.cbs ≠ par.cbs
      let p := x.par.pir ≠ par.pir || x.par.pbs ≠ par.pbs
      let cm := resetBucket mode par.cbs t
      { x with par := par, dep := if c then cm else x.dep, com := if c then cm else x.com,
               peak := if p then resetBucket mode par.pbs t else x.peak }
  | 1 => d.setNode (classKey (ix / 256) (ix % 256 / 8) (ix % 8)) fun n =>
      { n with strict := w1.testBit 31, weight := max 1 (bits w1 11 0) }
  | 2 => d.setNode (groupKey (ix / 32) (ix % 32)) fun n =>
      let rate := bits (w.getD 2 0) 19 0
      let burst := bits (w.getD 3 0) 23 0
      let n' := { n with weight := max 1 (bits w1 11 0), rate := rate, burst := burst, mode := mode }
      if n.rate ≠ rate || n.burst ≠ burst then { n' with bucket := resetBucket mode burst t } else n'
  | _ => d.setPolicer ix fun p =>
      let cir := bits w1 19 0
      let pir := bits (w.getD 3 0) 19 0
      let cbs := bits (w.getD 2 0) 23 0
      let pbs := bits (w.getD 4 0) 23 0
      let p' := { p with cir := cir, pir := pir, cbs := cbs, pbs := pbs, mode := mode }
      { p' with peak := if p.pir ≠ pir || p.pbs ≠ pbs then resetBucket mode pbs t else p.peak,
                com := if p.cir ≠ cir || p.cbs ≠ cbs then resetBucket mode cbs t else p.com }

/-- The interface whose CIR sums a WRITE touches. -/
def schedIf (d : Dev) (obj ix : Nat) : Option Nat :=
  match obj with
  | 0 => if ix < 55296 then some (d.ifOfQueue ix) else none
  | 2 => some (ix / 32)
  | _ => none

/-- SCHED WRITE: status and the block after it. -/
def schedWrite (d : Dev) (w : List Nat) : Dev × Nat :=
  let w0 := w.getD 0 0
  let obj := bits w0 27 26
  let ix := bits w0 17 0
  let reserved := (List.range 8).any fun k => w.getD k 0 - (w.getD k 0 &&& (schedMask obj).getD k 0) ≠ 0
  let cir := bits (w.getD 1 0) 19 0
  let pir := bits (w.getD 3 0) 19 0
  if reserved || !d.schedIndexOk obj ix || ((obj = 0 || obj = 3) && pir ≠ 0 && cir > pir)
      || (obj = 0 && bits (w.getD 6 0) 20 0 > 655360) then (d, 1)
  else
    let d' := d.schedApply obj ix w
    match d.schedIf obj ix with
    | some i => if d'.cirOk i then (d', 0) else (d, cirOver)
    | none => (d', 0)

/-- Signed whole bytes of a credit, in 32 bits (R339). -/
def creditBytes (b : Bucket) : Nat := ofSigned 32 (b.credit / creditUnit)

/-- SCHED READ: the words returned (R332, R339). A READ clears MAX_SOJ. -/
def schedRead (d : Dev) (gate : Nat → Nat → Bool) (w0 : Nat) : Dev × Nat × List Nat :=
  let obj := bits w0 27 26
  let ix := bits w0 17 0
  if !d.schedIndexOk obj ix then (d, 1, [])
  else match obj with
  | 0 =>
    let x := d.queue ix
    let p := x.par
    let i := d.ifOfQueue ix
    let t := d.creditNow
    let s := if ix < 55296 then d.scale i else 100
    let held := ix < 55296 && (d.pfcHeld i (ix % 8) || !gate i (ix % 8))
    let cand := ix < 55296 && !held && !x.items.isEmpty && (d.candG i ix || d.candE i ix)
    let ws := [w0, p.resetMode <<< 31 + b2n p.ecnEn <<< 30 + p.cir, p.cbs, p.pir, p.pbs, p.target <<< 16 + p.weight, p.qlim, 0,
      depthB x, x.items.length, x.lastSoj, x.maxSoj,
      creditBytes (accrue x.dep (p.cir * s) p.cbs t), creditBytes (accrue x.peak (p.pir * 100) p.pbs t),
      creditBytes (accrue x.com (p.cir * s) p.cbs t),
      b2n held * 8 + b2n cand * 4 + x.lastTier]
    (d.setQueue ix fun x => { x with maxSoj := 0 }, 0, ws)
  | 1 =>
    let n := d.node (classKey (ix / 256) (ix % 256 / 8) (ix % 8))
    (d, 0, [w0, b2n n.strict <<< 31 + n.weight] ++ List.replicate 14 0)
  | 2 =>
    let n := d.node (groupKey (ix / 32) (ix % 32))
    (d, 0, [w0, n.mode <<< 31 + n.weight, n.rate, n.burst] ++ List.replicate 12 0)
  | _ =>
    let p := d.policer ix
    let pair (n : Nat) : List Nat := [n % 2 ^ 64 / 2 ^ 32, n % 2 ^ 32]
    (d, 0, [w0, p.mode <<< 31 + p.cir, p.cbs, p.pir, p.pbs, 0, 0, 0] ++ pair p.green ++ pair p.yellow ++ pair p.red ++ [0, 0])

/-- SCHED FLUSH: queues only (R334, R339). -/
def schedFlush (d : Dev) (w0 : Nat) : Dev × Nat :=
  if bits w0 27 26 ≠ 0 || !d.schedIndexOk 0 (bits w0 17 0) then (d, 1) else (d.flushQueue (bits w0 17 0), 0)

end Dev

end Sys2Proof.Machine
end

