-- ==== Sys2Proof/Machine/Waits.lean ====
section
/-! DEFINITION. Passes that wait (R293, R294): their chains, their end, the recirculation queue (R250), and the
fragment table and hold of chapter 5. -/

namespace Sys2Proof.Machine

namespace Dev

/-- A chain passed to another owner class in its half and filled with `bytes`, judged as an allocation of its bricks once it
has left its class (R294). The bricks follow the length that the bytes now have. -/
def transfer (d : Dev) (a g cls : Nat) (k : AllocKind) (bytes : List Byte) : Dev × Option Nat :=
  let h := halfAddr a
  let n := max 1 (bricksFor bytes.length)
  match d.chain? a g with
  | none => (d, some 0x65)
  | some c =>
    match (d.setHalf h fun x => { x with chains := Map.erase x.chains (ixAddr a) }).allocReason h cls n k with
    | some r => (d.countRefusal h r, some r)
    | none =>
      let (x, more) := takeBricks (d.half h) (n - c.bricks.length)
      let d := d.setHalf h fun _ => x
      let d := (c.bricks.drop n).foldl (fun d b => d.returnBrick h b) d
      let d := d.setChain a fun c => { c with cls := cls, bytes := bytes, bricks := c.bricks.take n ++ more }
      (d.judge h, none)

/-- The chain that a pass holds while it waits under class `cls`, in its course's half; the reason that refuses it. -/
def waitChain (d : Dev) (c : Nat) (p : Pass) (cls : Nat) (bytes : List Byte) : Dev × Except Nat Pass :=
  if p.chained && halfAddr p.desc.chain = dieOfCourse c then
    match d.transfer p.desc.chain p.desc.gen cls .xfer bytes with
    | (d, none) => (d, .ok p)
    | (d, some r) => (d, .error r)
  else if p.chained then
    match d.alloc (dieOfCourse c) cls .xfer 0 p.desc.admIf bytes with
    | (d, .error r) => (d, .error r)
    | (d, .ok (a, g)) => (d.release p.desc.chain p.desc.gen, .ok { p with desc := { p.desc with chain := a, gen := g } })
  else
    match d.alloc (dieOfCourse c) cls .new 0 p.desc.admIf bytes with
    | (d, .error r) => (d, .error r)
    | (d, .ok (a, g)) => (d, .ok { p with desc := { p.desc with chain := a, gen := g }, chained := true })

/-- The bytes of a waiting pass. -/
def passBytes (d : Dev) (p : Pass) : List Byte := d.chainBytes p.desc.chain p.desc.gen

/-- A pass ended: its waiting chain is released, and its packet is counted. -/
def endPass (d : Dev) (p : Pass) (e : Ending) : Dev :=
  (if p.chained then d.release p.desc.chain p.desc.gen else d).endCopy p.desc e

/-- A pass dropped under a reason. -/
def dropPass (d : Dev) (p : Pass) (r : Nat) : Dev := d.endPass p (.dropped r)

/-! ### Recirculation (R249, R250) -/

/-- Why a pass may not enter the recirculation queue of its physical course. -/
def recircReason (d : Dev) (c : Nat) (x : Desc) : Option Nat :=
  if x.pass ≥ bits (d.epochReg x.tag (crsBase ((d.nameOf c).getD c) + 0x200)) 2 0 then some 0x5C
  else if (d.course c).recirc.length ≥ 1024 then some 0x5D
  else none

/-- The counter and event of that refusal. -/
def recircRefused (d : Dev) (c r : Nat) : Dev :=
  let d := d.bump (crsBase c + 0x248)
  if r = 0x5D then d.event (crsBase c + 0x208) 1 else d

/-- A pass enters the recirculation queue of its physical course, at a node or as a released fragment. -/
def enterRecirc (d : Dev) (c : Nat) (p : Pass) (bytes : List Byte) (node : Nat) (released : Bool) : Dev :=
  let base := crsBase c
  match d.recircReason c p.desc with
  | some r => (d.recircRefused c r).dropPass p r
  | none =>
    match d.waitChain c p 7 bytes with
    | (d, .error r) => d.dropPass p r
    | (d, .ok p) =>
      let x := { p.desc with pass := p.desc.pass + 1, kind := 1 }
      (d.setCourse c fun s => { s with recirc := s.recirc ++ [⟨x, node, released⟩] }).bump (base + 0x228)

/-! ### The fragment table (R131 to R137) -/

/-- A field of PRS_FRAG_CTRL of the course that a physical course serves. -/
def fragCtl (d : Dev) (c hi lo : Nat) : Nat := d.fld (crsBase ((d.nameOf c).getD c) + 0x804) hi lo

/-- Whether an entry is valid: PENDING, or not yet expired (R136). -/
def fragValid (d : Dev) (e : FragEntry) : Bool := e.state = 1 || d.now < e.created + e.life

/-- The bucket of a key. -/
def fragBucket (k : FragKey) : Nat :=
  Config.fragHash [k.port, k.level, k.ver, k.src, k.dst, k.proto, k.ident] % 512

/-- The valid entry of a key. -/
def fragFind (d : Dev) (c : Nat) (k : FragKey) : Option FragEntry :=
  (d.course c).frags.find? fun e => e.key = k && d.fragValid e

/-- R133: an entry for a first fragment, in state 1 PENDING or 3 DROP. -/
def fragCreate (d : Dev) (c : Nat) (g : Graph) (p : Parse) (k : FragKey) (state : Nat) : Dev :=
  let w3 := word g.hdr 3
  let e : FragEntry :=
    { key := k, state := state, inherited := slice p.fv (bits w3 31 25) (bits w3 24 21), tlen := p.parseEnd - p.fragPay,
      created := d.now, life := max 1 (d.fragCtl c 9 0) * 100000 }
  let base := crsBase c
  let live := (d.course c).frags.filter d.fragValid
  if live.any fun o => o.key = k then
    (d.setCourse c fun s => { s with frags := live.filter (fun o => o.key ≠ k) ++ [e] }).bump (base + 0x858)
  else
    let cap := d.fragCtl c 30 20
    if (live.filter fun o => fragBucket o.key = fragBucket k).length ≥ 4
        || (cap ≠ 0 && (live.filter fun o => o.key.port = k.port).length ≥ cap) then
      (d.bump (base + 0x850)).event (base + 0x80C) 2
    else (d.setCourse c fun s => { s with frags := live ++ [e] }).bump (base + 0x848)

/-- Fragments held against a key, in order of admission sequence number (R135). -/
def heldFor (l : List Held) (k : FragKey) : List Held :=
  (l.filter fun h => h.key = k).foldr
    (fun h r => (r.takeWhile fun o => o.pass.desc.aseq < h.pass.desc.aseq) ++ h
      :: (r.dropWhile fun o => o.pass.desc.aseq < h.pass.desc.aseq)) []

/-- R133, R135: a verdict written to a PENDING entry releases the fragments held against its key. -/
def fragVerdict (d : Dev) (c : Nat) (k : FragKey) (dropped : Bool) : Dev :=
  let s := d.course c
  if !s.frags.any (fun e => e.key = k && e.state = 1) then d else
  let out := heldFor s.hold k
  let d := d.setCourse c fun s =>
    { s with frags := s.frags.map (fun e => if e.key = k && e.state = 1 then { e with state := if dropped then 3 else 2 } else e),
             hold := s.hold.filter fun h => h.key ≠ k }
  out.foldl (fun d h =>
    let d := d.bump (crsBase c + 0x868)
    if dropped then d.dropPass h.pass 0x13 else d.enterRecirc c h.pass (d.passBytes h.pass) 0 true) d

/-- R135: a later fragment enters the hold. -/
def holdFrag (d : Dev) (c : Nat) (p : Pass) (k : FragKey) (bytes : List Byte) : Dev :=
  let us := d.fragCtl c 19 10
  if us = 0 then d.dropPass p 0x14
  else if (d.course c).hold.length ≥ 256 then (d.event (crsBase c + 0x80C) 3).dropPass p 0x17
  else
    match d.waitChain c p 4 bytes with
    | (d, .error r) => d.dropPass p r
    | (d, .ok p) =>
      (d.setCourse c fun s => { s with hold := s.hold ++ [⟨p, k, d.now, us * 1000⟩] }).bump (crsBase c + 0x860)

/-- What a later fragment's lookup comes to (R134). -/
inductive LaterOut where
  | go (inherited : Option (List Byte))
  | drop (reason : Nat)
  | hold
deriving DecidableEq, Repr

/-- R132, R134: a later fragment of a first pass or from the hold looks up its key; others inherit nothing. -/
def fragLookup (d : Dev) (c : Nat) (used : Bool) (p : Parse) (k : FragKey) : LaterOut :=
  if !used || d.fragCtl c 31 31 = 0 then .go none
  else match d.fragFind c k with
  | none => .hold
  | some e =>
    if e.state = 1 then .hold
    else if e.state = 3 then .drop 0x13
    else if p.fragOff < e.tlen then .drop 0x16
    else .go (some e.inherited)

/-- R135: a held fragment whose FRAG_HOLD is over. -/
def fragHoldExpiry (d : Dev) (c i : Nat) : Dev :=
  match (d.course c).hold[i]? with
  | none => d
  | some h =>
    if d.now < h.since + h.hold then d
    else (d.setCourse c fun s => { s with hold := s.hold.eraseIdx i }).dropPass h.pass 0x14

/-- R136: a PASS or DROP entry expires. -/
def fragEntryExpiry (d : Dev) (c i : Nat) : Dev :=
  match (d.course c).frags[i]? with
  | none => d
  | some e => if d.fragValid e then d else d.setCourse c fun s => { s with frags := s.frags.eraseIdx i }

/-- R139, R140: a hold record read with a parity error; the held fragment is discarded. -/
def holdParity (d : Dev) (c i : Nat) : Dev :=
  match (d.course c).hold[i]? with
  | none => d
  | some h => ((d.setCourse c fun s => { s with hold := s.hold.eraseIdx i }).raise (srcCourse c) 0x2004).dropPass h.pass 0x1B

end Dev

/-- FRAG_HOLD_EXPIRY (R135, R139): physical course and place in the hold; `parity` says that its record read in error. -/
def execFragHoldExpiry (course : Fin 18) (i : Nat) (parity : Bool) (s : State) : Result :=
  s.act fun d => if parity then d.holdParity course i else d.fragHoldExpiry course i

/-- FRAG_ENTRY_EXPIRY (R136): physical course and entry. -/
def execFragEntryExpiry (course : Fin 18) (i : Nat) (s : State) : Result := s.act (·.fragEntryExpiry course i)

end Sys2Proof.Machine
end

