-- ==== Sys2Proof/Machine/Banks.lean ====
section
/-! DEFINITION. Chapter 6, first part: the bank switch, searches and their groups, bank records, placement and sweep of
BANK tiles, the scanner, and the replacement of a bank. -/

namespace Sys2Proof.Machine

/-- Why a bank record or a placement is refused (R155 to R157). -/
inductive BankError where
  | busy | badParam
deriving DecidableEq, Repr

namespace Dev

/-- Block of a physical bank (R177). -/
def bankBase (b : Nat) : Nat := 0x500000 + b * 0x400

/-- A physical bank. -/
def bank (d : Dev) (b : Nat) : Bank := Map.getD d.banks b {}

/-- That bank changed. -/
def setBank (d : Dev) (b : Nat) (f : Bank → Bank) : Dev := { d with banks := Map.upd d.banks b {} f }

/-- The physical bank behind a logical bank (R141). -/
def physBank (d : Dev) (lb : Nat) : Nat := Map.getD d.asmMap lb (if lb < 32 then lb else lb + 2)

/-- The logical bank that a physical bank stands behind. -/
def logBank (d : Dev) (b : Nat) : Option Nat := (List.range 64).find? fun l => d.physBank l = b

/-- STATE of a bank: 0 IN_SERVICE, 1 SPARE, 2 COPYING, 3 WORN, 4 ISOLATED (R177). -/
def bankState (d : Dev) (b : Nat) : Nat :=
  (d.bank b).st.getD (if b = 32 || b = 33 || b = 66 || b = 67 then 1 else 0)

/-- Units of an entry in a bank (R142). -/
def bankWidth (d : Dev) (b : Nat) : Nat := 2 ^ min 2 (d.fld (bankBase b) 1 0)

/-- Units held by entries. -/
def bankUsed (d : Dev) (b : Nat) : Nat := (d.bank b).entries.foldl (fun n e => n + e.2.width) 0

/-- R148: whether an entry matches a key for a tag. -/
def entryHas (tag : Nat) (key : List Byte) (e : BankEntry) : Bool :=
  ((e.sticky && !e.pend) || e.epochs.testBit tag)
    && (List.range (20 * e.width)).all fun i =>
      ((key.getD i 0) ^^^ (e.key.getD i 0)) &&& (e.mask.getD i 0) == 0

/-- A match of a search: address, logical bank and unit, and the entry. -/
structure BankMatch where
  lb    : Nat
  unit  : Nat
  entry : BankEntry
  bad   : Bool
  inj   : Bool
deriving DecidableEq, Repr

/-- Address of a match (R149). -/
def BankMatch.addr (m : BankMatch) : Nat := m.lb * 2048 + m.unit

/-- R149: the stronger of two matches. -/
def stronger (a b : BankMatch) : Bool :=
  a.entry.prio < b.entry.prio || (a.entry.prio = b.entry.prio && a.addr < b.addr)

/-- The search of one logical bank; `bad` lists the addresses whose control words read in error. -/
def searchBank (d : Dev) (lb tag : Nat) (key : List Byte) (bad : List Nat) : Dev × List BankMatch :=
  let b := d.physBank lb
  if d.faults.isolated.contains (srcBank b) then (d, []) else
  let hits := (d.bank b).entries.filter fun e => entryHas tag key e.2
  let d := d.bump (bankBase b + 0x10)
  let inj := d.flag (bankBase b + 0x0C) 1 && !hits.isEmpty
  let d := if inj then d.clrBit (bankBase b + 0x0C) 1 else d
  (d, hits.zipIdx.map fun (e, k) =>
    { lb := lb, unit := e.1, entry := e.2, bad := bad.contains (lb * 2048 + e.1), inj := inj && k = 0 })

/-- R150: the outcome of one result group, with what it does to the winner (R151). -/
def groupOutcome (d : Dev) (ms : List BankMatch) : Dev × GroupOut :=
  match ms.find? fun m => m.bad || m.inj with
  | some m => (d.raiseAs (srcBank (d.physBank m.lb)) 0x3004 [m.lb * 2 ^ 16 + m.unit] (m.inj && !m.bad) true, .error)
  | none =>
    match ms.foldl (fun (w : Option BankMatch) m => if w.all fun o => stronger m o then some m else w) none with
    | none => (d, .miss)
    | some m =>
      let b := d.physBank m.lb
      let d := d.setBank b fun x => { x with entries := Map.adjust x.entries m.unit fun e => { e with hits := satAdd 40 e.hits 1 } }
      (d.bump (bankBase b + 0x18), .hit m.addr m.entry.prio m.entry.result m.entry.auto)

/-- R143 to R150: the search of a course's bank group for a pass. -/
def searchGroup (d : Dev) (name tag endNode : Nat) (fv md : List Byte) (bad : List Nat) : Dev × List GroupOut :=
  let img := Map.getD (d.slot tag).banks name {}
  let prof := img.profiles.getD (Map.getD img.profMap endNode 0) []
  let (d, ms) := (List.range 4).foldl (fun (a : Dev × List (Nat × BankMatch)) k =>
    let y := prof.getD k 0
    if !y.testBit 7 then a else
    let key := buildKey 80 (img.templates.getD (bits y 4 1) []) fv md
    let (d, hits) := a.1.searchBank (4 * name + k) tag key bad
    (d, a.2 ++ hits.map fun m => (bits y 6 5, m))) (d, [])
  (List.range 4).foldl (fun (a : Dev × List GroupOut) g =>
    let (d, o) := a.1.groupOutcome ((ms.filter fun m => m.1 = g).map (·.2))
    (d, a.2 ++ [o])) (d, [])

/-! ### Records (R152 to R156) -/

/-- The entry whose units hold a unit of a bank. -/
def holderOf (d : Dev) (b u : Nat) : Option (Nat × BankEntry) :=
  (d.bank b).entries.find? fun e => e.1 ≤ u && u < e.1 + e.2.width

/-- The words of a record as key bytes. -/
def cellBytes (w : List Nat) (first n : Nat) : List Byte :=
  ((List.range 20).flatMap fun i => beBytes 4 (word w (first + i))).take n

/-- R153, R156: why a bank record is refused; `placing` says that its bank takes part in a placement. -/
def bankCheck (d : Dev) (placing : Bool) (w : List Nat) : Option BankError :=
  let w0 := word w 0
  let op := bits w0 31 28
  let b := d.physBank (bits w0 19 14)
  let width := d.bankWidth b
  let u := bits w0 10 0
  let reserved := w0 &&& 0x07F03800 ≠ 0 || word w 1 &&& 0x0FFF0000 ≠ 0 || word w 3 / 65536 ≠ 0
    || (List.range 4).any fun i => word w (44 + i) ≠ 0
  let unused := (List.range 20).any fun i => i ≥ 5 * width && (word w (4 + i) ≠ 0 || word w (24 + i) ≠ 0)
  let sticky := (word w 1).testBit 30
  let clash :=
    op = 1 && (List.range width).any fun k =>
      match d.holderOf b (u + k) with
      | none => false
      | some (_, e) => e.tile && (e.sticky || sticky)
  if placing then some .busy
  else if op = 0 || op > 3 || reserved || unused || u % width ≠ 0 || clash then some .badParam
  else none

/-- R151, R154: a WRITE of one entry. -/
def bankWrite (d : Dev) (w : List Nat) : Dev :=
  let w0 := word w 0
  let w1 := word w 1
  let b := d.physBank (bits w0 19 14)
  let width := d.bankWidth b
  let u := bits w0 10 0
  let e : BankEntry :=
    { width := width, key := cellBytes w 4 (20 * width), mask := cellBytes w 24 (20 * width), sticky := w1.testBit 30,
      epochs := bits w1 29 28, prio := bits w1 15 0, result := word w 2 % 2 ^ 32, auto := bits (word w 3) 15 0 }
  d.setBank b fun x =>
    { x with entries := if w1.testBit 31 then Map.put x.entries u e else Map.erase x.entries u }

/-- R154: an INVALIDATE. -/
def bankInvalidate (d : Dev) (w : List Nat) : Dev :=
  let b := d.physBank (bits (word w 0) 19 14)
  d.setBank b fun x => { x with entries := Map.erase x.entries (bits (word w 0) 10 0) }

/-- R153: what a READ returns. -/
def bankRead (d : Dev) (w : List Nat) : List Nat :=
  let w0 := word w 0
  let b := d.physBank (bits w0 19 14)
  let cells (l : List Byte) : List Nat := (List.range 20).map fun i => field l (4 * i) 4
  match Map.get? (d.bank b).entries (bits w0 10 0) with
  | none => [w0] ++ List.replicate 47 0
  | some e =>
    [w0, 2 ^ 31 + b2n e.sticky <<< 30 + e.epochs <<< 28 + e.prio, e.result, e.auto] ++ cells e.key ++ cells e.mask
      ++ [e.hits % 2 ^ 32, e.hits / 2 ^ 32, 0, 0]

/-- A record that has passed its checks applied; a READ's words. -/
def bankApply (d : Dev) (w : List Nat) : Dev × List Nat :=
  match bits (word w 0) 31 28 with
  | 1 => (d.bankWrite w, w)
  | 2 => (d.bankInvalidate w, w)
  | _ => (d, d.bankRead w)

/-- R155: a pair of records; both commit or neither. -/
def bankPair (d : Dev) (placing : Bool) (a b : List Nat) : Dev × Option BankError × List Nat × List Nat :=
  let die (w : List Nat) : Nat := bits (word w 0) 19 14 / 32
  match d.bankCheck placing a, d.bankCheck placing b with
  | none, none =>
    if (word b 0).testBit 27 || die a ≠ die b then (d, some .badParam, a, b)
    else
      let (d, ra) := d.bankApply a
      let (d, rb) := d.bankApply b
      (d, none, ra, rb)
  | some .badParam, _ => (d, some .badParam, a, b)
  | some .busy, _ => (d, some .busy, a, b)
  | none, some e => (d, some e, a, b)

/-! ### Banks across epochs (R157, R158) -/

/-- Whether an entry of a tile is already in its bank, placed by a BANK tile (R157). -/
def keeps (e : TileEntry) (x : BankEntry) : Bool :=
  x.tile && x.width = e.width && x.key == e.key && x.mask == e.mask && x.sticky == e.sticky && x.prio = e.prio
    && x.result = e.result && x.auto = e.auto

/-- Whether a tile's entries may be placed (R157). -/
def bankFits (d : Dev) (img : BankImage) : Bool :=
  (img.widths.all fun e => d.bankUsed (d.physBank e.1) = 0 || d.bankWidth (d.physBank e.1) = e.2) && img.entries.all fun e =>
    let b := d.physBank e.lb
    match Map.get? (d.bank b).entries e.unit with
    | some x => keeps e x
    | none => (d.bankUsed b = 0 || d.bankWidth b = e.width)
        && (List.range e.width).all fun k => (d.holderOf b (e.unit + k)).isNone

/-- A tile's entries placed into a slot: bits set on those kept, new ones written. -/
def bankPlace (d : Dev) (tag : Nat) (img : BankImage) : Dev :=
  let d := img.widths.foldl (fun d e =>
    let b := d.physBank e.1
    if d.bankUsed b = 0 then d.setFld (bankBase b) 1 0 (e.2 / 2) else d) d
  img.entries.foldl (fun d e =>
    let b := d.physBank e.lb
    match Map.get? (d.bank b).entries e.unit with
    | some _ =>
      d.setBank b fun x => { x with entries := Map.adjust x.entries e.unit fun y => { y with epochs := y.epochs ||| 2 ^ tag } }
    | none =>
      let d := if d.bankUsed b = 0 then d.setFld (bankBase b) 1 0 (e.width / 2) else d
      let y : BankEntry :=
        { width := e.width, key := e.key, mask := e.mask, sticky := e.sticky, pend := e.sticky, epochs := 2 ^ tag,
          prio := e.prio, result := e.result, auto := e.auto, tile := true }
      d.setBank b fun x => { x with entries := Map.put x.entries e.unit y }) d

/-- R258: the slot's bit set on the entries that the base epoch's tile of a course placed. -/
def bankCarry (d : Dev) (tag base name : Nat) : Dev :=
  (List.range 4).foldl (fun d k =>
    d.setBank (d.physBank (4 * name + k)) fun x =>
      { x with entries := x.entries.map fun e =>
          (e.1, if e.2.tile && e.2.epochs.testBit base then { e.2 with epochs := e.2.epochs ||| 2 ^ tag } else e.2) }) d

/-- R158: a slot's bit cleared in every entry that is not STICKY; entries left without one become free. -/
def bankSweep (d : Dev) (tag : Nat) : Dev :=
  { d with banks := d.banks.map fun b =>
      (b.1, { b.2 with entries := b.2.entries.filterMap fun e =>
        let bare := !e.2.sticky || e.2.pend
        let m := e.2.epochs - (e.2.epochs &&& 2 ^ tag)
        if !bare then some e else if m = 0 then none else some (e.1, { e.2 with epochs := m }) }) }

/-- R157: at COMMIT_AT, pending STICKY takes effect. -/
def bankCommit (d : Dev) : Dev :=
  { d with banks := d.banks.map fun b => (b.1, { b.2 with entries := b.2.entries.map fun e => (e.1, { e.2 with pend := false }) }) }

/-! ### Cell checking (R159) -/

/-- R159: the scanner at a unit: whether the cells' parity is good, the shadow readable, and both equal. -/
def bankScan (d : Dev) (b u : Nat) (parityOk shadowOk equal : Bool) (lap : Option Nat) : Dev :=
  let base := bankBase b
  if !d.flag base 2 then d else
  let inj := d.flag (base + 0x0C) 0
  let lb := (d.logBank b).getD 0
  let det := [lb * 2 ^ 16 + u]
  let d := if inj then d.clrBit (base + 0x0C) 0 else d
  let d :=
    if inj && shadowOk && equal then (d.raiseInj (srcBank b) 0x3001 det true).bump (base + 0x20)
    else if shadowOk && !equal then (d.raiseWear (srcBank b) 0x3001 det).bump (base + 0x20)
    else if shadowOk then d
    else if parityOk && !inj then (d.raiseWear (srcBank b) 0x3002 det).bump (base + 0x20)
    else
      let d := match d.holderOf b u with
        | some (f, _) => d.setBank b fun x => { x with entries := Map.erase x.entries f }
        | none => d
      (d.raiseWear (srcBank b) 0x3003 det).bump (base + 0x20)
  match lap with
  | none => d
  | some us => (if d.lapLong us then d.raise (srcBank b) 0xC011 else d).setReg (base + 8) (min us (2 ^ 32 - 1))

/-! ### Replacement (R161, R162) -/

/-- The lowest-numbered spare bank of a die in state SPARE or COPYING. -/
def spareBank (d : Dev) (west : Bool) : Option Nat :=
  (if west then [32, 33] else [66, 67]).find? fun b => d.bankState b = 1 || d.bankState b = 2

/-- R161 steps 2 to 5: the spare loaded and verified, and the map switched between two searches; a spare that fails its
verification becomes WORN. -/
def bankReplace (d : Dev) (b : Nat) (verified : Bool) : Dev :=
  match d.logBank b, (d.spareBank (b < 34)).filter fun s => d.bankState s = 2 with
  | some lb, some s =>
    if d.bankState b ≠ 3 then d
    else if verified then
      let x := d.bank b
      let d := d.setBank s fun _ => { x with st := some 0 }
      let d := d.setFld (bankBase s) 1 0 (d.fld (bankBase b) 1 0)
      let d := d.setBank b fun _ => { entries := [], st := some 4 }
      { d with asmMap := Map.put d.asmMap lb s }
    else
      let d := (d.setBank s fun x => { x with st := some 3 }).raise (srcBank s) 0x3010
      match d.spareBank (b < 34) with
      | some n => d.setBank n fun x => { x with st := some 2 }
      | none => d.raise (srcBank b) 0x3011
  | some _, none => d
  | none, _ => d

end Dev

/-- BANK_SCANNER_VISIT (R159): physical bank, unit, what the scanner finds there, and the lap's time in µs at its end. -/
def execBankScannerVisit (bank : Fin 68) (unit : Fin 2048) (parityOk shadowOk equal : Bool) (lap : Option Nat) (s : State) : Result :=
  s.act (·.bankScan bank unit parityOk shadowOk equal lap)

end Sys2Proof.Machine
end

