-- ==== Sys2Proof/Machine/PairLink.lean ====
section
/-! DEFINITION. Chapter 18, the sender of the Fjarair link: which lane carries a frame (R551), the retransmit buffer and the
streams' priorities (R554, R561), and what is told the partner as changes are made (R563). -/

namespace Sys2Proof.Machine

namespace Dev

/-- The pair's state beside its registers, changed. -/
def setPair (d : Dev) (f : Pair → Pair) : Dev := { d with pair := f d.pair }

/-- SIDE (R546). -/
def side (d : Dev) : Nat := d.boot.straps % 2

/-- Pair STATE (R557). -/
def pairState (d : Dev) : Nat := d.fld 0x700004 30 28

/-- LINK_UP. -/
def fjLinked (d : Dev) : Bool := d.flag 0x700004 24

/-- SELF_ALIVE. -/
def selfAlive (d : Dev) : Bool := d.flag 0x700004 14

/-- Whether lane `k` of the link is up. -/
def fjUp (d : Dev) (k : Nat) : Bool := d.flag 0x700004 (16 + k)

/-- ROLE of R524: bit i is 1 while interface code i is ACTIVE here. -/
def roles (d : Dev) : Nat := ifaces.foldl (fun n i => if (d.port i).active then n + 2 ^ i else n) 0

/-- Whether this device gives the interface and has stopped admitting its frames (R571 step 3). -/
def given (d : Dev) (i : Nat) : Bool := (Map.get? d.pair.hands i).any fun h => h.give && h.step = 2

/-- A frame sent on a lane (R552); every frame carries ACK. -/
def emitOn (d : Dev) (k seq : Nat) (b : FjBody) : Dev :=
  let f : Fjarair := { side := d.side, seq := seq, ack := d.pair.rxSeq, lane := k, body := b }
  ({ d with out := d.out ++ [Emission.fjarair k f] } : Dev).bump 0x700100

/-- The lane next in turn (R551). -/
def nextLane (d : Dev) : Option Nat := ((List.range 8).map fun k => (d.pair.rr + k) % 8).find? d.fjUp

/-- A frame sent on the lane next in turn. -/
def emit (d : Dev) (seq : Nat) (b : FjBody) : Dev :=
  match d.nextLane with
  | none => d
  | some k => (d.emitOn k seq b).setPair fun p => { p with rr := (k + 1) % 8 }

/-- A mark set's QDELAY as it is sent (R562). -/
def stamped (d : Dev) : FjBody → FjBody
  | .data (.markTime m _ :: l) => .data (.markTime m (min (2 ^ 32 - 1) (d.now - m)) :: l)
  | b => b

/-- A sequenced frame sent and kept until an ACK covers it (R554). -/
def sendNow (d : Dev) (b : FjBody) : Dev :=
  let b := d.stamped b
  let seq := d.pair.txSeq
  (d.emit seq b).setPair fun p =>
    { p with sent := p.sent ++ [(seq, b)], txSeq := (seq + 1) % 2 ^ 32, ackedAt := if p.sent.isEmpty then d.now else p.ackedAt }

/-- Frames that waited, sent while the retransmit buffer has room. -/
def drainSend (d : Dev) : Dev :=
  d.pair.toSend.foldl (fun d w =>
    if d.pair.sent.length < 4096 then (d.setPair fun p => { p with toSend := p.toSend.drop 1 }).sendNow w.2 else d) d

/-- A sequenced frame of a stream (R554, R561): it waits where the buffer is full, and goes before waiting frames of lower
priority. While the link is down nothing is sent. -/
def sendSeq (d : Dev) (prio : Nat) (b : FjBody) : Dev :=
  if !d.fjLinked then d
  else (d.setPair fun p =>
    { p with toSend := p.toSend.takeWhile (fun w => w.1 ≤ prio) ++ [(prio, b)] ++ p.toSend.dropWhile fun w => w.1 ≤ prio }).drainSend

/-- A CTRL frame sent. -/
def sendCtrl (d : Dev) (c : Ctrl) : Dev := d.sendSeq 1 (.ctrl c)

/-- Whether changes are mirrored: PAIRED, or while the partner joins from this device, and not those of the partner. -/
def mirrors (d : Dev) : Bool := (d.pairState = 2 || d.pair.feeding) && !d.pair.quiet

/-- A change told the partner (R563); those of one commit travel in one frame (R564). -/
def mirror (d : Dev) (r : PairRec) : Dev :=
  if !d.mirrors then d
  else match d.pair.gather with
    | some l => d.setPair fun p => { p with gather := some (l ++ [r]) }
    | none => d.sendSeq 3 (.data [r])

/-- The records gathered of a commit sent in one frame (R564). -/
def sendGathered (d : Dev) : Dev :=
  let l := d.pair.gather.getD []
  let d := d.setPair fun p => { p with gather := none }
  if l.isEmpty || !d.mirrors then d else d.sendSeq 3 (.data l)

end Dev

end Sys2Proof.Machine
end

