-- ==== Sys2Proof/Machine/Contexts.lean ====
section
/-! DEFINITION. Chapter 7, first part: the context store and its cache slices, lookups, creation, frees and writes,
locks, aging, and what the partner is told of it (R563). -/

namespace Sys2Proof.Machine

/-- Why an operation on a table fails (R220). -/
inductive TblError where
  | notFound | genMismatch | exists_ | full | locked | notLocked | conflict | parity
deriving DecidableEq, Repr

/-- The reason of R220. -/
def TblError.code : TblError → Nat
  | .notFound => 1
  | .genMismatch => 2
  | .exists_ => 3
  | .full => 4
  | .locked => 5
  | .notLocked => 6
  | .conflict => 7
  | .parity => 8

/-- Words 0 to 31 of a context (R187); parity, word 31, is hardware's own and reads 0 here. -/
def Ctx.toWords (c : Ctx) : List Nat :=
  let key := (List.range 10).map fun i => ofBE (slice c.key (4 * i) 4)
  let w10 := b2n c.valid <<< 31 + b2n c.link <<< 30 + b2n c.stale <<< 29 + b2n c.aged <<< 28 + b2n c.lock.isSome <<< 27
    + b2n c.ageEn <<< 26 + c.ageClass <<< 23 + b2n c.actValid <<< 22 + b2n c.conflict <<< 21 + c.gen <<< 8 + c.tpl
  let w11 := match c.chain with
    | some n => 2 ^ 31 + n
    | none => 0
  let w14 := match c.policer with
    | some n => 2 ^ 31 + n
    | none => 0
  key ++ [w10, w11, c.actRef, c.verdict <<< 16 + c.auto, w14, c.svcClass <<< 28 + c.set <<< 16 + c.tenant,
    c.lastHit / 2 ^ 32 % 2 ^ 16, c.lastHit % 2 ^ 32, c.pkts / 2 ^ 32, c.pkts % 2 ^ 32, c.bytes / 2 ^ 32, c.bytes % 2 ^ 32]
    ++ (List.range 8).map (fun i => word c.engine i) ++ [0, 0]

/-- The fields that an engine or the host may write (R188), taken from words; `keyed` adds KEY and TPL. -/
def Ctx.write (c : Ctx) (keyed : Bool) (w : List Nat) : Ctx :=
  let w10 := word w 10
  let w14 := word w 14
  let w15 := word w 15
  let c := if keyed then { c with key := ((w ++ List.replicate 10 0).take 10).flatMap (beBytes 4), tpl := bits w10 1 0 } else c
  { c with ageEn := w10.testBit 26, ageClass := bits w10 25 23, actValid := w10.testBit 22, actRef := word w 12 % 2 ^ 32,
           verdict := bits (word w 13) 31 16, auto := bits (word w 13) 15 0,
           policer := if w14.testBit 31 then some (bits w14 17 0) else none,
           svcClass := bits w15 31 28, set := bits w15 21 16, tenant := bits w15 15 0,
           engine := (List.range 8).map fun i => word w (22 + i) % 2 ^ 32 }

namespace Dev

/-- H of R190, over the seed, the template number and the key. -/
def ctxHash (d : Dev) (tpl : Nat) (key : List Byte) : Nat :=
  crc32c (beBytes 4 (d.reg 0x100D00) ++ beBytes 1 tpl ++ key)

/-- The home of a key (R190). -/
def ctxHome (d : Dev) (tpl : Nat) (key : List Byte) : Nat := d.ctxHash tpl key % 2 ^ 23

/-- The cache set of a home (R195). -/
def cacheSet (home : Nat) : Nat := home / 16 % 1024

/-- The keeper slice of a context (R195). -/
def slice (d : Dev) (n : Nat) : Slice := Map.getD d.slices n {}

/-- That slice changed. -/
def setSlice (d : Dev) (n : Nat) (f : Slice → Slice) : Dev := { d with slices := Map.upd d.slices n {} f }

/-- The ways of a set of a slice, changed. -/
def setWays (d : Dev) (n set : Nat) (f : List Way → List Way) : Dev :=
  d.setSlice n fun s => { s with sets := Map.upd s.sets set [] f }

/-- The line of a context in its keeper slice. -/
def lineOf (d : Dev) (idx : Nat) : Option (Nat × Ctx) :=
  (d.slice (idx % 16)).sets.findSome? fun e => e.2.findSome? fun w =>
    match w with
    | .line i c _ => if i = idx then some (e.1, c) else none
    | .pend _ _ _ => none

/-- A context as its keeper has it: the cached line, or the store. -/
def ctx (d : Dev) (idx : Nat) : Ctx :=
  match d.lineOf idx with
  | some (_, c) => c
  | none => Map.getD d.store idx {}

/-- A context written to the store; its POISONED mark ends (R223). -/
def storeCtx (d : Dev) (idx : Nat) (c : Ctx) : Dev :=
  { d with store := Map.putD d.store idx {} c, badCtx := without d.badCtx idx }

/-- Whether a context is read POISONED: its word of the store is, and no line holds it (R223). -/
def ctxBad (d : Dev) (idx : Nat) : Bool := d.badCtx.contains idx && (d.lineOf idx).isNone

/-- R585: a write of a context refused over a POISONED word. -/
def ctxRefused (d : Dev) (idx : Nat) : Dev := d.writeRefused (idx % 2) (some (idx * 128))

/-- A context changed by its keeper: in its line, which becomes modified, or in the store (R196), where a POISONED word refuses
it (R584). -/
def setCtx (d : Dev) (idx : Nat) (f : Ctx → Ctx) : Dev :=
  match d.lineOf idx with
  | none => if d.badCtx.contains idx then d.ctxRefused idx else d.storeCtx idx (f (Map.getD d.store idx {}))
  | some (set, _) =>
    d.setWays (idx % 16) set fun ws => ws.map fun w =>
      match w with
      | .line i c dirty => if i = idx then .line i (f c) (some (dirty.getD d.now)) else w
      | .pend _ _ _ => w

/-- What an evicted way leaves behind: a modified line is written to the store (R196). -/
def evict (d : Dev) : Way → Dev
  | .line i c (some _) => d.storeCtx i c
  | .line _ _ none => d
  | .pend _ _ _ => d

/-- A way put first in its set; the least recently used of 17 leaves (R195). -/
def insertWay (d : Dev) (n set : Nat) (w : Way) : Dev :=
  let ws := w :: Map.getD (d.slice n).sets set []
  let d := d.setWays n set fun _ => ws.take 16
  (ws.drop 16).foldl evict d

/-- Whether a way is the line of a key. -/
def wayHas (tpl : Nat) (key : List Byte) : Way → Bool
  | .line _ c _ => c.valid && c.tpl = tpl && c.key == key
  | .pend _ _ _ => false

/-- Whether a way is the live PEND entry of a key (R200). -/
def wayPend (d : Dev) (tpl : Nat) (key : List Byte) : Way → Bool
  | .line _ _ _ => false
  | .pend t k u => t = tpl && k == key && d.now < u

/-- What a lookup finds in the slice. -/
inductive SliceOut where
  | hit (idx : Nat)
  | pend
  | miss
deriving DecidableEq, Repr

/-- A used way moved to the front of its set. -/
def touchWay (d : Dev) (n set : Nat) (p : Way → Bool) : Dev :=
  d.setWays n set fun ws => ws.filter p ++ ws.filter fun w => !p w

/-- The line of a key taken out of its set, without writing it back. -/
def dropLine (d : Dev) (n set : Nat) (p : Way → Bool) : Dev := d.setWays n set fun ws => ws.filter fun w => !p w

/-- R195, R200, R223: a lookup in the keeper slice of a key. `upset` is a parity error of the line. -/
def sliceLookup (d : Dev) (tpl : Nat) (key : List Byte) (upset : Bool) : Dev × SliceOut :=
  let home := d.ctxHome tpl key
  let n := home % 16
  let set := cacheSet home
  let ws := Map.getD (d.slice n).sets set []
  let crs := crsBase (d.physical n)
  match ws.find? (wayHas tpl key) with
  | some (.line i _ dirty) =>
    let inj := dirty.isNone && d.flag (crs + 0xC18) 1
    if upset || inj then
      let d := d.dropLine n set (wayHas tpl key)
      let d := if inj then d.clrBit (crs + 0xC18) 1 else d
      let d := (d.raiseAs (srcCourse (d.physical n)) 0x4020 [] inj true).event (crs + 0xC14) 7
      let d := if dirty.isSome then (d.raiseWear (srcCourse (d.physical n)) 0x4021).event (crs + 0xC14) 8 else d
      (d, .miss)
    else (d.touchWay n set (wayHas tpl key), .hit i)
  | _ => if ws.any (d.wayPend tpl key) then (d, .pend) else (d, .miss)

/-- R189: what a pass that finds its context does to it. -/
def hitCtx (d : Dev) (idx : Nat) (first : Bool) (mlen : Nat) : Dev :=
  d.setCtx idx fun c =>
    { c with aged := false, stale := false, lastHit := d.now % 2 ^ 48,
             pkts := if first then satAdd 40 c.pkts 1 else c.pkts,
             bytes := if first then satAdd 48 c.bytes (mlen + 4) else c.bytes }

/-- R185: whether a context's verdict is current for a tag. -/
def isCurrent (d : Dev) (tag : Nat) (c : Ctx) : Bool :=
  c.actValid && (c.verdict + 2 ^ 16 - bits (d.epochReg tag 0x100D08) 15 0) % 2 ^ 16 < 2 ^ 15

/-- R223, R579: an uncorrectable read of a context in the store; the word then stays POISONED and is reported no more. -/
def storeBad (d : Dev) (i : Nat) : Dev :=
  if d.badCtx.contains i then d
  else ({ d with badCtx := addOnce d.badCtx i } : Dev).raise (srcMem (i % 2)) 0x4022 (memDetail (i % 2) (i * 128))

/-- CHAIN_MAX (R191). -/
def chainMax (d : Dev) : Nat := d.fld 0x100D04 11 8

/-- What the walk of a chain finds (R191): a match, the end, or a chain beyond CHAIN_MAX; with the slots read. -/
inductive WalkOut where
  | found (idx : Nat)
  | ended
  | tooLong
deriving DecidableEq, Repr

/-- R191: a chain read from its home slot on; reads are counted. -/
def walkChain (d : Dev) (tpl : Nat) (key : List Byte) : Nat → Nat → WalkOut × Nat
  | 0, _ => (.tooLong, 0)
  | fuel + 1, idx =>
    let c := d.ctx idx
    if c.valid && c.tpl = tpl && c.key == key then (.found idx, 1)
    else match c.chain with
      | none => (.ended, 1)
      | some n => let (o, k) := d.walkChain tpl key fuel n; (o, k + 1)

/-- The slots of a chain from its home, at most `fuel`. -/
def chainSlots (d : Dev) : Nat → Nat → List Nat
  | 0, _ => []
  | fuel + 1, idx =>
    match (d.ctx idx).chain with
    | none => [idx]
    | some n => idx :: d.chainSlots fuel n

/-- The contexts that journals hold (R388), with the engine of each: those written or freed, and those reserved. -/
def heldCtxs (d : Dev) : List (Nat × Nat) :=
  d.journals.flatMap fun j => j.2.filterMap fun e => match e with
    | .ctxWrite i _ _ _ => some (i, j.1)
    | .ctxCreate i _ => some (i, j.1)
    | .ctxFree i _ => some (i, j.1)
    | _ => none

/-- The engine whose journal holds a context. -/
def ctxHolder (d : Dev) (idx : Nat) : Option Nat := (d.heldCtxs.find? fun h => h.1 = idx).map (·.2)

/-- The engine whose journal is to create a key. -/
def keyHolder (d : Dev) (tpl : Nat) (key : List Byte) : Option Nat :=
  (d.journals.find? fun j => j.2.any fun e => match e with
    | .ctxCreate _ c => c.tpl = tpl && c.key == key
    | _ => false).map (·.1)

/-- A free overflow index of a slice (R192): the lowest whose slot holds no flow and is in no chain. -/
def freeOverflow (d : Dev) (n : Nat) : Option Nat :=
  let used := d.store.length + d.heldCtxs.length + 16 * 1024
  let rec go : Nat → Nat → Option Nat
    | 0, _ => none
    | fuel + 1, i =>
      if i ≥ 0xFFFFFF then none
      else if d.ctxBad i || (d.ctx i).valid || (d.ctxHolder i).isSome then go fuel (i + 16)
      else some i
  go (used + 1) (0x800000 + n)

/-! ### Creation, frees and writes (R192 to R194) -/

/-- Fault 0x4001 of a refused creation. -/
def ctxFull (d : Dev) (n : Nat) : Dev := d.raise (srcCourse (d.physical n)) 0x4001

/-- Whether the search for a key's place reads a POISONED slot: those up to the key's own are read. -/
def placeBad (d : Dev) (tpl : Nat) (key : List Byte) : Bool :=
  let slots := d.chainSlots (d.chainMax + 1) (d.ctxHome tpl key)
  let has (i : Nat) : Bool := let c := d.ctx i; c.valid && c.tpl = tpl && c.key == key
  (slots.takeWhile (fun i => d.ctxBad i || !has i) ++ (slots.find? has).toList).any d.ctxBad

/-- The place R192 finds for a key; a home that a journal has reserved is not free. -/
def placeFor (d : Dev) (tpl : Nat) (key : List Byte) : Except (Option Nat) Nat :=
  let home := d.ctxHome tpl key
  let slots := d.chainSlots (d.chainMax + 1) home
  match slots.find? fun i => let c := d.ctx i; c.valid && c.tpl = tpl && c.key == key with
  | some i => .error (some i)
  | none =>
    if !(d.ctx home).valid && (d.ctxHolder home).isNone then .ok home
    else if slots.length ≥ d.chainMax then .error none
    else match d.freeOverflow (home % 16) with
      | none => .error none
      | some i => .ok i

/-- A creation made at its place: GEN advances, an overflow slot is linked at the end of its chain, the line is written, and
the partner is told. -/
def ctxCreateAt (d : Dev) (i : Nat) (image : Ctx) : Dev :=
  let home := d.ctxHome image.tpl image.key
  let old := d.ctx i
  let link := if i = home then none else (d.chainSlots (d.chainMax + 1) home).getLast?
  let new : Ctx :=
    { image with valid := true, link := false, stale := false, aged := false, lock := none, conflict := false,
                 gen := (old.gen + 1) % 256, chain := old.chain, lastHit := 0, pkts := 0, bytes := 0 }
  let d := match link with
    | some t => d.setCtx t fun c => { c with chain := some i }
    | none => d
  let n := home % 16
  let set := cacheSet home
  let d := d.setWays n set fun ws => ws.filter fun w => match w with
    | .pend t k _ => !(t = image.tpl && k == image.key)
    | .line j _ _ => j ≠ i
  (d.insertWay n set (.line i new (some d.now))).mirror (.ctxSet new.toWords)

/-- R192: a creation in the keeper slice; EXISTS carries the context that holds the key. -/
def ctxCreate (d : Dev) (image : Ctx) : Dev × Except TblError Nat × Nat :=
  if d.placeBad image.tpl image.key then (d, .error .parity, 0xFFFFFF)
  else match d.placeFor image.tpl image.key with
  | .error (some i) => (d, .error .exists_, i)
  | .error none => (d.ctxFull (d.ctxHome image.tpl image.key % 16), .error .full, 0xFFFFFF)
  | .ok i => (d.ctxCreateAt i image, .ok i, i)

/-- R194: whether a free or write may go on. -/
def ctxCheck (d : Dev) (idx gen : Nat) : Option TblError :=
  let c := d.ctx idx
  if d.ctxBad idx then some .parity else if !c.valid then some .notFound else if c.gen ≠ gen then some .genMismatch else none

/-- Whether a scan of the context's flow is running (R170). -/
def scanning (d : Dev) (idx : Nat) : Bool :=
  d.aus.any fun e => e.2.running.any fun s => s.pass.look.ctx.any fun c => c.1 = idx

/-- R193: a valid context freed, its chain mended and its stream record cleared. -/
def ctxRelease (d : Dev) (idx : Nat) : Dev :=
  let c := d.ctx idx
  let home := d.ctxHome c.tpl c.key
  let d := match d.lineOf idx with
    | some (set, _) => d.setWays (idx % 16) set fun ws => ws.filter fun w => match w with
      | .line i _ _ => i ≠ idx
      | .pend _ _ _ => true
    | none => d
  let d := { d with streams := Map.erase d.streams idx }
  let gone : Ctx := { gen := c.gen }
  if idx = home then d.storeCtx idx { gone with link := c.chain.isSome, chain := c.chain }
  else
    let d := d.storeCtx idx gone
    match (d.chainSlots 17 home).find? fun i => (d.ctx i).chain = some idx with
    | none => d
    | some p =>
      d.setCtx p fun x => { x with chain := c.chain, link := x.link && (c.chain.isSome || p ≠ home) }

/-- R193, R194: a free by index and GEN; it waits for a scan of its flow. -/
def ctxFree (d : Dev) (idx gen : Nat) : Dev × Option TblError :=
  match d.ctxCheck idx gen with
  | some e => (d, some e)
  | none =>
    let c := d.ctx idx
    if d.scanning idx then ({ d with freeWait := d.freeWait ++ [(idx, gen)] }.mirror (.ctxFree c.tpl c.key), none)
    else ((d.ctxRelease idx).mirror (.ctxFree c.tpl c.key), none)

/-- R194, R221: a write by an engine: fields of R188 from words; a locked context takes CONFLICT. -/
def ctxWrite (d : Dev) (idx gen : Nat) (f : Ctx → Ctx) (engine : Bool) : Dev × Option TblError :=
  match d.ctxCheck idx gen with
  | some .parity => (d.ctxRefused idx, some .parity)
  | some e => (d, some e)
  | none =>
    let d := d.setCtx idx fun c => let c := f c; if engine && c.lock.isSome then { c with conflict := true } else c
    (d.mirror (.ctxSet (d.ctx idx).toWords), none)

/-- R193: frees that waited for the scans of their flows. -/
def freesDue (d : Dev) : Dev :=
  let due := d.freeWait.filter fun w => !d.scanning w.1
  let d := { d with freeWait := d.freeWait.filter fun w => d.scanning w.1 }
  due.foldl (fun d w => if (d.ctxCheck w.1 w.2).isSome then d else d.ctxRelease w.1) d

/-! ### Write-back, PEND life, aging -/

/-- WB_MAX in ns (R196). -/
def wbMax (d : Dev) : Nat := max 1 (d.fld 0x100D04 7 0) * 100000

/-- R196: the modified line of a context written back WB_MAX after its first change. -/
def writeBack (d : Dev) (idx : Nat) : Dev :=
  match d.lineOf idx with
  | none => d
  | some (set, _) =>
    (Map.getD (d.slice (idx % 16)).sets set []).foldl (fun d w =>
      match w with
      | .line i c (some t) =>
        if i = idx && d.now ≥ t + d.wbMax then
          (d.storeCtx i c).setWays (idx % 16) set fun ws => ws.map fun x =>
            if x = w then .line i c none else x
        else d
      | .line _ _ none => d
      | .pend _ _ _ => d) d

/-- R200: PEND entries of a set whose life is over. -/
def pendExpiry (d : Dev) (n set : Nat) : Dev :=
  d.setWays n set fun ws => ws.filter fun w => match w with
    | .line _ _ _ => true
    | .pend _ _ u => d.now < u

/-- R214, R215, R217: the context sweeper at a context; one that an engine's journal holds is skipped (R388). -/
def ctxSweep (d : Dev) (idx : Nat) : Dev :=
  let n := idx % 16
  let crs := crsBase (d.physical n)
  let c := d.ctx idx
  if d.ctxBad idx || !c.valid || c.lock.isSome || (d.ctxHolder idx).isSome || !c.ageEn then d
  else if c.stale then
    (((d.ctxFree idx c.gen).1).bump (crs + 0xCA8))
  else
    let k := d.fld (crsBase n + 0xC20 + 4 * c.ageClass) 15 0
    if k = 0 || (d.slice n).lapNo % k ≠ 0 then d
    else if c.aged then ((d.ctxFree idx c.gen).1).bump (crs + 0xCA0)
    else (d.setCtx idx fun c => { c with aged := true }).mirror (.ctxTouch c.tpl c.key)

/-- The end of a lap of a slice's context sweeper; beyond twice its setting it sets AGE_SLOW (R218). A setting applies from
the next lap (R224). -/
def ctxLap (d : Dev) (n : Nat) : Dev :=
  let s := d.slice n
  let slow := d.now > s.start + 2 * s.lap * 1000000
  let d := d.setSlice n fun s => { s with lapNo := s.lapNo + 1, start := d.now, lap := d.fld (crsBase n + 0xC04) 15 0 }
  if slow then d.event (crsBase (d.physical n) + 0xC14) 5 else d

/-! ### Locks (R221, R222) -/

/-- Locks that a DMA channel holds. -/
def locksOf (d : Dev) (ch : Nat) : Nat :=
  let held (o : Option (Nat × Nat)) : Bool := o.any fun l => l.1 = ch
  let ctxs := (Map.keys d.store ++ d.slices.flatMap fun s => s.2.sets.flatMap fun e => e.2.filterMap fun w =>
    match w with
    | .line i _ _ => some i
    | .pend _ _ _ => none).foldl addOnce []
  (ctxs.filter fun i => held (d.ctx i).lock).length
    + d.courses.foldl (fun n c => n + (c.2.learned.filter fun e => held e.2.lock).length) 0

/-- A lock of a context (R221). -/
def ctxLock (d : Dev) (ch idx gen : Nat) : Dev × Option TblError :=
  match d.ctxCheck idx gen with
  | some e => (d, some e)
  | none =>
    if (d.ctx idx).lock.isSome then (d, some .locked)
    else if d.locksOf ch ≥ 16 then (d, some .full)
    else (d.setCtx idx fun c => { c with lock := some (ch, d.now) }, none)

/-- The unlock of a context: LOCK and CONFLICT are cleared (R221). -/
def ctxUnlock (d : Dev) (ch idx gen : Nat) : Dev × Option TblError :=
  match d.ctxCheck idx gen with
  | some e => (d, some e)
  | none =>
    if (d.ctx idx).lock.any fun l => l.1 = ch then (d.setCtx idx fun c => { c with lock := none, conflict := false }, none)
    else (d, some .notLocked)

/-- R222: a lock held 1.0 ms released by hardware, with its fault, count and event. -/
def lockGone (d : Dev) (c : Nat) : Dev :=
  ((d.raise (srcCourse c) 0x4030).bump (crsBase c + 0xCF8)).event (crsBase c + 0xC14) 6

/-- R222 for a context. -/
def ctxLockExpiry (d : Dev) (idx : Nat) : Dev :=
  match (d.ctx idx).lock with
  | none => d
  | some (_, t) =>
    if d.now < t + 1000000 then d
    else (d.setCtx idx fun c => { c with lock := none, conflict := false }).lockGone (d.physical (idx % 16))

end Dev

/-- CONTEXT_WRITE_BACK (R196): the context whose line is due. -/
def execContextWriteBack (idx : BitVec 24) (s : State) : Result := s.act (·.writeBack idx.toNat)

/-- CONTEXT_SWEEP_VISIT (R214, R215, R218): a visit to a context; `lapEnd` says that it ends the slice's lap. -/
def execContextSweepVisit (idx : BitVec 24) (lapEnd : Bool) (s : State) : Result :=
  s.act fun d => let d := d.ctxSweep idx.toNat; if lapEnd then d.ctxLap (idx.toNat % 16) else d

/-- PEND_EXPIRY (R200): slice and cache set. -/
def execPendExpiry (slice : Fin 16) (set : Fin 1024) (s : State) : Result := s.act (·.pendExpiry slice set)

end Sys2Proof.Machine
end

