-- ==== Sys2Proof/Machine/Automata.lean ====
section
/-! DEFINITION. Chapter 6, second part: the automaton, streams, selectors, budgets, scans and their reports; and the
choice of a set for service work (R248). -/

namespace Sys2Proof.Machine

/-- A match: pattern, action, and the packet offset of the last matched byte. -/
structure Match where
  pattern : Nat
  action  : Nat
  end_    : Nat
deriving DecidableEq, Repr

/-- The next state on a byte class (R164). -/
def nextState (a : AutoImage) (s cls : Nat) : Nat :=
  let r := Map.getD a.states s []
  let w0 := word r 0
  if bits w0 31 30 = 1 then Map.getD a.dense (bits w0 23 0 * 64 + cls) 0
  else
    match (List.range (bits w0 28 26)).find? fun k => bits (word r (2 + k)) 31 26 = cls with
    | some k => bits (word r (2 + k)) 23 0
    | none => bits w0 23 0

/-- The matches listed on entry to a state (R164, R168). -/
def matchesAt (a : AutoImage) (s at_ : Nat) : List Match :=
  let w1 := word (Map.getD a.states s []) 1
  (List.range (bits w1 31 28)).map fun k =>
    let m := a.matchList.getD (bits w1 23 0 + k) 0
    ⟨bits m 31 16, bits m 15 14, at_⟩

/-- R168: bytes consumed from a state; the state reached and the matches in order. -/
def scanBytes (a : AutoImage) (map : List Nat) : List Byte → Nat → Nat → Nat × List Match
  | [], _, s => (s, [])
  | b :: l, at_, s =>
    let s' := nextState a s (map.getD b.toNat 0)
    let (e, ms) := scanBytes a map l (at_ + 1) s'
    (e, matchesAt a s' at_ ++ ms)

/-- The strongest action of a list of matches (R172): drop, then service, then report. -/
def strongest (ms : List Match) : Nat :=
  if ms.any fun m => m.action = 1 then 1 else if ms.any fun m => m.action = 2 then 2 else 0

namespace Dev

/-! ### The choice of a set (R239, R248) -/

/-- E of R239. -/
def entropy (look : Look) (fv : List Byte) : Nat :=
  (if look.key.isSome then look.hash else crc32c (fv.take 40)) % 2 ^ 14

/-- The sets of a class's mask that are IN_SERVICE (R248, R396). -/
def maskSets (d : Dev) (tag cls : Nat) : List Nat :=
  let m := (d.slot tag).policy.masks.getD cls 0
  (List.range 64).filter fun s => m.testBit s && d.setReady s

/-- R248: the set that service work of a class goes to. -/
def serviceSet (d : Dev) (tag cls : Nat) (look : Look) (fv : List Byte) : Option Nat :=
  let own := look.ctx.bind fun c =>
    let x := d.ctx c.1
    if (look.ctxOut = .current || look.ctxOut = .reval) && x.svcClass = cls && d.setReady x.set then some x.set else none
  match own with
  | some s => some s
  | none =>
    let l := d.maskSets tag cls
    l[entropy look fv % max 1 l.length]?

/-! ### Units -/

/-- Block of an automata unit (R178). -/
def auBase (u : Nat) : Nat := 0x580000 + u * 0x1000

/-- An automata unit. -/
def au (d : Dev) (u : Nat) : Au := Map.getD d.aus u {}

/-- That unit changed. -/
def setAu (d : Dev) (u : Nat) (f : Au → Au) : Dev := { d with aus := Map.upd d.aus u {} f }

/-- B of R174, from the limit in force. -/
def auBudget (d : Dev) (u : Nat) : Nat := d.fld (auBase u + 4) 6 0 * 500

/-- Whether a unit is in service (R176). -/
def auServes (d : Dev) (u : Nat) : Bool := d.isOn (22 + u) && d.flag (auBase u) 0 && !d.faults.isolated.contains (srcAu u)

/-- The selector of a packet with whether it comes from its context (R167). -/
def autoSel (d : Dev) (look : Look) : Option (Nat × Bool) :=
  let fromCtx := look.ctx.bind fun c =>
    let a := (d.ctx c.1).auto
    if (look.ctxOut = .current || look.ctxOut = .reval) && a.testBit 15 then some (a, true) else none
  match fromCtx with
  | some r => some r
  | none => look.groups.findSome? fun g => match g with
    | .hit _ _ _ a => if a.testBit 15 then some (a, false) else none
    | .miss => none
    | .error => none

/-- The descriptor of a pattern set (R165). -/
def patternSet (d : Dev) (tag n : Nat) : PatternSet := (d.slot tag).auto.sets.getD n ⟨[], []⟩

/-- Start and stop of a scan (R168). -/
def scanRange (ps : PatternSet) (p : Parse) : Nat × Nat :=
  let start := p.parseEnd + bits (word ps.desc 1) 17 9
  let max := bits (word ps.desc 2) 13 0
  (start, if max = 0 then p.bound else min p.bound (start + max))

/-- A stream record marked with a gap (R175), and where `restart` says so back at START. -/
def streamGap (d : Dev) (u : Nat) (look : Look) (restart : Bool) : Dev :=
  match look.ctx with
  | none => d
  | some c =>
    if Map.has d.streams c.1 then
      { d with streams := Map.adjust d.streams c.1 fun s => { s with gap := true, valid := s.valid && !restart } }.bump (auBase u + 0x60)
    else d

/-- R175: OVERLOAD_ACT of a packet that is selected and not scanned; `r` is its drop reason. -/
def overload (d : Dev) (u : Nat) (ps : PatternSet) (look : Look) (r : Nat) : Dev × AutoOut :=
  let w1 := word ps.desc 1
  let d := d.bump (auBase u + 0x48)
  match bits w1 31 30 with
  | 1 => (d, .drop r)
  | 2 => (d, .service (bits w1 29 26))
  | _ => (d.streamGap u look false, .pass)

/-- What the selection of a packet comes to at its unit. -/
inductive ScanJudge where
  | go (o : AutoOut)
  | wait (s : Scan)
deriving DecidableEq, Repr

/-- A TAP packet skipped (R175). -/
def tapSkip (d : Dev) (u : Nat) (look : Look) : Dev := (d.bump (auBase u + 0x50)).streamGap u look true

/-- R171 to R176: a selected packet meets its unit. An INLINE packet waits, or takes OVERLOAD_ACT; a TAP packet leaves a
copy of its bytes to be scanned, or is skipped. -/
def judgeScan (d : Dev) (u : Nat) (p : Pass) (sel : Nat) (own : Bool) (bytes : List Byte) : Dev × ScanJudge :=
  let inline := !sel.testBit 14
  let ps := d.patternSet p.desc.tag (bits sel 7 0)
  let (start, stop) := scanRange ps p.parse
  let stream := own && sel.testBit 13
  let done := stream && (p.look.ctx.any fun c => (Map.get? d.streams c.1).any fun s => s.done && s.valid
    && s.slot = p.desc.tag && s.set = bits sel 7 0)
  let sel := if own then sel else sel - (sel &&& 0x2000)
  if stop ≤ start || done then (d, .go .pass)
  else if !d.auServes u then
    if inline then let (d, o) := d.overload u ps p.look 0x34; (d, .go o) else (d.tapSkip u p.look, .go .pass)
  else
    let a := d.au u
    if inline then
      if a.spend ≥ d.auBudget u || (a.queue.filter (·.inline)).length ≥ 1024 then
        let (d, o) := d.overload u ps p.look 0x31
        (d, .go o)
      else (d, .wait ⟨p, [], true, sel, start, stop⟩)
    else if a.spend ≥ d.auBudget u - a.inlinePrev then (d.tapSkip u p.look, .go .pass)
    else
      (d.setAu u fun a => { a with queue := a.queue ++ [⟨{ p with chained := false }, bytes, false, sel, start, stop⟩] },
       .go .pass)

/-- Whether a scan of the same flow runs in the unit (R170). -/
def flowBusy (a : Au) (s : Scan) : Bool :=
  match s.pass.look.ctx with
  | none => false
  | some c => a.running.any fun r => r.pass.look.ctx.any fun x => x.1 = c.1

/-- R174: the first queued scan whose flow is free starts, while the budget allows. -/
def scanStart (d : Dev) (u : Nat) : Dev :=
  let a := d.au u
  if !d.auServes u then d else
  match a.queue.findIdx? fun s => !flowBusy a s with
  | none => d
  | some i =>
    match a.queue[i]? with
    | none => d
    | some s =>
      let n := s.stop - s.start
      if s.inline then
        if a.spend ≥ d.auBudget u then d
        else d.setAu u fun a => { a with queue := a.queue.eraseIdx i, running := a.running ++ [s], spend := a.spend + n,
                                         inlineNow := a.inlineNow + n }
      else if a.spend ≥ d.auBudget u - a.inlinePrev then
        (d.setAu u fun a => { a with queue := a.queue.eraseIdx i }).tapSkip u s.pass.look
      else d.setAu u fun a => { a with queue := a.queue.eraseIdx i, running := a.running ++ [s], spend := a.spend + n }

/-- R172: the reports of a scan's matches, at most 8, as work items. -/
def sendReports (d : Dev) (u : Nat) (s : Scan) (ms : List Match) (gap : Bool) (offset0 : Nat) : Dev :=
  let x := s.pass.desc
  let ps := d.patternSet x.tag (bits s.sel 7 0)
  let cls := bits (word ps.desc 1) 29 26
  let d := d.bump (auBase u + 0x40) (ms.length - 8)
  ((ms.take 8).zipIdx).foldl (fun d (m, k) =>
    let report := [m.pattern <<< 16 + bits s.sel 7 0 <<< 8 + b2n s.inline <<< 7 + b2n (gap && k = 0) <<< 6 + m.action <<< 4,
      x.admIf <<< 16 + m.end_, (offset0 + (m.end_ - s.start)) % 2 ^ 32, (s.pass.look.ctx.map (·.1)).getD 0xFFFFFF,
      x.aseq % 2 ^ 32, x.aseq / 2 ^ 32, x.tstamp, 0]
    match d.serviceSet x.tag cls s.pass.look s.pass.parse.fv with
    | none => d.bump (auBase u + 0x40)
    | some t =>
      let (d, id) := d.nextItemId 0
      let head := d.itemHead 1 x.tag 0 cls 0 id 0 0 (s.pass.look.ctx.map (·.1))
      match d.queueItem (dispatchQueue t cls 0) (head ++ report ++ List.replicate 20 0) with
      | (d, none) => d
      | (d, some _) => d.bump (auBase u + 0x40)) d

/-- R169 to R175: a running scan ends; the block and, for an INLINE packet, its outcome. -/
def scanEnd (d : Dev) (u : Nat) (s : Scan) (upset : ScanUpset) (fetches : Nat) : Dev × AutoOut :=
  let x := s.pass.desc
  let base := auBase u
  let img := (d.slot x.tag).auto
  let ps := d.patternSet x.tag (bits s.sel 7 0)
  let stream := s.sel.testBit 13
  let ctx := (s.pass.look.ctx.map (·.1)).filter fun _ => stream
  let old := ctx.bind fun c => (Map.get? d.streams c).filter fun r => r.valid && r.slot = x.tag && r.set = bits s.sel 7 0
  let old := if upset = .stream then none else old
  let gapOld := (ctx.bind fun c => (Map.get? d.streams c).map (·.gap)).getD false
  let gap := stream && (old.isNone || gapOld)
  let offset0 := (old.map (·.offset)).getD 0
  let limit := word ps.desc 3
  let stop := if stream && limit ≠ 0 then min s.stop (s.start + (limit - offset0)) else s.stop
  let inj := fetches > 0 && d.flag (base + 0x0C) 0
  let d := if inj then d.clrBit (base + 0x0C) 0 else d
  let bad : Option Nat := if inj then some 0 else match upset with
    | .state n => some n
    | .none => none
    | .stream => none
    | .cache => none
  let n := min (stop - s.start) (bad.getD (stop - s.start))
  let bytes := if s.inline then d.passBytes s.pass else s.bytes
  let (st, ms) := scanBytes img ps.map (Sys2Proof.Machine.slice bytes s.start n) s.start
    ((old.map (·.state)).getD (bits (word ps.desc 0) 23 0))
  let d := ((d.bump (base + 0x20) n).bump (base + (if s.inline then 0x28 else 0x30))).bump (base + 0x38) ms.length
  let d := (d.bump (base + 0x58) fetches).setAu u fun a => { a with rateBytes := a.rateBytes + n }
  let d := match upset with
    | .stream => d.raise (srcAu u) 0x3021
    | .cache => d.raise (srcAu u) 0x3022
    | .none => d
    | .state _ => d
  let d := d.sendReports u s ms gap offset0
  let d := if gap && !gapOld then d.bump (base + 0x60) else d
  let off := offset0 + n
  let rec_ : Stream :=
    { slot := x.tag, gap := gap && ms.isEmpty, done := limit ≠ 0 && off ≥ limit, state := st, set := bits s.sel 7 0,
      offset := off % 2 ^ 32, valid := true }
  let d := match ctx with
    | some c => { d with streams := Map.put d.streams c rec_ }
    | none => d
  if bad.isSome then
    let d := d.raiseAs (srcAu u) 0x3020 [] inj false
    if s.inline then d.overload u ps s.pass.look 0x32 else (d.streamGap u s.pass.look false, .pass)
  else if s.inline then
    match strongest ms with
    | 1 => (d, .drop 0x30)
    | 2 => (d, .service (bits (word ps.desc 1) 29 26))
    | _ => (d, .pass)
  else (d, .pass)

/-- R174: a window of 1 µs ends: debt is carried, and a change of tier or GRANT takes effect. -/
def auWindow (d : Dev) (u : Nat) : Dev :=
  let a := d.au u
  if d.now < a.window + 1000 then d else
  let b := d.auBudget u
  let base := auBase u
  let tier := d.power.tier
  let grant := d.fld 0x50044 23 16
  let limit := (100 - 25 * tier) * grant / 100
  let d := (((d.setFld (base + 4) 15 14 tier).setFld (base + 4) 13 7 grant).setFld (base + 4) 6 0 limit)
  let full := d.now / 10000 ≠ a.window / 10000
  let d := if full then d.setFld (base + 8) 15 0 (min 65535 (a.rateBytes * 8 / 10000)) else d
  d.setAu u fun a =>
    { a with spend := a.spend - b, inlinePrev := a.inlineNow, inlineNow := 0, window := d.now / 1000 * 1000,
             rateBytes := if full then 0 else a.rateBytes }

end Dev

/-- SCAN_START (R174). -/
def execScanStart (unit : Fin 16) (s : State) : Result := s.act (·.scanStart unit)

/-- AU_BUDGET_WINDOW (R174). -/
def execAuBudgetWindow (unit : Fin 16) (s : State) : Result := s.act (·.auWindow unit)

end Sys2Proof.Machine
end

