-- ==== Sys2Proof/Machine/Crypto.lean ====
section
/-! DEFINITION. SHA-384 (FIPS 180-4) and ECDSA over P-384 (FIPS 186-5), which the manual names and does not restate:
tiles (R259 to R261), keys and debug unlocks (chapters 22 and 23) rest on them. Bytes are taken most significant first. -/

namespace Sys2Proof.Machine

/-! ### SHA-384 -/

/-- Round constants 0 to 19. -/
def shaK0 : List Nat :=
  [0x428a2f98d728ae22, 0x7137449123ef65cd, 0xb5c0fbcfec4d3b2f, 0xe9b5dba58189dbbc,
   0x3956c25bf348b538, 0x59f111f1b605d019, 0x923f82a4af194f9b, 0xab1c5ed5da6d8118,
   0xd807aa98a3030242, 0x12835b0145706fbe, 0x243185be4ee4b28c, 0x550c7dc3d5ffb4e2,
   0x72be5d74f27b896f, 0x80deb1fe3b1696b1, 0x9bdc06a725c71235, 0xc19bf174cf692694,
   0xe49b69c19ef14ad2, 0xefbe4786384f25e3, 0xfc19dc68b8cd5b5, 0x240ca1cc77ac9c65]

/-- Round constants 20 to 39. -/
def shaK1 : List Nat :=
  [0x2de92c6f592b0275, 0x4a7484aa6ea6e483, 0x5cb0a9dcbd41fbd4, 0x76f988da831153b5,
   0x983e5152ee66dfab, 0xa831c66d2db43210, 0xb00327c898fb213f, 0xbf597fc7beef0ee4,
   0xc6e00bf33da88fc2, 0xd5a79147930aa725, 0x6ca6351e003826f, 0x142929670a0e6e70,
   0x27b70a8546d22ffc, 0x2e1b21385c26c926, 0x4d2c6dfc5ac42aed, 0x53380d139d95b3df,
   0x650a73548baf63de, 0x766a0abb3c77b2a8, 0x81c2c92e47edaee6, 0x92722c851482353b]

/-- Round constants 40 to 59. -/
def shaK2 : List Nat :=
  [0xa2bfe8a14cf10364, 0xa81a664bbc423001, 0xc24b8b70d0f89791, 0xc76c51a30654be30,
   0xd192e819d6ef5218, 0xd69906245565a910, 0xf40e35855771202a, 0x106aa07032bbd1b8,
   0x19a4c116b8d2d0c8, 0x1e376c085141ab53, 0x2748774cdf8eeb99, 0x34b0bcb5e19b48a8,
   0x391c0cb3c5c95a63, 0x4ed8aa4ae3418acb, 0x5b9cca4f7763e373, 0x682e6ff3d6b2b8a3,
   0x748f82ee5defb2fc, 0x78a5636f43172f60, 0x84c87814a1f0ab72, 0x8cc702081a6439ec]

/-- Round constants 60 to 79. -/
def shaK3 : List Nat :=
  [0x90befffa23631e28, 0xa4506cebde82bde9, 0xbef9a3f7b2c67915, 0xc67178f2e372532b,
   0xca273eceea26619c, 0xd186b8c721c0c207, 0xeada7dd6cde0eb1e, 0xf57d4f7fee6ed178,
   0x6f067aa72176fba, 0xa637dc5a2c898a6, 0x113f9804bef90dae, 0x1b710b35131c471b,
   0x28db77f523047d84, 0x32caab7b40c72493, 0x3c9ebe0a15c9bebc, 0x431d67c49c100d4c,
   0x4cc5d4becb3e42b6, 0x597f299cfc657e2a, 0x5fcb6fab3ad6faec, 0x6c44198c4a475817]

/-- The initial hash value of SHA-384. -/
def shaInit : List Nat :=
  [0xcbbb9d5dc1059ed8, 0x629a292a367cd507, 0x9159015a3070dd17, 0x152fecd8f70e5939,
   0x67332667ffc00b31, 0x8eb44a8768581511, 0xdb0c2e0d64f98fa7, 0x47b5481dbefa4fa4]

/-- A rotation of 64 bits to the right. -/
def ror (x n : Nat) : Nat := x >>> n ||| (x <<< (64 - n)) % 2 ^ 64

/-- The message schedule grown by one word: `w` holds the last 16 words, newest first. -/
def shaNext (w : List Nat) : Nat :=
  let a := w.getD 14 0
  let b := w.getD 1 0
  let s0 := ror a 1 ^^^ ror a 8 ^^^ a >>> 7
  let s1 := ror b 19 ^^^ ror b 61 ^^^ b >>> 6
  (w.getD 15 0 + s0 + w.getD 6 0 + s1) % 2 ^ 64

/-- One round on the eight working variables. -/
def shaRound (v : List Nat) (k w : Nat) : List Nat :=
  let a := v.getD 0 0
  let b := v.getD 1 0
  let c := v.getD 2 0
  let e := v.getD 4 0
  let s1 := ror e 14 ^^^ ror e 18 ^^^ ror e 41
  let ch := (e &&& v.getD 5 0) ^^^ ((2 ^ 64 - 1 - e) &&& v.getD 6 0)
  let t1 := v.getD 7 0 + s1 + ch + k + w
  let s0 := ror a 28 ^^^ ror a 34 ^^^ ror a 39
  let maj := (a &&& b) ^^^ (a &&& c) ^^^ (b &&& c)
  [(t1 + s0 + maj) % 2 ^ 64, a, b, c, (v.getD 3 0 + t1) % 2 ^ 64, e, v.getD 5 0, v.getD 6 0]

/-- The rounds of one block; `w` holds the schedule's last 16 words, newest first, and the current word is the oldest. -/
def shaRounds : List Nat → List Nat → List Nat → List Nat
  | [], _, v => v
  | k :: ks, w, v => shaRounds ks (shaNext w :: w.take 15) (shaRound v k (w.getD 15 0))

/-- A block of 128 bytes taken into the hash value. -/
def shaBlock (h : List Nat) (b : List Byte) : List Nat :=
  let w := ((List.range 16).map fun i => ofBE (slice b (8 * i) 8)).reverse
  List.zipWith (fun x y => (x + y) % 2 ^ 64) h (shaRounds (shaK0 ++ shaK1 ++ shaK2 ++ shaK3) w h)

/-- Blocks in order. -/
def shaBlocks : Nat → List Byte → List Nat → List Nat
  | 0, _, h => h
  | n + 1, l, h => shaBlocks n (l.drop 128) (shaBlock h (l.take 128))

/-- SHA-384 of bytes: 48 bytes. -/
def sha384 (l : List Byte) : List Byte :=
  let n := l.length
  let pad := (239 - n % 128) % 128
  let m := l ++ [0x80] ++ List.replicate pad 0 ++ beBytes 16 (8 * n)
  ((shaBlocks (m.length / 128) m shaInit).take 6).flatMap (beBytes 8)

/-! ### ECDSA over P-384 -/

/-- The field prime. -/
def ecP : Nat := 0xfffffffffffffffffffffffffffffffffffffffffffffffffffffffffffffffeffffffff0000000000000000ffffffff
/-- The group order. -/
def ecN : Nat := 0xffffffffffffffffffffffffffffffffffffffffffffffffc7634d81f4372ddf581a0db248b0a77aecec196accc52973
/-- The coefficient b; a is -3. -/
def ecB : Nat := 0xb3312fa7e23ee7e4988e056be3f82d19181d9c6efe8141120314088f5013875ac656398d8a2ed19d2a85c8edd3ec2aef
/-- The base point. -/
def ecG : Option (Nat × Nat) :=
  some (0xaa87ca22be8b05378eb1c71ef320ad746e1d3b628ba79b9859f741e082542a385502f25dbf55296c3a545e3872760ab7,
    0x3617de4a96262c6f5d9e98bf9292dc29f8f41dbd289a147ce9da3113b5f0b8c00a60b1ce1d7e819d7a431d7c90ea0e5f)

/-- Modular power by binary digits. -/
def powMod (m : Nat) : Nat → Nat → Nat → Nat
  | 0, _, _ => 1 % m
  | fuel + 1, b, e =>
    if e = 0 then 1 % m
    else
      let r := powMod m fuel (b * b % m) (e / 2)
      if e % 2 = 1 then r * b % m else r

/-- Inverse modulo a prime. -/
def invMod (m x : Nat) : Nat := powMod m 400 (x % m) (m - 2)

/-- Sum of two points of the curve; none is the point at infinity. -/
def ecAdd : Option (Nat × Nat) → Option (Nat × Nat) → Option (Nat × Nat)
  | none, q => q
  | p, none => p
  | some (x1, y1), some (x2, y2) =>
    if x1 = x2 && (y1 + y2) % ecP = 0 then none
    else
      let l := if x1 = x2 then (3 * x1 * x1 + 3 * (ecP - 1)) * invMod ecP (2 * y1) % ecP
        else (y2 + ecP - y1) * invMod ecP (x2 + ecP - x1) % ecP
      let x := (l * l + 2 * ecP - x1 - x2) % ecP
      some (x, (l * (x1 + ecP - x) + ecP - y1) % ecP)

/-- A multiple of a point. -/
def ecMul : Nat → Nat → Option (Nat × Nat) → Option (Nat × Nat)
  | 0, _, _ => none
  | fuel + 1, k, p =>
    if k = 0 then none
    else
      let r := ecMul fuel (k / 2) (ecAdd p p)
      if k % 2 = 1 then ecAdd r p else r

/-- Whether a public key is a point of the curve. -/
def ecValid (x y : Nat) : Bool := x < ecP && y < ecP && y * y % ecP = (x * x * x + (ecP - 3) * x + ecB) % ecP

/-- Whether `sig` (r, then s) signs a digest of 48 bytes under a public key of 96 bytes, x first. -/
def ecdsaVerify (key digest sig : List Byte) : Bool :=
  let x := ofBE (key.take 48)
  let y := ofBE (slice key 48 48)
  let r := ofBE (sig.take 48)
  let s := ofBE (slice sig 48 48)
  if key.length ≠ 96 || sig.length ≠ 96 || !ecValid x y || r = 0 || r ≥ ecN || s = 0 || s ≥ ecN then false
  else
    let w := invMod ecN s
    match ecAdd (ecMul 384 (ofBE digest * w % ecN) ecG) (ecMul 384 (r * w % ecN) (some (x, y))) with
    | none => false
    | some (px, _) => px % ecN = r

end Sys2Proof.Machine
end

