-- ==== Sys2Proof/Machine/Reels.lean ====
section
/-! DEFINITION. Chapter 12: figures and gates on the wall view, windows, the fit test, start times, switches, and how a
reel follows the time base. -/

namespace Sys2Proof.Machine

/-- End of each figure within the cycle; the last lasts to the cycle's end (R346). -/
def figureEnds (r : Reel) : List Nat :=
  let rec go (sum : Nat) : List (Nat × Nat) → List Nat
    | [] => []
    | [_] => [r.cycle]
    | f :: l => (sum + f.2) :: go (sum + f.2) l
  go 0 r.figures

/-- p of R346: where wall-view time `w` lies in the cycle. -/
def reelPhase (r : Reel) (w : Nat) : Nat := (((w : Int) - r.start) % (max 1 r.cycle : Nat)).toNat

/-- Index of the figure in force at wall-view time `w` (R346). -/
def figureAt (r : Reel) (w : Nat) : Nat :=
  let p := reelPhase r w
  ((figureEnds r).filter (· ≤ p)).length

/-- Gates at `w`, ungated classes open (R346, R347). -/
def reelGates (r : Reel) (w : Nat) : Nat := (r.figures.getD (figureAt r w) (0xFF, 0)).1 ||| (0xFF - r.gated % 256)

/-- The first figure boundary after `w`. -/
def nextBoundary (r : Reel) (w : Nat) : Nat :=
  let p := reelPhase r w
  w + ((figureEnds r).getD (figureAt r w) r.cycle - p)

/-- MAXWIN of class `k` (R354): none where the class is open in every figure. -/
def maxWin (r : Reel) (k : Nat) : Option Nat :=
  let lens := (figureEnds r).zipIdx.map fun (e, j) => e - (if j = 0 then 0 else (figureEnds r).getD (j - 1) 0)
  let ws := (r.figures.zip lens).map fun (f, n) => (f.1.testBit k, n)
  if ws.all (·.1) then none
  else
    let (best, _) := (ws ++ ws).foldl (fun (best, run) (o, n) =>
      let run := if o then run + n else 0
      (max best run, run)) (0, 0)
    some best

/-- The close of class `k` after `w`, across a pending switch; none where the class has none (R356). -/
def closeAfter (cur pend : Option Reel) (k : Nat) : Nat → Nat → Option Nat
  | 0, _ => none
  | fuel + 1, w =>
    let live := match pend with
      | some q => if q.start ≤ w then (if q.figures.isEmpty then none else pend) else cur
      | none => cur
    let waits : Option Reel := pend.filter fun q => w < q.start
    let b := match live, waits with
      | some r, some q => some (if (maxWin r k).isNone then q.start else min (nextBoundary r w) q.start)
      | some r, none => some (nextBoundary r w)
      | none, some q => some q.start
      | none, none => none
    match b with
    | none => none
    | some b =>
      let at_ : Option Reel := match pend with
        | some q => if q.start ≤ b then (if q.figures.isEmpty then none else pend) else cur
        | none => cur
      match at_ with
      | some r => if (reelGates r b).testBit k then closeAfter cur pend k fuel b else some b
      | none => closeAfter cur pend k fuel b

/-- What the fit test of R356 says of a head. -/
inductive Fit where
  | yes | preempt | no
deriving DecidableEq, Repr

namespace Dev

/-- Reel slots of an interface. -/
def reels (d : Dev) (i : Nat) : ReelPort := Map.getD d.sched.reels i {}

/-- Those slots changed. -/
def setReels (d : Dev) (i : Nat) (f : ReelPort → ReelPort) : Dev :=
  { d with sched := { d.sched with reels := Map.upd d.sched.reels i {} f } }

/-- The wall view in whole ns, as last distributed. -/
def wallTotal (d : Dev) : Nat := d.time.distWall / 2 ^ 24

/-- MODE of SCH_REEL_STATUS (R363, R365, R367). -/
def reelMode (d : Dev) (i : Nat) : Nat :=
  let r := d.reels i
  if r.cur.isNone || !d.flag (schBase i + 0x300) 0 then 0
  else if r.broken then 3
  else match d.time.st with
    | .unknown => 2
    | .coasted => if d.flag (schBase i + 0x304) 0 then 1 else 2
    | .locked => 1

/-- Gates in force at the ball. -/
def gatesNow (d : Dev) (i : Nat) : Nat :=
  match (d.reels i).cur with
  | none => 0xFF
  | some r =>
    match d.reelMode i with
    | 0 => 0xFF
    | 1 => reelGates r d.wallTotal
    | _ => 0xFF - r.gated % 256

/-- Whether gate `k` of an interface is open (R315, R347). -/
def gateOpen (d : Dev) (i k : Nat) : Bool := (d.gatesNow i).testBit k

/-- Trained rate of an interface in Gb/s. -/
def rateOf (d : Dev) (i : Nat) : Nat :=
  match (d.port i).speed with
  | 1 => 100
  | 2 => 200
  | 3 => 400
  | 4 => 800
  | _ => 0

/-- Whether class `k` of an interface is preemptable (R86, R356). -/
def preemptable (d : Dev) (i k : Nat) : Bool := (d.port i).preActive && (d.fld (portBase i + 0x14) 7 0).testBit k

/-- Whether the reel governs class `k` of the interface at this moment. -/
def governed (d : Dev) (i k : Nat) : Bool :=
  match (d.reels i).cur with
  | none => false
  | some r => r.gated.testBit k && d.reelMode i = 1

/-- Figures to look through for a close. -/
def reelFuel (r : ReelPort) : Nat :=
  2 * (((r.cur.map (·.figures.length)).getD 0) + ((r.pend.map (·.figures.length)).getD 0)) + 4

/-- R356: the fit test of a head of class `k` with `lw` bytes on the wire. -/
def fit (d : Dev) (i k lw : Nat) : Fit :=
  if !d.governed i k then .yes else
  let r := d.reels i
  let t := d.wallTotal
  match closeAfter r.cur r.pend k (reelFuel r) t with
  | none => .yes
  | some c =>
    let rate := d.rateOf i
    let guard := d.fld (schBase i + 0x300) 15 8
    let ends (n : Nat) : Bool := (t + guard) * rate + (n + 8) * 8 ≤ c * rate
    if ends lw then .yes
    else if d.preemptable i k && ends ((d.fld (portBase i + 0x14) 9 8 + 1) * 64) then .preempt
    else .no

/-- R358: whether a head of class `k` can never fit a window of the reel in force. -/
def neverFits (d : Dev) (i k lw : Nat) : Bool :=
  match (d.reels i).cur with
  | none => false
  | some r =>
    d.governed i k && !d.preemptable i k &&
      match maxWin r k with
      | none => false
      | some 0 => false
      | some m => (lw + 8) * 8 + d.fld (schBase i + 0x300) 15 8 * d.rateOf i > m * d.rateOf i

/-- Class nodes and queues of the classes in `mask` put to sleep, so that they wake at the next choice (R329, R347). -/
def sleepClasses (d : Dev) (i mask : Nat) : Dev :=
  let qs := (d.queuesOf i).filter fun q => mask.testBit (q % 8)
  qs.foldl (fun d q =>
    d.setQueue q fun x => { x with awake := false }) d

/-- No head is held to the end of its window any more: the windows have moved (R363, R364). -/
def forgetHeld (d : Dev) (i : Nat) : Dev :=
  (d.queuesOf i).foldl (fun d q => if (d.queue q).holdNo then d.setQueue q fun x => { x with holdNo := false } else d) d

/-- Events of an interface whose reel mode was `a` (R367). -/
def modeEvents (d : Dev) (i a : Nat) : Dev :=
  let b := d.reelMode i
  if a < 2 && b ≥ 2 then d.event (schBase i + 0x30C) 2
  else if a ≥ 2 && b < 2 then d.event (schBase i + 0x30C) 3 else d

/-- The counts of R357 and R359 at the closes of a boundary: queues whose head was held, and a frame that the close
suspends. -/
def countCloses (d : Dev) (i closing : Nat) : Dev :=
  let qs := (d.queuesOf i).filter fun q => closing.testBit (q % 8) && (d.queue q).holdNo
  qs.foldl (fun d q =>
    let stays := !(d.queue q).items.isEmpty
    let d := d.setQueue q fun x =>
      { x with holdNo := false, holdOverrun := if stays then satAdd 32 x.holdOverrun 1 else x.holdOverrun }
    if stays then d.bump (schBase i + 0x380 + 16 * (q % 8)) else d) d

/-- R359: a preemptable frame in transmission whose class closes is suspended at the ball. -/
def suspendAtClose (d : Dev) (i closing : Nat) : Dev :=
  match Map.get? d.sched.sending i with
  | none => d
  | some w =>
    let q := w.desc.queue
    let k := q % 8
    if closing.testBit k && d.preemptable i k then
      let s := d.sched
      let d := { d with sched := { s with sending := Map.erase s.sending i, held := Map.put s.held i w,
                                          sendEnd := Map.erase s.sendEnd i } }
      let d := d.setQueue q fun x => { x with holdOverrun := satAdd 32 x.holdOverrun 1 }
      d.bump (schBase i + 0x388 + 16 * k)
    else d

/-- Gates seen anew at the ball: closes counted, and classes that open put to sleep so that they wake (R346, R357). -/
def seeGates (d : Dev) (i : Nat) : Dev :=
  let old := (d.reels i).gates
  let new := d.gatesNow i
  let closing := old &&& (0xFF - new)
  let opening := new &&& (0xFF - old)
  let d := if d.reelMode i = 1 then (d.countCloses i closing).suspendAtClose i closing else d
  (d.setReels i fun r => { r with gates := new }).sleepClasses i opening

/-- R360: a suspended frame whose class has no further opening is ended. -/
def endSuspended (d : Dev) (i : Nat) : Dev :=
  match Map.get? d.sched.held i with
  | none => d
  | some w =>
    let k := w.desc.queue % 8
    let noOpening := match (d.reels i).cur with
      | none => true
      | some r => r.gated.testBit k && maxWin r k = some 0
    if noOpening then
      let s := d.sched
      let bytes := d.chainBytes w.desc.chain w.desc.gen
      let inv := (fcs bytes).map fun x => x ^^^ 0xFF
      let d := { d with sched := { s with held := Map.erase s.held i }, out := d.out ++ [Emission.frame i (bytes ++ inv) true] }
      ((d.endWaiting w 0x81).bump (schBase i + 0x348)).event (schBase i + 0x30C) 7
    else d

/-- R352: the pending reel takes the place of the reel in force. -/
def switchReel (d : Dev) (i : Nat) : Dev :=
  match (d.reels i).pend with
  | none => d
  | some r =>
    let cur := if r.figures.isEmpty then none else some r
    let mode := d.reelMode i
    let d := (d.setReels i fun x => { x with cur := cur, pend := none, broken := false }).modeEvents i mode
    let d := if d.reelMode i = 1 then d else d.forgetHeld i
    (((d.event (schBase i + 0x30C) 0).bump (schBase i + 0x330)).endSuspended i).seeGates i

/-- R352: the switch made once the wall view has reached S. -/
def switchIfDue (d : Dev) (i : Nat) : Dev :=
  match (d.reels i).pend with
  | none => d
  | some r => if r.start ≤ d.wallTotal then d.switchReel i else d

/-- R351: a newly committed reel becomes pending, and its start time is fixed. -/
def pendReel (d : Dev) (i : Nat) (r : Reel) : Dev :=
  let lead := max 1 (d.fld (schBase i + 0x300) 25 16) * 1000
  let t := d.wallTotal
  let n := if r.figures.isEmpty then 0 else if r.start < t + lead then (t + lead - r.start + r.cycle - 1) / r.cycle else 0
  let s := if r.figures.isEmpty then t + lead else r.start + n * r.cycle
  let d := d.setReels i fun x =>
    { x with pend := some { r with start := s }, atNs := s, lateN := min n (2 ^ 32 - 1) }
  if n > 0 then d.event (schBase i + 0x30C) 1 else d

/-- Events and wakes of the interfaces whose reel mode differs from what `old` had (R363, R365). -/
def noteModes (d : Dev) (old : Dev) : Dev :=
  (Map.keys d.sched.reels).foldl (fun d i =>
    let a := old.reelMode i
    let b := d.reelMode i
    if a = b then d
    else
      let d := (d.modeEvents i a).forgetHeld i
      let new := d.gatesNow i
      let opening := new &&& (0xFF - (d.reels i).gates)
      (d.setReels i fun r => { r with gates := new }).sleepClasses i opening) d

/-- R364: a step of the wall view followed by every reel; the close of a frame on the wire is computed anew. -/
def followStep (d : Dev) : Dev :=
  (Map.keys d.sched.reels).foldl (fun d i =>
    let r := d.reels i
    if r.cur.isNone && r.pend.isNone then d else
    let d := (d.event (schBase i + 0x30C) 4).bump (schBase i + 0x338)
    let busy := Map.has d.sched.sending i
    let d := (d.setReels i fun r => { r with stepped := busy }).forgetHeld i
    let d := d.switchIfDue i
    let d := match Map.get? d.sched.sending i, Map.get? d.sched.sendEnd i with
      | some w, some _ =>
        let r := d.reels i
        let k := w.desc.queue % 8
        let c := if d.gateOpen i k then closeAfter r.cur r.pend k (reelFuel r) d.wallTotal else some d.wallTotal
        { d with sched := { d.sched with sendEnd := match c with
          | some c => Map.put d.sched.sendEnd i c
          | none => Map.erase d.sched.sendEnd i } }
      | _, _ => d
    let new := d.gatesNow i
    let opening := new &&& (0xFF - (d.reels i).gates)
    (d.setReels i fun r => { r with gates := new }).sleepClasses i opening) d

/-- R365: an uncorrectable figure memory read closes the interface's reel. -/
def figureError (d : Dev) (i : Nat) (inj : Bool) : Dev :=
  let old := d
  let d := (d.raiseAs (srcHalf (halfOf i)) 0x7020 [] inj true).event (schBase i + 0x30C) 5
  (d.setReels i fun r => { r with broken := true }).noteModes old

/-- R365: the steward places the reel again; `poisoned` says that its tile's pages are. -/
def reelReplaced (d : Dev) (i : Nat) (poisoned : Bool) : Dev :=
  if !(d.reels i).broken then d
  else if poisoned then (d.raise (srcHalf (halfOf i)) 0x7022).event (schBase i + 0x30C) 5
  else (d.setReels i fun r => { r with broken := false }).noteModes d

end Dev

end Sys2Proof.Machine
end

