-- ==== Sys2Proof/Machine/ProgCheck.lean ====
section
/-! DEFINITION. What PROG tiles hold (R376, R378, R380): the fields of microwords and nanowords, and the loader's checks
of R377. -/

namespace Sys2Proof.Machine

/-! ### Fields -/

/-- Microword `n` of a program. -/
def Prog.micro? (p : Prog) (n : Nat) : Option Nat := p.micro[n]?

/-- SAFE. -/
def mSafe (m : Nat) : Bool := m.testBit 63
/-- SEQ. -/
def mSeq (m : Nat) : Nat := bits m 62 60
/-- COND. -/
def mCond (m : Nat) : Nat := bits m 59 55
/-- TARGET. -/
def mTarget (m : Nat) : Nat := bits m 53 42
/-- NANO. -/
def mNano (m : Nat) : Nat := bits m 41 33
/-- RD. -/
def mRd (m : Nat) : Nat := bits m 32 28
/-- RA. -/
def mRa (m : Nat) : Nat := bits m 27 23
/-- RB. -/
def mRb (m : Nat) : Nat := bits m 22 18
/-- IMM. -/
def mImm (m : Nat) : Nat := bits m 15 0
/-- UNIT of a nanoword. -/
def nUnit (n : Nat) : Nat := bits n 63 60
/-- OP of a nanoword. -/
def nOp (n : Nat) : Nat := bits n 59 54

/-- How many operations each unit has (R381); a NOP has OP 0. -/
def unitOps : List Nat := [1, 9, 7, 6, 3, 5, 6, 5, 2, 5]

/-- Whether UNIT and OP name an operation. -/
def opValid (n : Nat) : Bool := nOp n < unitOps.getD (nUnit n) 0

/-- Whether an operation is journalled (column J of R381). -/
def journalled (n : Nat) : Bool :=
  match nUnit n with
  | 3 => nOp n ≥ 4
  | 5 => nOp n ≥ 2
  | 6 => nOp n ≥ 1
  | 7 => true
  | 9 => nOp n ≥ 2
  | _ => false

/-- The nanoword of a microword. -/
def Prog.nanoOf (p : Prog) (m : Nat) : Nat := p.nano.getD (mNano m) 0

/-- Entry `k` of jump table `t`; none where it is invalid. -/
def Prog.jump (p : Prog) (t k : Nat) : Option Nat :=
  let e := (p.jumps.getD t []).getD k 0
  if e.testBit 31 then some (bits e 11 0) else none

/-- The first microword for a class; none without a valid ENTRY. -/
def Prog.entryOf (p : Prog) (cls : Nat) : Option Nat :=
  let e := p.entry.getD cls 0
  if e.testBit 31 then some (bits e 11 0) else none

/-- TRAP_VEC, where a handler exists. -/
def Prog.trapVec (p : Prog) : Option Nat :=
  let e := p.hdr.getD 2 0
  if e.testBit 31 then some (bits e 11 0) else none

/-! ### The body of R376 -/

/-- Pairs of words as 64-bit words, high word first. -/
def pairUp : List Nat → List Nat
  | a :: b :: l => (a * 2 ^ 32 + b) :: pairUp l
  | _ => []

/-- `n` groups of 16 words. -/
def groups16 : Nat → List Nat → List (List Nat)
  | 0, _ => []
  | n + 1, l => l.take 16 :: groups16 n (l.drop 16)

/-- The program that a body's words spell. -/
def progOf (w : List Nat) : Prog :=
  let m := bits (word w 0) 12 0
  let n := bits (word w 1) 9 0
  let j := bits (word w 3) 4 0
  { hdr := w.take 16, entry := (w.drop 16).take 16, jumps := groups16 j (w.drop 32),
    micro := pairUp ((w.drop (32 + 16 * j)).take (2 * m)), nano := pairUp ((w.drop (32 + 16 * j + 2 * m)).take (2 * n)) }

/-! ### Paths (R377) -/

/-- A place on a path: microword address and call stack. -/
abbrev Place := Nat × List Nat

/-- Where control goes from a microword; none where a call goes deeper than 8 or a return finds no call. -/
def Prog.succ (p : Prog) (pl : Place) : Option (List Place) :=
  match p.micro? pl.1 with
  | none => some []
  | some m =>
    match mSeq m with
    | 0 => some [(pl.1 + 1, pl.2)]
    | 1 => some [(mTarget m, pl.2)]
    | 2 => some [(pl.1 + 1, pl.2), (mTarget m, pl.2)]
    | 3 => if pl.2.length ≥ 8 then none else some [(mTarget m, (pl.1 + 1) :: pl.2)]
    | 4 => match pl.2 with
      | [] => none
      | a :: l => some [(a, l)]
    | 5 => some (((List.range 16).filterMap (p.jump (mTarget m % 16))).map fun a => (a, pl.2))
    | _ => some []

/-- A place reached with a count of journalled operations, merged into a layer. -/
def layerAdd (l : List (Place × Nat)) (e : Place × Nat) : List (Place × Nat) :=
  match l.find? (·.1 == e.1) with
  | some f => if e.2 ≤ f.2 then l else e :: l.filter (·.1 != e.1)
  | none => e :: l

/-- The stretch from a layer of places: the safe points it reaches, or none where a path is too long, journals too much
or misuses the call stack. `n` microwords are left. -/
def Prog.stretch (p : Prog) : Nat → List (Place × Nat) → Option (List Place)
  | _, [] => some []
  | 0, _ => none
  | n + 1, l => do
    let outs ← l.mapM fun e => do
      let j := e.2 + match p.micro? e.1.1 with
        | some m => b2n (journalled (p.nanoOf m))
        | none => 0
      if j > 16 then none else
      let s ← p.succ e.1
      pure (s.map fun x => (x, j))
    let next := outs.flatten
    let isSafe (x : Place × Nat) : Bool := (p.micro? x.1.1).any mSafe
    let rest ← p.stretch n ((next.filter fun x => !isSafe x).foldl layerAdd [])
    pure ((next.filter isSafe).map (·.1) ++ rest)

/-- Every stretch from the places of a list, and from the safe points they reach. -/
def Prog.stretches (p : Prog) : Nat → List Place → List Place → Bool
  | _, _, [] => true
  | 0, _, _ => false
  | fuel + 1, seen, x :: todo =>
    if seen.contains x then p.stretches fuel seen todo
    else match p.stretch 256 [(x, 0)] with
      | none => false
      | some l => p.stretches fuel (x :: seen) (l ++ todo)

/-- The microwords of a list that lead to another of the list: what remains of a cycle. -/
def Prog.prune (p : Prog) : Nat → List Nat → List Nat
  | 0, l => l
  | n + 1, l =>
    let l' := l.filter fun a => ((p.succ (a, [0])).getD []).any fun s => l.contains s.1
    if l'.length = l.length then l else p.prune n l'

/-- Whether every cycle has a safe point. -/
def Prog.cyclesSafe (p : Prog) : Bool :=
  let bare := (List.range p.micro.length).filter fun a =>
    (p.micro? a).any fun m => !mSafe m && mSeq m != 4
  (p.prune (p.micro.length + 1) bare).isEmpty

/-- The checks of R377 on a body's words. -/
def progOk (w : List Nat) (bodyLen scope : Nat) : Bool :=
  let p := progOf w
  let m := bits (word w 0) 12 0
  let n := bits (word w 1) 9 0
  let j := bits (word w 3) 4 0
  let zero (l : List Nat) : Bool := l.all (· == 0)
  let target (e : Nat) : Bool := bits e 30 12 = 0 && (!e.testBit 31 || bits e 11 0 < m)
  let safeAt (a : Nat) : Bool := (p.micro? a).any mSafe
  let starts := p.trapVec.toList ++ (List.range 16).filterMap p.entryOf
  (scope ≤ 63 || scope = 0xFF) && bodyLen = 128 + 64 * j + 8 * m + 8 * n
    && 1 ≤ m && m ≤ 4096 && 1 ≤ n && n ≤ 512 && j ≤ 16
    && bits (word w 0) 31 13 = 0 && bits (word w 1) 31 10 = 0 && target (word w 2) && bits (word w 3) 31 5 = 0
    && zero ((w.take 16).drop 4) && p.entry.all target && p.jumps.all (·.all target)
    && p.micro.all (fun x =>
      mSeq x ≤ 6 && mCond x ≤ 18 && bits x 17 16 = 0 && mNano x < n
        && (!(1 ≤ mSeq x && mSeq x ≤ 3) || mTarget x < m)
        && (!(nUnit (p.nanoOf x) = 9 && nOp (p.nanoOf x) = 0) || (1 ≤ mRd x && mRd x ≤ 30)))
    && p.nano.all (fun x => opValid x && bits x 36 0 = 0)
    && starts.all safeAt && p.cyclesSafe
    && p.stretches (2 ^ 20) [] (starts.map fun a => (a, []))

end Sys2Proof.Machine
end

