-- ==== Sys2Proof/Machine/TileChecks.lean ====
section
/-! DEFINITION. Check 6 of R261: what the loader refuses of each kind of tile (R115, R166, R182, R253, R350, R704), and
the images that bodies spell. -/

namespace Sys2Proof.Machine

/-- Whether the bits of `mask` are 0 in a word. -/
def clear (w mask : Nat) : Bool := w &&& mask = 0

/-! ### PARSE (R115) -/

/-- Reserved bits of a node's words. -/
def nodeReserved : List Nat :=
  [0x7FFFF, 0xF, 0xF, 0x1FC00] ++ List.replicate 8 0 ++ List.replicate 4 0x7C007C00 ++ List.replicate 8 0x1FFF
    ++ List.replicate 7 0xFFFFFFFF ++ [0xFFFFFC00]

/-- One node of a graph of `n` nodes. -/
def nodeOk (n i : Nat) (w : List Nat) : Bool :=
  let w0 := word w 0
  let w1 := word w 1
  let w2 := word w 2
  let w3 := word w 3
  (w.zip nodeReserved).all (fun e => clear e.1 e.2) && w.length = 32
    && bits w0 25 23 ≤ 4 && bits w0 21 20 ≤ 2 && bits w1 31 30 ≤ 2 && bits w2 13 12 ≤ 2
    && (bits w0 31 30 ≥ 2 || bits w0 29 26 = 0)
    && bits w1 17 13 ≤ 16 && (bits w1 31 30 = 0 || bits w1 17 13 ≠ 0)
    && bits w2 31 23 ≤ bits w2 22 14 && bits w3 21 17 ≤ 16 && bits w3 9 0 < n
    && ((w.drop 12).take 4).all (fun x => (!x.testBit 31 || bits x 25 16 < n) && (!x.testBit 15 || bits x 9 0 < n))
    && ((w.drop 16).take 8).all (fun x => bits x 24 20 ≤ 16 && bits x 19 13 + bits x 24 20 ≤ 128)
    && word w 31 = i

/-- The graph that a body's words spell. -/
def graphOf (w : List Nat) : Graph :=
  let rec go : Nat → List Nat → List (List Nat)
    | 0, _ => []
    | n + 1, l => l.take 32 :: go n (l.drop 32)
  ⟨w.take 8, go (bits (word w 0) 20 10) (w.drop 8)⟩

/-- The checks of R115. -/
def graphOk (w : List Nat) (len : Nat) : Bool :=
  let n := bits (word w 0) 20 10
  let g := graphOf w
  n ≤ 1024 && len = 32 + 128 * n
    && ((w.take 8).zip [0xFFE00000, 0xFFF00000, 0xFFFC030F, 0x1FFFFF, 0xFFFFFFFF, 0xFFFFFFFF, 0xFFFFFFFF, 0xFFFFFFFF]).all
      (fun e => clear e.1 e.2)
    && bits (word w 0) 9 0 < n && bits (word w 1) 19 10 < n && bits (word w 1) 9 0 < n
    && [16, 14, 12, 10].all (fun b => bits (word w 2) (b + 1) b ≤ 2)
    && bits (word w 3) 24 21 ≤ 8 && bits (word w 3) 31 25 + bits (word w 3) 24 21 ≤ 128
    && (g.nodes.zipIdx).all fun e => nodeOk n e.2 e.1

/-! ### Key templates (R145) -/

/-- A segment of a key template whose key has `size` bytes. -/
def segOk (size w : Nat) : Bool :=
  bits w 11 0 = 0 && (bits w 23 19 = 0
    || (bits w 18 12 + bits w 23 19 ≤ size && bits w 30 24 + bits w 23 19 ≤ if w.testBit 31 then 32 else 128))

/-! ### BANK and LPM (R704) -/

/-- A body's banks, which it gives by their slots in the group (R144), as the logical banks of a course. -/
def bankOf (scope : Nat) (b : BankImage) : BankImage :=
  { b with entries := b.entries.map fun e => { e with lb := 4 * scope + e.lb % 4 },
           widths := b.widths.foldl (fun m e => Map.put m (4 * scope + e.1 % 4) e.2) [] }

/-- The checks of R704 on a BANK tile. -/
def bankOk (b : BankImage) (scope : Nat) : Bool :=
  let width (w : Nat) : Bool := w = 1 || w = 2 || w = 4
  scope ≤ 15 && b.profiles.all (·.all fun p => p % 2 = 0) && b.templates.all (·.all (segOk 80))
    && b.widths.all (fun e => width e.2)
    && b.entries.all (fun e => width e.width && Map.getD b.widths e.lb e.width = e.width && e.unit % e.width = 0
      && e.key.length = 20 * e.width && e.mask.length = 20 * e.width)
    && (b.entries.zipIdx).all fun e => (b.entries.drop (e.2 + 1)).all fun f =>
      e.1.lb ≠ f.lb || e.1.unit + e.1.width ≤ f.unit || f.unit + f.width ≤ e.1.unit

/-- Routes of one version in an image. -/
def routesOf (v6 : Bool) (l : List Route) : Nat := (l.filter (·.v6 == v6)).length

/-- Whether an image is within the limits of R211. -/
def routesFit (l : List Route) : Bool := routesOf false l ≤ 2097152 && routesOf true l ≤ 1048576

/-- The checks of R704 on an LPM tile. -/
def lpmOk (l : LpmImage) (scope base : Nat) (delta : Bool) : Bool :=
  let len (r : Route) : Bool := r.len ≤ if r.v6 then 128 else 32
  scope = 0xFF && (delta || base = 0) && l.full != delta && l.routes.all len && l.removed.all len
    && (if delta then l.routes.length + l.removed.length ≤ 262144 else routesFit l.routes)

/-! ### AUTO (R166) -/

/-- The checks of R166 on an AUTO tile alone. -/
def autoOk (a : AutoImage) : Bool :=
  let state (w : List Nat) : Bool :=
    let w0 := word w 0
    let w1 := word w 1
    let dense := bits w0 31 30 = 1
    bits w0 31 30 ≤ 1 && bits w0 25 24 = 0 && bits w1 27 24 = 0 && bits w1 31 28 ≤ 8
      && (bits w1 31 28 = 0 || bits w1 23 0 + bits w1 31 28 ≤ a.matchList.length)
      && (if dense then bits w0 23 0 + 8 ≤ a.size
          else bits w0 28 26 ≤ 6 && bits w0 23 0 < a.size
            && ((w.drop 2).take (bits w0 28 26)).all (fun x => bits x 23 0 < a.size))
      && ((w.drop 2).take 6).all fun x => bits x 25 24 = 0
  a.states.all (fun e => e.1 < a.size && state e.2)
    && a.dense.all (fun e => e.2 < a.size)
    && a.matchList.all (fun m => bits m 13 0 = 0 && bits m 15 14 ≤ 2 && bits m 31 16 < a.patterns)
    && a.sets.length ≤ 256
    && a.sets.all (fun s =>
      (s.desc.zip ([0xFF000000, 0x3FC01FF, 0xFFFFC000, 0] ++ List.replicate 12 0xFFFFFFFF)).all (fun e => clear e.1 e.2)
        && bits (word s.desc 0) 23 0 < a.size && bits (word s.desc 1) 31 30 ≤ 2 && s.map.length = 256 && s.map.all (· ≤ 63))

/-- PIN states of an image. -/
def autoPins (a : AutoImage) : Nat := (a.states.filter fun e => (word e.2 0).testBit 29).length

/-- The limits of R166 over the images of two epochs. -/
def autoFits (a b : AutoImage) : Bool :=
  a.size + b.size ≤ 2 ^ 24 && a.patterns + b.patterns ≤ 65536 && autoPins a + autoPins b ≤ 32768

/-! ### POLICY (R182) -/

/-- The checks of R182. -/
def policyOk (p : Policy) : Bool :=
  let within (en : Bool) (x hi n : Nat) : Bool := !en || bits x hi (hi - 6) + n ≤ 128
  p.profiles.all (fun x =>
    let a := if x.testBit 56 then 16 else 4
    let l2 := x.testBit 60
    let learn := x.testBit 59
    let dst := x.testBit 58
    let src := x.testBit 57
    bits x 13 0 = 0 && within (l2 || learn) x 55 2 && within l2 x 48 6 && within learn x 41 6
      && within (dst || src) x 34 2 && within dst x 27 a && within src x 20 a)
    && p.keys.all (·.all (segOk 40))
    && p.lists.all fun l => (List.range 8).all (fun k => bits (word l 0) (4 * k + 3) (4 * k) ≤ 8) && word l 6 = 0 && word l 7 = 0

/-! ### ACT (R253) -/

/-- Entries that a chain of NEXT from entry `n` executes, up to five. -/
def chainLen (a : ActImage) : Nat → Nat → Nat
  | 0, _ => 0
  | f + 1, n =>
    let w := word (Map.getD a.entries n []) 0
    if bits w 19 18 = 1 then 1 + chainLen a f (bits w 16 0) else 1

/-- A rewrite operation of an image. -/
def opOk (a : ActImage) (o : Nat) : Bool :=
  let k := bits o 31 28
  k ≤ 7 && (!(k = 1 || k = 4 || k = 6) || Map.has a.templates (bits o 12 0)) && (k ≠ 7 || bits o 1 0 ≤ 1)

/-- An action entry (R232). -/
def entryOk (a : ActImage) (w : List Nat) : Bool :=
  let w0 := word w 0
  let w1 := word w 1
  let w3 := word w 3
  let dest := bits w0 28 27
  (w.zip [0x20000, 1, 7, 0x1FF, 0x7FFF0000, 0xFFFFFFFF, 0xFFFFFFFF, 0xFFFFFFFF]).all (fun e => clear e.1 e.2)
    && bits w0 31 29 ≤ 3 && dest ≤ 2 && bits w0 19 18 ≤ 2
    && (bits w0 19 18 ≠ 1 || bits w0 16 0 < a.nEntries)
    && (!(dest = 2 || (dest = 1 && w1.testBit 1)) || Map.has a.groups (bits w1 15 2))
    && (!w3.testBit 31 || Map.has a.mirrors (bits w3 30 23))
    && (w.drop 8).all (opOk a)

/-- The checks of R253. -/
def actOk (a : ActImage) : Bool :=
  let edit (w : Nat) : Bool := !w.testBit 14 || Map.has a.edits (bits w 13 0)
  a.nEntries ≤ 131072 && a.entries.all (fun e => e.1 < a.nEntries && entryOk a e.2 && chainLen a 5 e.1 ≤ 4)
    && a.templates.all (fun e =>
      let w := word e.2.desc 0
      let n := bits w 31 24
      let off (x : Nat) : Bool := x = 0xFF || x < n
      n ≤ 160 && off (bits w 23 16) && off (bits w 15 8) && bits w 7 6 ≤ 2 && bits w 3 0 = 0
        && (e.2.desc.drop 2).all (· == 0))
    && a.groups.all (fun e => bits e.2 25 18 = 0
      && (List.range (bits e.2 31 26 + 1)).all fun k => Map.has a.members (bits e.2 17 0 + k))
    && a.members.all (fun e => edit e.2) && a.mirrors.all (fun e => edit e.2.1 && bits e.2.2 13 0 = 0)
    && a.edits.all fun e => e.2.length ≤ 4 && e.2.all fun o =>
      opOk a o && [0, 1, 4, 5, 6].contains (bits o 31 28) && [0, 2].contains (bits o 27 25)

/-! ### REEL (R350) -/

/-- The reel that a body's words spell (R349), its base time as its start. -/
def reelOf (w : List Nat) (handle tileId : Nat) : Reel :=
  let rec figs : Nat → List Nat → List (Nat × Nat)
    | 0, _ => []
    | n + 1, l => (bits (word l 0) 31 24, word l 1) :: figs n (l.drop 2)
  { tileId, handle, gated := bits (word w 0) 31 24,
    start := ((word w 1 % 65536) * 2 ^ 32 + word w 2) * 1000000000 + bits (word w 3) 29 0,
    cycle := word w 4, figures := figs (bits (word w 0) 10 0) (w.drop 8) }

/-- The checks of R350. -/
def reelOk (w : List Nat) (len scope : Nat) : Bool :=
  let n := bits (word w 0) 10 0
  let r := reelOf w 0 0
  isIface scope && len = 32 + 8 * n && n ≤ 1024
    && bits (word w 0) 23 11 = 0 && bits (word w 1) 31 16 = 0 && bits (word w 3) 31 30 = 0
    && word w 5 = 0 && word w 6 = 0 && word w 7 = 0
    && (List.range n).all (fun k => bits (word w (8 + 2 * k)) 23 0 = 0)
    && bits (word w 3) 29 0 ≤ 999999999
    && (if n = 0 then word w 0 = 0 && word w 1 = 0 && word w 2 = 0 && word w 3 = 0 && word w 4 = 0
        else 1000 ≤ r.cycle && r.cycle ≤ 1000000000 && r.figures.all (fun f => 64 ≤ f.2)
          && r.figures.foldl (fun s f => s + f.2) 0 ≤ r.cycle)

/-! ### Every kind -/

/-- The image of a body that passes check 6. -/
def loadImage (kind scope base : Nat) (delta : Bool) (body : List Byte) : Option Image :=
  let w := leWords (body.length / 4) body
  match kind with
  | 1 => if graphOk w body.length then some (.parse (graphOf w)) else none
  | 2 => (((Config.bankBody body).map (bankOf scope)).filter fun b => bankOk b scope).map .bank
  | 3 => ((Config.autoBody body).filter autoOk).map .auto
  | 4 => ((Config.actBody body).filter actOk).map .act
  | 5 => if reelOk w body.length scope then some (.reel w) else none
  | 6 => if progOk w body.length scope then some (.prog (progOf w)) else none
  | 7 => ((Config.lpmBody body).filter fun l => lpmOk l scope base delta).map .lpm
  | 8 => ((Config.policyBody body).filter policyOk).map .policy
  | _ => none

end Sys2Proof.Machine
end

