-- ==== Sys2Proof/Machine/Tiles.lean ====
section
/-! DEFINITION. The tile store and the state region (R259 to R265): handles, their pages, sealing, and what a handle in
use stays LIVE for. -/

namespace Sys2Proof.Machine

/-- The region of a kind (R262): 1 the state region, 0 the tile store. -/
def regionOf (kind : Nat) : Nat := if kind = 3 then 1 else 0

/-- Whether a SCOPE is one of R258 for a kind; the codes of a REEL tile are judged at sealing (R350). -/
def scopeOk (kind scope : Nat) : Bool :=
  match kind with
  | 2 => scope ≤ 15
  | 5 => scope ≤ 255
  | 6 => scope ≤ 63 || scope = 0xFF
  | _ => 1 ≤ kind && kind ≤ 8 && scope = 0xFF

/-- Bytes of a tile's pages. -/
def Tile.bytes (t : Tile) (off n : Nat) : List Byte := (List.range n).map fun i => Map.getD t.mem (off + i) 0

/-- Header word `i` of a tile. -/
def Tile.word (t : Tile) (i : Nat) : Nat := ofLE (t.bytes (4 * i) 4)

/-- BODY_LEN. -/
def Tile.bodyLen (t : Tile) : Nat := t.word 3

/-- The body. -/
def Tile.body (t : Tile) : List Byte := t.bytes 128 t.bodyLen

/-- The image of a tile that has been sealed. -/
def Tile.image (t : Tile) : Option Image :=
  loadImage t.kind t.scope (t.word 2 / 65536) ((t.word 2).testBit 0) t.body

/-- Check 1 of R261; the header names the kind and scope that the handle was opened for. -/
def Tile.headerOk (t : Tile) : Bool :=
  let w := t.word
  w 0 = 0x4554494C && bits (w 1) 31 24 = 1 && bits (w 1) 23 20 = t.kind && bits (w 1) 7 0 = t.scope
    && bits (w 1) 15 8 = 0 && bits (w 2) 15 1 = 0 && bits (w 5) 7 0 = 0 && bits (w 6) 15 0 = 0
    && ((List.range 12).all fun i => w (20 + i) = 0)
    && (bits (w 2) 31 16 = 0 || t.kind = 2 || t.kind = 7) && (!(w 2).testBit 0 || t.kind = 7)
    && w 3 % 4 = 0 && 224 + w 3 ≤ t.pages * 4096 && bits (w 5) 31 16 = 0x4800 && bits (w 5) 15 8 = 0xB0

namespace Dev

/-- Handles that a region holds. -/
def regionTiles (d : Dev) (r : Nat) : List (Nat × Tile) := d.tiles.filter fun e => regionOf e.2.kind = r

/-- Pages that a region has allocated. -/
def regionPages (d : Dev) (r : Nat) : Nat := (d.regionTiles r).foldl (fun n e => n + e.2.pages) 0

/-- A listed tile changed. -/
def setTile (d : Dev) (h : Nat) (f : Tile → Tile) : Dev := { d with tiles := Map.adjust d.tiles h f }

/-- R265: an uncorrectable read of a tile's pages, in a word of a stack. -/
def tilePoisoned (d : Dev) (h : Nat) (at_ : Fin 2 × Nat) : Dev :=
  (d.setTile h fun t => { t with st := 4, sealing := false }).raise (srcMem at_.1) 0xC040 (memDetail at_.1 at_.2)

/-- The checks of R261 on a tile: the status of the first that fails, with its fault; `bad` is check 7's. -/
def sealCheck (d : Dev) (t : Tile) (bad : Bool) : Nat × Option Nat :=
  let k := d.tileKeys.getD (bits (t.word 1) 19 16) {}
  let header := t.bytes 0 128
  if !t.headerOk then (4, none)
  else if !k.valid || k.revoked then (8, some 0xE011)
  else if !k.mask.testBit (t.kind - 1) || t.word 7 < k.minSvn then (5, some 0xE011)
  else if sha384 t.body != t.bytes 32 48 then (8, some 0xE010)
  else if !ecdsaVerify k.key (sha384 (header ++ t.body)) (t.bytes (128 + t.bodyLen) 96) then (8, some 0xE010)
  else if t.image.isNone then (4, none)
  else if bad then (0x0A, none)
  else (0, none)

/-- R261, R262: the sealing of a handle ends; its status. -/
def sealEnds (d : Dev) (h : Nat) (bad : Option (Fin 2 × Nat)) : Dev × Nat :=
  match Map.get? d.tiles h with
  | none => (d, 4)
  | some t =>
    let (st, code) := d.sealCheck t bad.isSome
    let d := match code with
      | some c => d.raise 0xE000 c
      | none => d
    let d := d.setTile h fun t =>
      { t with sealing := false, st := if st = 0 then 1 else t.st, tileId := if st = 0 then t.word 4 else t.tileId,
               svn := if st = 0 then t.word 7 else t.svn }
    match bad with
    | some a => (if st = 0x0A then d.tilePoisoned h a else d, st)
    | none => (d, st)

/-- Whether a live epoch or an interface's reel holds a handle (R276, R352). -/
def tileHeld (d : Dev) (h : Nat) : Bool :=
  let holds (s : Slot) : Bool := s.tiles.any fun e => e.2 = h
  let e := d.epochs
  let cur := if e.curTag = 0 then e.slot0 else e.slot1
  let old := if e.curTag = 0 then e.slot1 else e.slot0
  holds cur || (e.draining && holds old)
    || d.sched.reels.any fun r => r.2.cur.any (fun x => x.handle = h) || r.2.pend.any (fun x => x.handle = h)

/-- R264: LIVE handles that nothing holds any longer are SEALED. -/
def settle (d : Dev) : Dev :=
  { d with tiles := d.tiles.map fun e => if e.2.st = 3 && !d.tileHeld e.1 then (e.1, { e.2 with st := 1 }) else e }

/-! ### DMA (R263, R454) -/

/-- A DMA write into a handle's pages: 0 OK, 4 BAD_PARAM, 5 DENIED. -/
def tileWrite (d : Dev) (h off : Nat) (b : List Byte) : Dev × Nat :=
  match Map.get? d.tiles h with
  | none => (d, 5)
  | some t =>
    if t.st ≠ 0 || t.sealing then (d, 5)
    else if off + b.length > t.pages * 4096 then (d, 4)
    else (d.setTile h fun t => { t with mem := (b.zipIdx off).foldl (fun m e => Map.putD m e.2 0 e.1) t.mem }, 0)

/-- A DMA read of a handle's pages. -/
def tileRead (d : Dev) (h off n : Nat) : Except Nat (List Byte) :=
  match Map.get? d.tiles h with
  | none => .error 4
  | some t => if t.st = 4 then .error 5 else if off + n > t.pages * 4096 then .error 4 else .ok (t.bytes off n)

end Dev

end Sys2Proof.Machine
end

