-- ==== Sys2Proof/Machine/Epochs.lean ====
section
/-! DEFINITION. Epochs (R266 to R281): acceptance and placement of a pending epoch, its commit, the drain of the epoch
before it, and its discard. -/

namespace Sys2Proof.Machine

/-! ### Route differences (R271) -/

/-- Whether two routes are for the same prefix. -/
def samePrefix (a b : Route) : Bool := a.v6 == b.v6 && a.inst = b.inst && a.addr = b.addr && a.len = b.len

/-- Changed routes between two images. -/
def routesChanged (old new : List Route) : Nat :=
  (new.filter fun r => !old.contains r).length + (old.filter fun r => !new.any (samePrefix r)).length

/-- A difference applied to an image. -/
def routesApply (old : List Route) (l : LpmImage) : List Route :=
  (old.filter fun r => !l.removed.any (samePrefix r) && !l.routes.any (samePrefix r)) ++ l.routes

namespace Dev

/-- The tag that no current epoch holds. -/
def otherTag (d : Dev) : Nat := 1 - d.epochs.curTag

/-- A change of the epoch machinery. -/
def setEpochs (d : Dev) (f : Epochs → Epochs) : Dev := { d with epochs := f d.epochs }

/-- STATE of PWR_STATE (R426): 0 Full, 1 Trim, 2 Keep, 3 Dormant. -/
def pwrState (d : Dev) : Nat := d.fld 0x50018 31 30

/-- Whether a course move under R17 is in progress. -/
def courseMoves (d : Dev) : Bool := d.wear.move.any fun m => m.kind = 0

/-! ### Drain counts (R275) -/

/-- The tag of a work item. -/
def itemTag (w : List Nat) : Nat := bits (w.getD 0 0) 27 27

/-- Descriptors and work items of a waiting copy that carry a tag. -/
def waitingCount (tag : Nat) (w : Waiting) : Nat :=
  match w.item with
  | none => b2n (w.desc.tag = tag)
  | some ws => if itemTag ws = tag then (if bits (ws.getD 0 0) 31 28 = 0 then 2 else 1) else 0

/-- What an engine's item counts. -/
def engineCount (tag : Nat) (e : Engine) : Nat :=
  match e.item with
  | none => 0
  | some r => b2n (itemTag r.words = tag) + b2n (r.desc.any fun x => x.tag = tag && !r.disposed)

/-- The drain count of a tag: the descriptors and work items that carry it. -/
def drainCount (d : Dev) (tag : Nat) : Nat :=
  let of (x : Desc) : Nat := b2n (x.tag = tag)
  let sum {α : Type} (f : α → Nat) (l : List α) : Nat := l.foldl (fun n a => n + f a) 0
  sum (fun e => sum (fun s => of s.desc) e.2) d.staging
    + sum (fun e => sum (fun h => of h.pass.desc) e.2.hold + sum (fun p => of p.desc) e.2.missq
        + sum (fun r => of r.desc) e.2.recirc + sum (fun r => if r.ret then of r.desc else 0) e.2.inject) d.courses
    + sum (fun e => sum (fun s => of s.pass.desc) e.2.queue + sum (fun s => of s.pass.desc) e.2.running) d.aus
    + sum (fun e => sum (waitingCount tag) e.2.items) d.sched.queues
    + sum (waitingCount tag) d.pair.xq + sum (fun e => waitingCount tag e.2) d.pair.flying
    + sum (fun e => waitingCount tag e.2) d.sched.sending + sum (fun e => waitingCount tag e.2) d.sched.held
    + sum (fun e => sum (fun p => engineCount tag p.2) e.2.engines) d.sets

/-! ### Staging (R270) -/

/-- The tiles that a list of handles names, with their handles. -/
def tilesOf (d : Dev) (l : List Nat) : List (Nat × Tile) := l.filterMap fun h => (Map.get? d.tiles h).map fun t => (h, t)

/-- The rules of R157, R166 and R271 that a tile must keep against the base. -/
def fitsBase (d : Dev) (t : Tile) : Bool :=
  let cur := d.slot d.epochs.curTag
  match t.image with
  | some (.bank b) => t.word 2 / 65536 = cur.num && d.bankFits b
  | some (.auto a) => autoFits a cur.auto
  | some (.lpm l) => l.full || t.word 2 / 65536 = cur.num
  | some _ => true
  | none => false

/-- Steps 1 and 2 of R270: the status that refuses an EPOCH_STAGE. -/
def stageRefusal (d : Dev) (base : Nat) (l : List Nat) : Option Nat :=
  let e := d.epochs
  let ts := d.tilesOf l
  let key (t : Tile) : Nat := t.kind * 256 + t.scope
  let twice := (ts.zipIdx).any fun a => (ts.drop (a.2 + 1)).any fun b => key a.1.2 = key b.2
  if e.draining || e.pend ≠ 0 || d.courseMoves || d.pwrState > 1 then some 1
  else if base ≠ (d.slot e.curTag).num || ts.length ≠ l.length || ts.any (fun t => t.2.st ≠ 1) || twice
      || ts.any (fun t => !d.fitsBase t.2) then some 4
  else none

/-- An accepted EPOCH_STAGE: PENDING becomes STAGING. -/
def stageBegin (d : Dev) (base : Nat) (l : List Nat) : Dev :=
  d.setEpochs fun e => { e with pend := 1, base := base, listed := l, stageAt := d.now, stageDown := false }

/-- Whether a domain holds a memory that tiles are placed into. -/
def holdsTiles (k : Nat) : Bool := (4 ≤ k && k ≤ 21) || 38 ≤ k

/-- R283: a domain that leaves ON while tiles are placed. -/
def stagingMeets (d : Dev) (k : Nat) : Dev :=
  if d.epochs.pend = 1 && holdsTiles k then d.setEpochs fun e => { e with stageDown := true } else d

/-- The image that a list of tiles holds for a kind and scope. -/
def listedImage (ts : List (Nat × Tile)) (kind scope : Nat) : Option Image :=
  (ts.find? fun t => t.2.kind = kind && t.2.scope = scope).bind fun t => t.2.image

/-- The routes of the pending epoch, or the status of R271 that fails it. -/
def newRoutes (old : List Route) (i : Option Image) : Except Nat (List Route) :=
  match i with
  | some (.lpm l) =>
    let new := if l.full then l.routes else routesApply old l
    if routesChanged old new > 262144 then .error 0x0302
    else if routesFit new then .ok new
    else .error 0x0301
  | _ => .ok old

/-- R258, R375: the slot of the pending epoch composed over the base's. -/
def composeSlot (base : Slot) (ts : List (Nat × Tile)) (routes : List Route) : Slot :=
  let img := listedImage ts
  let all := img 6 0xFF
  let progs := (List.range 64).foldl (fun (m : Map Prog) s =>
    match img 6 s, all with
    | some (.prog p), _ => Map.put m s p
    | _, some (.prog p) => Map.put m s p
    | _, _ => m) base.progs
  let kept := base.tiles.filter fun e => e.1 / 256 ≠ 5 && !(e.1 / 256 = 6 && all.isSome)
  { num := 0
    graph := match img 1 0xFF with
      | some (.parse g) => g
      | _ => base.graph
    banks := (List.range 16).foldl (fun (m : Map BankImage) n =>
      match img 2 n with
      | some (.bank b) => Map.put m n b
      | _ => m) base.banks
    auto := match img 3 0xFF with
      | some (.auto a) => a
      | _ => base.auto
    act := match img 4 0xFF with
      | some (.act a) => a
      | _ => base.act
    policy := match img 8 0xFF with
      | some (.policy p) => p
      | _ => base.policy
    routes := routes
    progs := progs
    reels := ts.foldl (fun (m : Map (List Nat)) t =>
      match t.2.image with
      | some (.reel w) => Map.put m t.2.scope w
      | _ => m) []
    fields := base.fields
    tiles := ts.foldl (fun (m : Map Nat) t => Map.put m (t.2.kind * 256 + t.2.scope) t.1) kept }

/-- The BANK tiles of the pending epoch placed, and the base's carried over where a course has none listed. -/
def placeBanks (d : Dev) (ts : List (Nat × Tile)) : Dev :=
  (List.range 16).foldl (fun d n =>
    match listedImage ts 2 n with
    | some (.bank b) => d.bankPlace d.otherTag b
    | _ => d.bankCarry d.otherTag d.epochs.curTag n) d

/-- A staging that ends without a pending epoch. -/
def stageFails (d : Dev) : Dev := (d.setEpochs fun e => { e with pend := 0, listed := [], ticket := none }).event 0x11C 0

/-- R270 steps 3 and 4: the placement ends; the command's status and its result words. `bad` is an uncorrectable read
of a tile that it needs. -/
def stageEnds (d : Dev) (bad : Option (Nat × Fin 2 × Nat)) : Dev × Nat × List Nat :=
  let e := d.epochs
  let ts := d.tilesOf e.listed
  let cur := d.slot e.curTag
  if e.stageDown then (d.stageFails, 6, [])
  else match bad with
  | some (h, at_) => ((d.tilePoisoned h at_).stageFails, 0x0A, [])
  | none =>
    match newRoutes cur.routes (listedImage ts 7 0xFF) with
    | .error st => (d.stageFails, st, [])
    | .ok rs =>
      let d := (d.setSlot d.otherTag fun _ => composeSlot cur ts rs).placeBanks ts
      let d := e.listed.foldl (fun d h => d.setTile h fun t => { t with st := 2 }) d
      let us := min (2 ^ 32 - 1) ((d.now - e.stageAt) / 1000)
      (d.setEpochs fun e => { e with pend := 2, ticket := none }, 0, [d.otherTag, us])

/-- The pending epoch's placement undone (R278, R283). -/
def unplace (d : Dev) : Dev :=
  let d := d.epochs.listed.foldl (fun d h => d.setTile h fun t => { t with st := if t.st = 2 then 1 else t.st }) d
  let d := (d.bankSweep d.otherTag).setSlot d.otherTag fun _ => {}
  d.setEpochs fun e => { e with pend := 0, listed := [], ticket := none }

/-- EPOCH_ABORT (R278, R514): its status. -/
def epochAbort (d : Dev) : Dev × Nat :=
  match d.epochs.pend with
  | 0 => (d, 4)
  | 2 => (d.unplace, 0)
  | _ => (d, 1)

/-! ### Commit (R272, R273) -/

/-- Whether a number is later than another modulo 2^16 (R266). -/
def laterNum (a b : Nat) : Bool := let n := (a + 2 ^ 16 - b) % 2 ^ 16; 1 ≤ n && n < 2 ^ 15

/-- EPOCH_COMMIT: its status. The EPOCH fields staged so far are fixed for this commit. -/
def epochCommit (d : Dev) (num : Nat) : Dev × Nat :=
  let e := d.epochs
  if e.draining || d.courseMoves || e.pend = 1 || e.pend = 3 then (d, 1)
  else if e.pend = 0 then (d, 4)
  else if !laterNum num (d.slot e.curTag).num then (d, 4)
  else if d.pwrState > 1 then (d, 6)
  else
    let at_ := d.now + 10000
    let fixed := d.staged
    let d := d.setEpochs fun e => { e with pend := 3, newNum := num, commitAt := at_, fixed := fixed }
    (({ d with staged := [] } : Dev).setReg 0x120 (at_ % 2 ^ 32) |>.setReg 0x124 (at_ / 2 ^ 32 % 2 ^ 32), 0)

/-- One staged EPOCH write taken into the new epoch: mask and value. -/
def takeField (d : Dev) (tag a : Nat) (m v : Word) : Dev :=
  let old := BitVec.ofNat 32 (d.epochReg tag a)
  let new := (old &&& ~~~m) ||| (v &&& m)
  (d.setSlot tag fun s => { s with fields := Map.put s.fields a new }).setReg a new.toNat

/-- R273 step 3: what happens at COMMIT_AT. -/
def commitNow (d : Dev) : Dev :=
  let e := d.epochs
  let tag := d.otherTag
  if e.pend ≠ 3 || d.now < e.commitAt then d else
  let d := d.setSlot tag fun s => { s with num := e.newNum }
  let d := e.fixed.foldl (fun d f => d.takeField tag f.1 f.2.1 f.2.2) d
  let d := d.bankCommit.setEpochs fun e =>
    { e with curTag := tag, pend := 0, listed := [], fixed := [], draining := true, zero := false, swept := false,
             folded := false, audited := false, first := [] }
  let d := e.listed.foldl (fun d h => d.setTile h fun t => { t with st := if t.st = 2 then 3 else t.st }) d
  let d := (d.slot tag).reels.foldl (fun d r =>
    let h := Map.getD (d.slot tag).tiles (5 * 256 + r.1) 0
    d.pendReel r.1 (reelOf r.2 h (((Map.get? d.tiles h).map (·.tileId)).getD 0))) d
  let d := d.setPair fun p => { p with firstAt := some (p.firstAt.getD d.now), upSince := p.upSince || d.flag 0x700004 24 }
  (d.event 0x11C 1).settle

/-! ### Drain (R273, R276) -/

/-- Step 4: the draining count has reached 0. -/
def drainZero (d : Dev) : Dev :=
  if d.epochs.draining && !d.epochs.zero && d.drainCount d.otherTag = 0 then d.setEpochs fun e => { e with zero := true } else d

/-- R276: the draining epoch ends once both parts of step 5 are done. -/
def drainEnds (d : Dev) : Dev :=
  let e := d.epochs
  if e.draining && e.zero && e.swept && e.folded then
    (((d.setEpochs fun e => { e with draining := false }).setSlot d.otherTag fun _ => {}).event 0x11C 2).settle
  else d

/-- R158: the bank sweep of step 5. -/
def sweepDone (d : Dev) : Dev :=
  let e := d.epochs
  if e.draining && e.zero && !e.swept then
    ((d.bankSweep d.otherTag).setEpochs fun e => { e with swept := true }).drainEnds
  else d

/-- R271: the route fold of step 5. -/
def foldDone (d : Dev) : Dev :=
  let e := d.epochs
  if e.draining && e.zero && !e.folded then (d.setEpochs fun e => { e with folded := true }).drainEnds else d

end Dev

/-- COMMIT_AT (R273). -/
def execCommitAt (s : State) : Result := s.act Dev.commitNow

/-- DRAIN_COUNT_ZERO (R273). -/
def execDrainCountZero (s : State) : Result := s.act Dev.drainZero

/-- BANK_SWEEP_DONE (R158). -/
def execBankSweepDone (s : State) : Result := s.act Dev.sweepDone

/-- ROUTE_FOLD_DONE (R271). -/
def execRouteFoldDone (s : State) : Result := s.act Dev.foldDone

end Sys2Proof.Machine
end

