-- ==== Sys2Proof/Machine/Learning.lean ====
section
/-! DEFINITION. Chapter 7, second part: learned tables, their notices, moves and pins, their aging and locks, and the
longest-prefix routes. -/

namespace Sys2Proof.Machine

namespace Dev

/-- Bucket of a learned entry (R202); the key is bridge domain × 2^48 + MAC address. -/
def l2Bucket (d : Dev) (key : Nat) : Nat :=
  crc32c (beBytes 4 (d.reg 0x100D00) ++ beBytes 2 (key / 2 ^ 48) ++ beBytes 6 key) % 2 ^ 15

/-- A learned entry of a physical course. -/
def l2? (d : Dev) (c key : Nat) : Option L2Entry := Map.get? (d.course c).learned key

/-- A learned entry written. -/
def l2Put (d : Dev) (c key : Nat) (e : L2Entry) : Dev :=
  d.setCourse c fun s => { s with learned := Map.put s.learned key e }

/-- A learned entry removed. -/
def l2Erase (d : Dev) (c key : Nat) : Dev := d.setCourse c fun s => { s with learned := Map.erase s.learned key }

/-- Whether a way of a key's bucket is free (R206). -/
def l2Room (d : Dev) (c key : Nat) : Bool :=
  ((d.course c).learned.filter fun e => d.l2Bucket e.1 = d.l2Bucket key).length < 8

/-- Bits of TBL_L2_CTRL of the course name that a physical course serves. -/
def l2Ctl (d : Dev) (c hi lo : Nat) : Nat := d.fld (crsBase ((d.nameOf c).getD c) + 0xC08) hi lo

/-- R203: the destination lookup; `upset` is a parity error of the entry. -/
def l2Dest (d : Dev) (c key : Nat) (upset : Bool) : Dev × Option Nat :=
  let base := crsBase c
  match d.l2? c key with
  | none => (d.bump (base + 0xCB8), none)
  | some e =>
    let inj := d.flag (base + 0xC18) 0
    if upset || inj then
      let d := if inj then d.clrBit (base + 0xC18) 0 else d
      (((((d.l2Erase c key).raiseAs (srcCourse c) 0x4020 [] inj true).event (base + 0xC14) 7).bump (base + 0xCB8)), none)
    else ((d.l2Put c key { e with aged := false, stale := false }).bump (base + 0xCB0), some e.iface)

/-- Entries that R210 counts on an interface. -/
def l2Count (d : Dev) (c i : Nat) : Nat :=
  ((d.course c).learned.filter fun e => !e.2.static && e.2.iface = i).length

/-- R205: a notice reaches every course in service. -/
def notify (d : Dev) (n : Notice2) : Dev :=
  d.servingCourses.foldl (fun d c =>
    if (d.course c).notices.length ≥ 4096 then (d.bump (crsBase c + 0xCD0)).event (crsBase c + 0xC14) 2
    else d.setCourse c fun s => { s with notices := s.notices ++ [n] }) d

/-- R204: the source check of a first pass. -/
def l2Source (d : Dev) (c key i : Nat) : Dev × SrcOut :=
  let base := crsBase c
  match d.l2? c key with
  | some e =>
    if e.iface = i then (if e.aged then d.notify ⟨key, i, true⟩ else d, .known)
    else if e.static || e.pinned then (d.bump (base + 0xCD8), .conflict)
    else (d.notify ⟨key, i, false⟩, .moved)
  | none =>
    let lim := d.fld (crsBase ((d.nameOf c).getD c) + 0xC40 + 4 * portIndex i) 18 0
    if lim ≠ 0 && d.l2Count c i ≥ lim then (d.event (base + 0xC14) 3, .limit)
    else (d.notify ⟨key, i, false⟩, .learned)

/-- R208, R209: a move of an entry to another interface, or its pin. -/
def l2Move (d : Dev) (c key : Nat) (e : L2Entry) (i : Nat) : Dev :=
  let base := crsBase c
  let win := max 1 (d.l2Ctl c 17 6) * 1000000
  let maxMoves := d.l2Ctl c 3 0
  let opened : Option Nat := (e.flap.filter fun f => d.now ≤ f.1 + f.2).map (·.1)
  let d := d.event (base + 0xC14) 0
  let fresh := { e with aged := false, stale := false }
  match opened with
  | none => (d.l2Put c key { fresh with iface := i, anchor := e.iface, moves := 1, flap := some (d.now, win) }).bump (base + 0xCC8)
  | some _ =>
    if maxMoves ≠ 0 && e.moves + 1 > maxMoves then
      ((d.l2Put c key { e with iface := e.anchor, pinned := true, flap := some (d.now, win) }).raise (srcCourse c) 0x4011).event
        (base + 0xC14) 1
    else (d.l2Put c key { fresh with iface := i, moves := min 15 (e.moves + 1) }).bump (base + 0xCC8)

/-- R206: the learn arbiter applies the notice at the front of its queue. -/
def applyNotice (d : Dev) (c : Nat) : Dev :=
  match (d.course c).notices with
  | [] => d
  | n :: rest =>
    let base := crsBase c
    let d := d.setCourse c fun s => { s with notices := rest }
    match d.l2? c n.key with
    | none =>
      if d.l2Room c n.key then (d.l2Put c n.key { iface := n.iface }).bump (base + 0xCC0)
      else d.bump (base + 0xCD0)
    | some e =>
      if e.lock.isSome then d
      else if e.iface = n.iface then d.l2Put c n.key { e with aged := false, stale := false }
      else if e.static || e.pinned then d.bump (base + 0xCD8)
      else d.l2Move c n.key e n.iface

/-- R209: a pin ends LRN_PIN_HOLD after FLAP_T. -/
def pinEnd (d : Dev) (c key : Nat) : Dev :=
  let hold := d.l2Ctl c 25 18
  match d.l2? c key with
  | none => d
  | some e =>
    if e.pinned && hold ≠ 0 && e.flap.any fun f => d.now ≥ f.1 + hold * 1000000000 then
      d.l2Put c key { e with pinned := false, moves := 0, flap := none }
    else d

/-- R214, R217: the learned-table sweeper at an entry. -/
def l2Sweep (d : Dev) (c key : Nat) : Dev :=
  let base := crsBase c
  if d.fld (crsBase ((d.nameOf c).getD c) + 0xC0C) 15 0 = 0 then d
  else match d.l2? c key with
  | none => d
  | some e =>
    if e.lock.isSome || e.static then d
    else if e.stale then (d.l2Erase c key).bump (base + 0xCA8)
    else if e.aged then (d.l2Erase c key).bump (base + 0xCA0)
    else d.l2Put c key { e with aged := true }

/-- The end of a lap of a course's learned-table sweeper (R218). -/
def l2Lap (d : Dev) (c : Nat) : Dev :=
  let lap := d.fld (crsBase ((d.nameOf c).getD c) + 0xC0C) 15 0 * 1000000000
  let slow := lap ≠ 0 && d.now > (d.course c).l2Start + 2 * lap
  let d := d.setCourse c fun s => { s with l2Start := d.now }
  if slow then d.event (crsBase c + 0xC14) 5 else d

/-- R222 for a learned entry. -/
def l2LockExpiry (d : Dev) (c key : Nat) : Dev :=
  match d.l2? c key with
  | none => d
  | some e =>
    match e.lock with
    | none => d
    | some (_, t) => if d.now < t + 1000000 then d else (d.l2Put c key { e with lock := none }).lockGone c

/-- R217: what a wake with AON_LOST does to the tables. -/
def markStale (d : Dev) : Dev :=
  let l2 (e : L2Entry) : L2Entry := if e.static then e else { e with stale := true }
  let cx (c : Ctx) : Ctx := if c.ageEn then { c with stale := true } else c
  let way (w : Way) : Way := match w with
    | .line i c dirty => .line i (cx c) dirty
    | .pend t k u => .pend t k u
  { d with
    courses := d.courses.map fun e => (e.1, { e.2 with learned := e.2.learned.map fun x => (x.1, l2 x.2) }),
    store := d.store.map fun e => (e.1, cx e.2),
    slices := d.slices.map fun e => (e.1, { e.2 with sets := e.2.sets.map fun x => (x.1, x.2.map way) }) }

/-! ### Routes (R211 to R213) -/

/-- Whether a route matches an address of its family in its instance. -/
def routeHas (v6 : Bool) (inst addr : Nat) (r : Route) : Bool :=
  let w := if v6 then 128 else 32
  r.v6 == v6 && r.inst = inst && r.addr >>> (w - r.len) = addr >>> (w - r.len)

/-- R212: the longest matching prefix in the images of a tag. -/
def route (d : Dev) (tag : Nat) (v6 : Bool) (inst addr : Nat) : RouteOut :=
  let best := (d.slot tag).routes.foldl (fun (b : Option Route) r =>
    if routeHas v6 inst addr r && b.all fun o => o.len < r.len then some r else b) none
  match best with
  | some r => .hit r.result r.len
  | none => .miss

/-- R212, R213: a route lookup of a pass; `upset` is an uncorrectable read. Memory IDs 12 and 13 hold the dies' route
memories. -/
def routeLookup (d : Dev) (c tag : Nat) (v6 : Bool) (inst addr : Nat) (upset : Bool) : Dev × RouteOut :=
  let d := d.bump (crsBase c + 0xCE0)
  if upset then ((d.raiseWear (srcMem (12 + dieOfCourse c)) 0x4050 (memDetail (12 + dieOfCourse c) d.free)).used, .error)
  else match d.route tag v6 inst addr with
  | .miss => (d.bump (crsBase c + 0xCE8), .miss)
  | r => (d, r)

end Dev

/-- LEARN_NOTICE_APPLY (R206). -/
def execLearnNoticeApply (course : Fin 18) (s : State) : Result := s.act (·.applyNotice course)

/-- PIN_HOLD_END (R209): physical course, bridge domain and MAC address. -/
def execPinHoldEnd (course : Fin 18) (bd : BitVec 14) (mac : BitVec 48) (s : State) : Result :=
  s.act (·.pinEnd course (bd.toNat * 2 ^ 48 + mac.toNat))

/-- L2_SWEEP_VISIT (R214, R217, R218); `lapEnd` says that the visit ends a lap. -/
def execL2SweepVisit (course : Fin 18) (bd : BitVec 14) (mac : BitVec 48) (lapEnd : Bool) (s : State) : Result :=
  s.act fun d => let d := d.l2Sweep course (bd.toNat * 2 ^ 48 + mac.toNat); if lapEnd then d.l2Lap course else d

/-- LOCK_EXPIRY (R222): of a context, or of a learned entry of a physical course by key. -/
def execLockExpiry (entry : LockedEntry) (s : State) : Result :=
  s.act fun d => match entry with
    | .context idx => d.ctxLockExpiry idx.toNat
    | .learned c bd mac => d.l2LockExpiry c (bd.toNat * 2 ^ 48 + mac.toNat)

end Sys2Proof.Machine
end

