-- ==== Sys2Proof/Machine/Actions.lean ====
section
/-! DEFINITION. Chapter 8: the choice of an action, entry chains, rewrite operations with their anchors, encapsulation
and termination, and destinations. -/

namespace Sys2Proof.Machine

/-- How an entry chain comes to an end. -/
inductive Stop where
  | drop (reason : Nat)
  | ttl (svc : Option (Nat × Nat))
  | ecn
  | limit
  | matrix
  | fifth
  | upset (inj : Bool)
  | service (cls pri : Nat)
  | done
deriving DecidableEq, Repr

/-- A packet in the action stage: its bytes and word, the anchors of R235 at 0 to 7, the IP header of an encapsulation
at 8 and L3[2] at 9, and the last entry that made a change. -/
structure Work where
  p       : Patched
  anc     : List (Option Nat)
  lastAct : Option Nat := none
deriving DecidableEq, Repr

/-- What an entry does its work with: its index, the change whose matrix errs, the images, the parse result, E, and the
template read that errs. -/
structure ActEnv where
  act    : ActImage
  parse  : Parse
  e      : Nat
  matrix : Option Nat
  entry  : Nat := 0
  badTpl : Bool := false
deriving DecidableEq, Repr

/-- Anchors at the start of the stage (R236). -/
def anchors (p : Parse) : List (Option Nat) :=
  [some 0, p.lev0.l2, p.lev0.l3, p.lev0.l4, p.lev1.l2, p.lev1.l3, p.lev1.l4, p.tun0, none, p.lev2.l3]

/-- R236: anchors after an insertion. Anchor 0 names byte 0 and stays. -/
def ancInsert (o len : Nat) (l : List (Option Nat)) : List (Option Nat) :=
  l.zipIdx.map fun (a, i) => if i = 0 then a else a.map fun x => if o ≤ x then x + len else x

/-- R236: anchors after a removal. -/
def ancRemove (o len : Nat) (l : List (Option Nat)) : List (Option Nat) :=
  l.zipIdx.map fun (a, i) =>
    if i = 0 then a else a.bind fun x => if o + len ≤ x then some (x - len) else if o ≤ x then none else some x

/-- An anchor's offset; absent, the operation drops under 0x5A. -/
def Work.at (w : Work) (k : Nat) : Except Stop Nat :=
  match w.anc.getD k none with
  | some o => .ok o
  | none => .error (.drop 0x5A)

/-- One change made by the patch unit (R101). -/
def Work.change (w : Work) (v : ActEnv) (r : Except PatchError Patched) : Except Stop Work :=
  if v.matrix = some w.p.changes then .error .matrix
  else match r with
    | .error _ => .error .limit
    | .ok p => .ok { w with p := p, lastAct := some v.entry }

/-- An overwrite. -/
def Work.set (w : Work) (v : ActEnv) (off : Nat) (b : List Byte) : Except Stop Work :=
  w.change v (patchOverwrite w.p off b)

/-- R98: an insertion of a template's header bytes, patched with the template's RAW word. -/
def Work.insertTpl (w : Work) (v : ActEnv) (off : Nat) (t : Template) : Except Stop Work := do
  let b := t.bytes.take (bits (word t.desc 0) 31 24)
  let fix := crcShift (word t.desc 1 ^^^ crcRaw b) (w.p.bytes.length - off)
  let w ← w.change v (patchInsert w.p off b)
  return { w with p := { w.p with mortar := w.p.mortar ^^^ fix }, anc := ancInsert off b.length w.anc }

/-- A removal. -/
def Work.remove (w : Work) (v : ActEnv) (off len : Nat) : Except Stop Work := do
  let w ← w.change v (patchRemove w.p off len)
  return { w with anc := ancRemove off len w.anc }

/-- A template of the images; one read in error ends the chain (R254). -/
def ActEnv.template (v : ActEnv) (n : Nat) : Except Stop Template :=
  if v.badTpl then .error (.upset false)
  else match Map.get? v.act.templates n with
    | some t => .ok t
    | none => .ok ⟨[], []⟩

/-- Incremental update of an Internet checksum for one 16-bit word. -/
def csumUpdate (hc old new : Nat) : Nat :=
  let s := (65535 - hc) + (65535 - old) + new
  let s := s % 65536 + s / 65536
  65535 - (s % 65536 + s / 65536) % 65536

/-- The IP version at an offset. -/
def ipVersion (bytes : List Byte) (o : Nat) : Nat := field bytes o 1 / 16

/-- The ECN field of the IP header at an offset; none where no IPv4 or IPv6 header lies there. -/
def ecnAt (bytes : List Byte) (o : Nat) : Option Nat :=
  match ipVersion bytes o with
  | 4 => some (field bytes (o + 1) 1 % 4)
  | 6 => some (field bytes (o + 1) 1 / 16 % 4)
  | _ => none

/-- The byte that holds an IP header's ECN field, with that field at `e`. -/
def ecnByte (bytes : List Byte) (o e : Nat) : Nat :=
  let b := field bytes (o + 1) 1
  if ipVersion bytes o = 4 then b / 4 * 4 + e else b / 64 * 64 + e * 16 + b % 16

/-- An IP header's ECN field overwritten: the IPv4 header checksum follows as a second change. -/
def Work.setEcn (w : Work) (v : ActEnv) (o e : Nat) : Except Stop Work := do
  let b := w.p.bytes
  let new := ecnByte b o e
  let w' ← w.set v (o + 1) (beBytes 1 new)
  if ipVersion b o = 4 then
    w'.set v (o + 10) (beBytes 2 (csumUpdate (field b (o + 10) 2) (field b o 2) (field b o 1 * 256 + new)))
  else return w'

/-- R237: DEC_TTL at an offset. -/
def Work.decTtl (w : Work) (v : ActEnv) (o : Nat) (svc : Option (Nat × Nat)) : Except Stop Work := do
  let b := w.p.bytes
  if ipVersion b o = 4 then
    let t := field b (o + 8) 1
    if t ≤ 1 then throw (.ttl svc)
    let w ← w.set v (o + 8) (beBytes 1 (t - 1))
    w.set v (o + 10) (beBytes 2 (csumUpdate (field b (o + 10) 2) (field b (o + 8) 2) (field b (o + 8) 2 - 256)))
  else if ipVersion b o = 6 then
    let t := field b (o + 7) 1
    if t ≤ 1 then throw (.ttl svc)
    w.set v (o + 7) (beBytes 1 (t - 1))
  else throw (.drop 0x5A)

/-- R239: ENCAP. -/
def Work.encap (w : Work) (v : ActEnv) (t : Template) : Except Stop Work := do
  let d0 := word t.desc 0
  let ip := bits d0 23 16
  let udp := bits d0 15 8
  let kind := bits d0 7 6
  let inner := (w.anc.getD 2 none).orElse fun _ => (w.anc.getD 5 none).orElse fun _ => w.anc.getD 9 none
  let ecn := (inner.bind (ecnAt w.p.bytes)).getD 0
  let w ← w.insertTpl v 0 t
  let n := w.p.bytes.length
  let w := { w with anc := setNth w.anc 8 none (if kind = 0 then w.anc.getD 8 none else some ip) }
  let w ← if d0.testBit 4 && ecn ≠ 0 && kind ≠ 0 then w.set v (ip + 1) (beBytes 1 (ecnByte w.p.bytes ip ecn)) else .ok w
  let w ← if kind = 1 then w.set v (ip + 2) (beBytes 2 (n - ip))
    else if kind = 2 then w.set v (ip + 4) (beBytes 2 (n - ip - 40)) else .ok w
  let hdr := Sys2Proof.Machine.slice w.p.bytes ip (field w.p.bytes ip 1 % 16 * 4)
  let w ← if kind = 1 then w.set v (ip + 10) (beBytes 2 (65535 - onesSum (patch hdr 10 [0, 0]) % 65536)) else .ok w
  let w ← if d0.testBit 5 && udp ≠ 0xFF then w.set v udp (beBytes 2 (0xC000 + v.e % 2 ^ 14)) else .ok w
  if udp ≠ 0xFF then w.set v (udp + 4) (beBytes 2 (n - udp)) else return w

/-- The table of R240: the inner ECN field that an outer one leaves; none drops the packet. -/
def ecnCombine (outer inner : Nat) : Option Nat :=
  if outer = 3 then (if inner = 0 then none else some 3)
  else if outer = 1 && inner = 2 then some 1
  else some inner

/-- R240: DECAP. -/
def Work.decap (w : Work) (v : ActEnv) (mode : Nat) : Except Stop Work := do
  let _ ← w.at 7
  let b := w.p.bytes
  let outer := (w.anc.getD 2 none).bind (ecnAt b)
  let w ← if mode = 0 then do
      let o ← w.at 4
      w.remove v 0 o
    else do
      let a ← w.at 2
      let z ← w.at 5
      let ver := ipVersion b z
      if ver ≠ 4 && ver ≠ 6 then throw (.drop 0x5A)
      if a < 2 then throw .limit
      let ty := if ver = 6 then 0x86DD else 0x0800
      let w ← w.remove v a (z - a)
      w.set v (a - 2) (beBytes 2 ty)
  match outer, w.anc.getD 5 none with
  | some o, some i =>
    match ecnAt w.p.bytes i with
    | none => return w
    | some e =>
      match ecnCombine o e with
      | none => throw .ecn
      | some n => if n = e then return w else w.setEcn v i n
  | _, _ => return w

/-- R235, R237: one operation; `svc` is what TTL expiry leads to. -/
def Work.op (w : Work) (v : ActEnv) (o : Nat) (svc : Option (Nat × Nat)) : Except Stop Work := do
  let off := fun (_ : Unit) => do
    let a ← w.at (bits o 27 25)
    return a + bits o 24 18
  let len := bits o 17 13
  let arg := bits o 12 0
  match bits o 31 28 with
  | 1 => do
    let a ← off ()
    let t ← v.template arg
    w.set v a (t.bytes.take len ++ List.replicate (len - t.bytes.length) 0)
  | 2 => do
    let a ← off ()
    w.set v a (beBytes len (field v.parse.fv (arg % 128) len))
  | 3 => do
    let a ← off ()
    w.decTtl v a svc
  | 4 => do
    let a ← off ()
    let t ← v.template arg
    w.insertTpl v a t
  | 5 => do
    let a ← off ()
    w.remove v a len
  | 6 => do
    let t ← v.template arg
    w.encap v t
  | 7 => w.decap v (arg % 4)
  | _ => return w

/-- Operations in order; the work as far as it came, and what ended it. -/
def Work.ops (v : ActEnv) (svc : Option (Nat × Nat)) : List Nat → Work → Work × Option Stop
  | [], w => (w, none)
  | o :: l, w =>
    match w.op v o svc with
    | .ok w => Work.ops v svc l w
    | .error e => (w, some e)

/-- An entry chain as it runs: the work, the entries' counts as counter and frame bytes, mirror, policer, and the words
of the entry that executed last. -/
structure Run where
  w       : Work
  counts  : List (Nat × Nat) := []
  mirror  : Option Nat := none
  policer : Option Nat := none
  last    : List Nat := []
deriving DecidableEq, Repr

/-- R231, R233, R234: the entries of a chain from `idx`, at most `fuel` more. `up` is what is read in error and `n` the
entry's place in the chain. -/
def runChain (v : ActEnv) (dst : RouteOut) (up : ActUpset) : Nat → Nat → Nat → Run → Run × Stop
  | 0, _, idx, r => (r, if idx ≥ v.act.nEntries then .drop 0x52 else .fifth)
  | fuel + 1, n, idx, r =>
    if idx ≥ v.act.nEntries then (r, .drop 0x52)
    else if up = .entry n then (r, .upset false)
    else
      let e := Map.getD v.act.entries idx []
      let w0 := word e 0
      let w2 := word e 2
      let w3 := word e 3
      let w4 := word e 4
      if bits w0 31 29 = 1 then (r, .drop 0x50)
      else
        let svc := if w3.testBit 22 then some (bits w0 23 20, bits w0 26 24) else none
        let v := { v with entry := idx, badTpl := up = .template n }
        let r := { r with
          last := e, mirror := if w3.testBit 31 then some (bits w3 30 23) else r.mirror,
          policer := if w2.testBit 21 then some (bits w2 20 3) else r.policer }
        let (w, stop) := Work.ops v svc ((List.range 8).map fun k => word e (8 + k)) r.w
        let r := { r with w := w }
        match stop with
        | some s => (r, s)
        | none =>
          let r := if w4.testBit 31 then { r with counts := r.counts ++ [(bits w4 15 0, w.p.bytes.length + 4)] } else r
          match bits w0 19 18 with
          | 1 => runChain v dst up fuel (n + 1) (bits w0 16 0) r
          | 2 =>
            match dst with
            | .hit ref _ =>
              match bits ref 31 30 with
              | 1 => runChain v dst up fuel (n + 1) (bits ref 16 0) r
              | 2 => (r, .drop 0x50)
              | 3 => (r, .service (bits ref 20 17) 0)
              | _ => (r, .done)
            | .miss => (r, .drop 0x53)
            | .notMade => (r, .drop 0x53)
            | .error => (r, .drop 0x53)
          | _ => (r, .done)

/-- R230: the reference of a resolution list. -/
def resolveList (l : List Nat) (look : Look) : Nat :=
  let yields (c : Nat) : Option Nat :=
    match c with
    | 1 =>
      match look.ctxOut with
      | .reval => some (word l 2)
      | .noneFirst => some (word l 3)
      | .nonePend => some (word l 4)
      | _ => none
    | 6 => match look.rtDst with
      | .hit r _ => some r
      | _ => none
    | 7 => match look.rtSrc with
      | .hit r _ => some r
      | _ => none
    | 8 => if look.l2 = 1 then some (word l 5) else none
    | c =>
      if 2 ≤ c && c ≤ 5 then
        match look.groups.getD (c - 2) .miss with
        | .hit _ _ r _ => some r
        | _ => none
      else none
  let steps := ((List.range 8).map fun k => bits (word l 0) (31 - 4 * k) (28 - 4 * k)).takeWhile (· ≠ 0)
  ((steps.filterMap yields).find? fun r => bits r 31 30 ≠ 0).getD (word l 1)

/-- What the stage decides for a pass. -/
inductive Verdict where
  | drop (reason : Nat)
  | service (cls pri source : Nat)
  | recirc (node : Nat)
  | copies (dest : List (Nat × Option Nat)) (group : Bool)
deriving DecidableEq, Repr

/-- Members of a replication group that are not skipped (R243). -/
def groupCopies (d : Dev) (act : ActImage) (admIf g : Nat) : List (Nat × Option Nat) :=
  let gw := Map.getD act.groups g 0
  (List.range (bits gw 31 26 + 1)).filterMap fun k =>
    let m := Map.getD act.members (bits gw 17 0 + k) 0
    let q := bits m 31 16
    if m.testBit 15 && q < 55296 && d.ifOfQueue q = admIf then none
    else some (q, if m.testBit 14 then some (bits m 13 0) else none)

/-- A replication, or 0x5F where no member is left. -/
def replicate (d : Dev) (act : ActImage) (admIf g : Nat) : Verdict :=
  match groupCopies d act admIf g with
  | [] => .drop 0x5F
  | l => .copies l true

/-- R241: the destination that the last entry names. -/
def destination (d : Dev) (act : ActImage) (look : Look) (admIf : Nat) (e : List Nat) : Verdict :=
  let w1 := word e 1
  let group := bits w1 15 2
  match bits (word e 0) 28 27 with
  | 0 => if bits w1 31 16 ≥ 55296 then .drop 0x54 else .copies [(bits w1 31 16, none)] false
  | 1 =>
    if look.l2 = 1 then
      if look.l2If = admIf then .drop 0x5F
      else if bits w1 31 16 ≥ d.qcount look.l2If then .drop 0x54
      else .copies [(Dev.qbase look.l2If + bits w1 31 16, none)] false
    else if w1.testBit 1 then replicate d act admIf group
    else .drop 0x53
  | _ => replicate d act admIf group

/-- R242: what the last entry makes of the descriptor's timestamp fields; 0x5A where its anchor is absent. -/
def stampOp (x : Desc) (w : Work) (e : List Nat) : Except Nat Desc :=
  let w3 := word e 3
  match bits w3 21 20 with
  | 0 => .ok x
  | 3 => .ok { x with tsOp := 0, ptpOff := 0, tsUdp := false }
  | t =>
    match w.anc.getD (bits w3 19 17) none with
    | none => .error 0x5A
    | some a => .ok { x with tsOp := t, ptpOff := (a + bits w3 16 10) % 1024, tsUdp := w3.testBit 9 }

/-- The outermost IP header after rewrite, as L3_KIND and L3_OFF. -/
def outermost (w : Work) : Nat × Nat :=
  let o := [8, 2, 5, 9].foldl (fun (b : Option Nat) k =>
    match w.anc.getD k none, b with
    | some a, some c => some (min a c)
    | some a, none => some a
    | none, b => b) none
  match o with
  | none => (0, 0)
  | some a => match ipVersion w.p.bytes a with
    | 4 => (1, a % 1024)
    | 6 => (2, a % 1024)
    | _ => (0, 0)

/-- What the action stage leaves: the descriptor and bytes, the verdict, and the mirror session. -/
structure Acted where
  desc    : Desc
  bytes   : List Byte
  verdict : Verdict
  mirror  : Option Nat
deriving DecidableEq, Repr

namespace Dev

/-- Rows 1 to 9 of R229: a verdict at once, or the reference that decides. `none` is a resolution list in error. -/
def chooseRef (d : Dev) (c : Nat) (p : Pass) (up : ActUpset) : Except Stop (Verdict ⊕ Nat) :=
  let look := p.look
  let pol := (d.slot p.desc.tag).policy
  if look.ctxOut = .error then .ok (.inl (.drop 0x42))
  else if look.ctxOut = .chainLong then .ok (.inl (.drop 0x46))
  else if look.rtDst = .error || look.rtSrc = .error then .ok (.inl (.drop 0x45))
  else if look.groups.any (· = .error) then .ok (.inl (.drop 0x33))
  else if look.src = .conflict && d.l2Ctl c 31 31 = 1 then .ok (.inl (.drop 0x43))
  else if look.src = .limit && d.l2Ctl c 30 30 = 1 then .ok (.inl (.drop 0x44))
  else match look.auto with
  | .drop r => .ok (.inl (.drop r))
  | .service cls => .ok (.inl (.service cls 0 2))
  | .pass =>
    match p.parse.svc with
    | some cls => .ok (.inl (.service cls 0 1))
    | none =>
      if look.ctxOut = .current then .ok (.inr ((look.ctx.map fun x => (d.ctx x.1).actRef).getD 0))
      else if up = .list then .error (.upset false)
      else
        let l := pol.lists.getD (Map.getD pol.profMap p.parse.endNode 0) []
        let ref := resolveList l look
        if bits ref 31 30 = 0 then .ok (.inl (.drop 0x51)) else .ok (.inr ref)

/-- What the end of a chain raises and where it leads, for a pass of course `c`; `m` is the mortar DETAIL. -/
def chainEnd (d : Dev) (c : Nat) (m : List Nat) : Stop → Dev × Verdict
  | .drop r => (d, .drop r)
  | .ttl none => (d.event (crsBase c + 0x208) 3, .drop 0x59)
  | .ttl (some (cls, pri)) => (d.event (crsBase c + 0x208) 3, .service cls pri 0)
  | .ecn => (d.event (crsBase c + 0x208) 2, .drop 0x55)
  | .limit => (d.raise (srcCourse c) 0x5012 m, .drop 0x56)
  | .matrix => (d.raiseWear (srcCourse c) 0x5013 m, .drop 0x56)
  | .fifth => ((d.raise (srcCourse c) 0x5001).event (crsBase c + 0x208) 0, .drop 0x52)
  | .upset inj =>
    let mem := 12 + dieOfCourse c
    (d.raiseAs (srcMem mem) 0x5002 [] inj true, .drop 0x5E)
  | .service cls pri => (d, .service cls pri 0)
  | .done => (d, .drop 0x51)

/-- R227 to R242: step 7 of R18 for a pass of physical course `c`. -/
def actionStage (d : Dev) (c : Nat) (p : Pass) (bytes : List Byte) (up : ActUpset) (matrix : Option Nat) : Dev × Acted :=
  let x := p.desc
  let act := (d.slot x.tag).act
  let found := p.look.ctxOut = .current || p.look.ctxOut = .reval
  let cpol := if found then p.look.ctx.bind fun k => (d.ctx k.1).policer else none
  let x := { x with ctx := if found then p.look.ctx.map (·.1) else x.ctx, policer := cpol }
  let w0 : Work := { p := ⟨bytes, x.mortar, x.mpatch, 0⟩, anc := anchors p.parse }
  let detail := mortarDetail x (d.slot x.tag).num x.mortar 0
  let leave (d : Dev) (x : Desc) (w : Work) (v : Verdict) (m : Option Nat) : Dev × Acted :=
    let (k, o) := outermost w
    (d, { desc := { x with mortar := w.p.mortar, mlen := w.p.bytes.length, mpatch := w.p.mpatch,
                           lastAct := w.lastAct.orElse fun _ => x.lastAct, l3Kind := k, l3Off := o },
          bytes := w.p.bytes, verdict := v, mirror := m })
  match d.chooseRef c p up with
  | .error s => let (d, v) := d.chainEnd c detail s; leave d x w0 v none
  | .ok (.inl v) => leave d x w0 v none
  | .ok (.inr ref) =>
    match bits ref 31 30 with
    | 2 => leave d x w0 (.drop 0x50) none
    | 3 => leave d x w0 (.service (bits ref 20 17) 0 0) none
    | 0 => leave d x w0 (.drop 0x51) none
    | _ =>
      let inj := d.flag (crsBase c + 0x20C) 0 && bits ref 16 0 < act.nEntries
      let d := if inj then d.clrBit (crsBase c + 0x20C) 0 else d
      let v : ActEnv := { act := act, parse := p.parse, e := entropy p.look p.parse.fv, matrix := matrix }
      let (r, s) := if inj then ({ w := w0 }, Stop.upset true) else runChain v p.look.rtDst up 4 0 (bits ref 16 0) { w := w0 }
      let d := r.counts.foldl (fun d e => d.setCourse c fun s =>
        { s with actCnt := Map.upd s.actCnt e.1 (0, 0) fun n => ((n.1 + 1) % 2 ^ 64, (n.2 + e.2) % 2 ^ 64) }) d
      let x := { x with policer := cpol.orElse fun _ => r.policer }
      if s ≠ .done then let (d, v) := d.chainEnd c detail s; leave d x r.w v r.mirror
      else
        match stampOp x r.w r.last with
        | .error n => leave d x r.w (.drop n) none
        | .ok x =>
          let e0 := word r.last 0
          match bits e0 31 29 with
          | 2 => leave d x r.w (.service (bits e0 23 20) (bits e0 26 24) 0) r.mirror
          | 3 => leave d x r.w (.recirc (bits (word r.last 2) 31 22)) r.mirror
          | _ =>
            let dest := destination d act p.look x.admIf r.last
            let bad := up = .group && bits e0 28 27 ≠ 0
              && (match dest with
                | .copies _ g => g
                | .drop n => n = 0x5F
                | _ => false)
            if bad then let (d, v) := d.chainEnd c detail (.upset false); leave d x r.w v none
            else leave d x r.w dest r.mirror

end Dev

end Sys2Proof.Machine
end

