-- ==== Sys2Proof/Machine/StepEight.lean ====
section
/-! DEFINITION. Step 8 of R18: policing, the judgement of each copy, chains shared by copies, mirror copies, work items
of packets, and the admission check (R103, R243 to R248, R294, R322). -/

namespace Sys2Proof.Machine

/-- A packet that arrives at step 8: its descriptor and bytes, what is written to the bricks, the waiting chain's pass,
the words of its work item beside the head and descriptor, and whether it was replicated. -/
structure Arrival where
  desc    : Desc
  bytes   : List Byte
  written : List Byte
  pass    : Pass
  group   : Bool := false
deriving DecidableEq, Repr

/-- Progress over the copies of one packet: the chain placed in each half, whether the waiting chain was transferred,
whether a copy has been admitted to bricks, and whether the check is made, with its failure. -/
structure Placed where
  chains   : Map (Nat × Nat) := []
  moved    : Bool := false
  admitted : Bool := false
  checked  : Bool
  bad      : Bool
deriving DecidableEq, Repr

/-- R395: words 16 to 31 of a PKT item. -/
def pktWords (p : Pass) (e source : Nat) : List Nat :=
  let opt (o : Option Nat) : Nat := o.getD 0x3FF
  let (tpl, key) := p.look.key.getD (0, [])
  let code := match p.look.ctxOut with
    | .current => 1
    | .reval => 2
    | .noneFirst => 3
    | .nonePend => 4
    | .notMade => 0
    | .error => 0
    | .chainLong => 0
  let g := match p.look.groups.getD 0 .miss with
    | .hit a _ _ _ => 2 ^ 31 + a
    | .miss => 0
    | .error => 0
  ((List.range 10).map fun i => field key (4 * i) 4) ++ [b2n p.look.key.isSome * 2 ^ 31 + tpl,
    if p.look.key.isSome then p.look.hash else e, code * 2 ^ 29 + p.look.l2 * 2 ^ 24 + p.look.l2If * 2 ^ 16, g,
    opt p.parse.lev0.l3 * 2 ^ 20 + opt p.parse.lev0.l4 * 2 ^ 10 + p.parse.parseEnd, p.parse.endNode * 2 ^ 16 + source]

namespace Dev

/-- R395: the words of a PKT item to a dispatch queue, with the block after its ITEM_ID. -/
def pktItem (d : Dev) (x : Desc) (q : Nat) (tail : List Nat) : Dev × List Nat :=
  let (d, id) := d.nextItemId 0
  (d, d.itemHead 0 x.tag (q % 8) ((q - 55296) / 8 % 16) 0 id 0 0 x.ctx ++ x.toWords ++ tail)

/-- The chain of one copy in the half of its queue (R294, R245). -/
def placeChain (d : Dev) (a : Arrival) (s : Placed) (q : Nat) : Dev × Except Nat (Placed × Nat × Nat) :=
  let h := halfOfQueue q
  let cls := classOfQueue q
  match Map.get? s.chains h with
  | some (b, g) => (d.setChain b fun c => { c with refcnt := c.refcnt + 1 }, .ok (s, b, g))
  | none =>
    let x := a.pass.desc
    let done (b g : Nat) (m : Bool) : Placed := { s with chains := Map.put s.chains h (b, g), moved := s.moved || m }
    if a.pass.chained && !s.moved && halfAddr x.chain = h then
      match d.transfer x.chain x.gen cls .xfer a.written with
      | (d, none) => (d, .ok (done x.chain x.gen true, x.chain, x.gen))
      | (d, some r) => (d, .error r)
    else
      let kind : AllocKind := if a.pass.chained then .xfer else if s.chains.isEmpty then .new else .copy
      match d.alloc h cls kind 0 x.admIf a.written with
      | (d, .ok (b, g)) => (d, .ok (done b g false, b, g))
      | (d, .error r) => (d, .error r)

/-- A copy that has bricks queued: a work item with its record brick where the queue is a dispatch queue (R394). -/
def queueCopy (d : Dev) (x : Desc) (q : Nat) (tail : List Nat) (chk : Bool) : Dev :=
  let x := { x with queue := q, admChecked := x.admChecked || chk }
  let nb := max 1 (bricksFor x.mlen)
  if 55296 ≤ q && q < 63488 then
    let (d, ws) := d.pktItem x q tail
    match d.alloc (halfOfQueue q) 2 .new 0 0xFF (wordsToLE ws) with
    | (d, .error r) => (d.release x.chain x.gen).refuseCopy x q r
    | (d, .ok b) => (d.enqueue q { desc := x, enq := d.now, nb := nb + 1, item := some ws, brk := some b }).refuseIfDown q
  else d.enqueue q { desc := x, enq := d.now, nb := nb }

/-- A copy refused; a group copy counts in ACT_CNT_COPY_DROP. -/
def copyRefused (d : Dev) (c : Nat) (a : Arrival) (x : Desc) (q r : Nat) : Dev :=
  (if a.group && !x.mirror then d.bump (crsBase c + 0x238) else d).refuseCopy x q r

/-- Checks 2 to 5 of R322 for one copy, and its queueing; a copy for an interface of the partner is handed to the link (R572). -/
def placeCopy (d : Dev) (c : Nat) (a : Arrival) (s : Placed) (x : Desc) (q : Nat) (tail : List Nat) : Dev × Placed :=
  let i := d.ifOfQueue q
  if q < 55296 && d.crosses i then
    match d.xferAllowed x.mlen with
    | (d, false) => (d.copyRefused c a x q 0xB1, s)
    | (d, true) =>
      match d.placeChain a s q with
      | (d, .error r) => (d.copyRefused c a x q r, s)
      | (d, .ok (s, b, g)) =>
        let s := { s with admitted := true }
        let x := { x with chain := b, gen := g, queue := q, admChecked := x.admChecked || s.checked }
        if s.bad then ((d.release b g).copyRefused c a x q 0x57, s)
        else (d.enterXfer { desc := x, enq := d.now, nb := max 1 (bricksFor x.mlen) }, s)
  else if q < 55296 && !d.takes i then (d.copyRefused c a x q 0x77, s)
  else
    match d.readQueue x q with
    | (d, some r) => (d.copyRefused c a x q r, s)
    | (d, none) =>
      match d.placeChain a s q with
      | (d, .error r) => (d.copyRefused c a x q r, s)
      | (d, .ok (s, b, g)) =>
        let s := { s with admitted := true }
        let x := { x with chain := b, gen := g }
        if s.bad then ((d.release b g).copyRefused c a x q 0x57, s) else (d.queueCopy x q tail s.checked, s)

/-- R103, R108: a check made on a packet admitted to bricks: its counters, and the faults of a failure. -/
def admissionResult (d : Dev) (c : Nat) (x : Desc) (computed : Nat) (bad inj : Bool) : Dev :=
  let base := mrtBase c
  let d := d.bump (base + 0x10)
  if !bad then d else
  let code := if x.msrc = 2 && x.mpatch = 0 then 0x5014 else 0x5011
  let det := mortarDetail { x with admChecked := true } (d.slot x.tag).num x.mortar computed
  let d := (d.bump (base + 0x18)).raiseAs (srcCourse c) code det inj (code = 0x5011)
  if inj then d else
  let n := (d.course c).missWin + 1
  let out := (d.course c).missOut
  let limit := max 1 (d.fld base 15 8)
  let d := d.setCourse c fun s => { s with missWin := n, missOut := out || n > limit }
  if n > limit && !out then d.raise (srcCourse c) 0x5015 det else d

/-- Whether the next packet admitted by a course is checked (R103). -/
def auditDue (d : Dev) (c : Nat) : Bool :=
  let k := 2 ^ d.fld (mrtBase c) 19 16
  (d.course c).audit % k = Config.auditPhase % k

/-- R243, R244, R245, R322: the copies of a packet placed, and its waiting chain freed where it was not transferred. -/
def placeAll (d : Dev) (c : Nat) (a : Arrival) (dest : List (Nat × Option Nat × Bool × Nat)) (tail : List Nat) : Dev :=
  let base := mrtBase c
  let due := d.auditDue c
  let inj := due && d.flag (base + 4) 0
  let computed := crc32c a.written
  let bad := due && (computed ≠ a.desc.mortar || inj)
  let egr := due && d.flag (base + 4) 1
  let x0 := a.desc
  let (d, s) := dest.foldl (fun (st : Dev × Placed) t =>
    let (q, edit, mir, trunc) := t
    let x := { x0 with edit := edit, mirror := mir, trunc := trunc, copy := x0.copy || a.group || mir,
                       mortar := if egr && !bad then x0.mortar ^^^ 0xFFFFFFFF else x0.mortar,
                       inverted := egr && !bad }
    st.1.placeCopy c a st.2 x q tail) (d, { checked := due, bad := bad })
  let d := if a.pass.chained && !s.moved then d.release a.pass.desc.chain a.pass.desc.gen else d
  if !s.admitted then d else
  let d := d.setCourse c fun s => { s with audit := (s.audit + 1) % 1024 }
  if !due then d else
  let d := if inj then d.clrBit (base + 4) 0 else d
  let d := if egr && !bad then d.clrBit (base + 4) 1 else d
  d.admissionResult c x0 computed bad (inj && computed = x0.mortar)

/-- R244: a mirror session sampled; its words where this pass is copied. -/
def sampleMirror (d : Dev) (c : Nat) (act : ActImage) (m : Nat) : Dev × Option (Nat × Nat) :=
  match Map.get? act.mirrors m with
  | none => (d, none)
  | some w =>
    let k := 2 ^ bits w.2 31 28
    let n := Map.getD (d.course c).samples m 0 % k
    let d := d.setCourse c fun s => { s with samples := Map.putD s.samples m 0 ((n + 1) % k) }
    if n = Config.samplePhase % k then (d.bump (crsBase c + 0x240), some w) else (d, none)

/-- A PRE mirror copy: a chain of its own with the bytes that entered the pass, up to TRUNC (R244, R245). -/
def mirrorPre (d : Dev) (c : Nat) (p : Pass) (bytes : List Byte) (w : Nat × Nat) : Dev :=
  let x := p.desc
  let q := bits w.1 31 16
  match patchTruncate ⟨bytes, x.mortar, x.mpatch, 0⟩ (bits w.2 27 14) with
  | .error _ => d
  | .ok t =>
    let (k, o) := outermost { p := ⟨bytes, 0, 0, 0⟩, anc := anchors p.parse }
    let x := { x with mirror := true, copy := true, mortar := t.mortar, mlen := t.bytes.length, mpatch := t.mpatch,
                      l3Kind := k, l3Off := o, edit := if w.1.testBit 14 then some (bits w.1 13 0) else none }
    let a : Arrival := { desc := x, bytes := t.bytes, written := t.bytes, pass := { p with chained := false } }
    (d.placeCopy c a { checked := false, bad := false } x q (pktWords p 0 0)).1

/-- A mirror copy that shares the packet's chain, as step 8 takes it (R244 POST). -/
def mirrorPost (w : Nat × Nat) : Nat × Option Nat × Bool × Nat :=
  (bits w.1 31 16, if w.1.testBit 14 then some (bits w.1 13 0) else none, true, bits w.2 27 14)

/-- A pass dropped in step 7 or refused whole at step 8. -/
def dropAll (d : Dev) (p : Pass) (x : Desc) (r : Nat) : Dev :=
  (if p.chained then d.release p.desc.chain p.desc.gen else d).endCopy x (.dropped r)

/-- Steps 7 and 8 after the verdict: `bytes` entered the pass, and `wr` reaches the bricks where that is not what the
stage left. -/
def carryOut (d : Dev) (c : Nat) (p : Pass) (bytes : List Byte) (a : Acted) (up : ActUpset) (wr : Option (List Byte)) : Dev :=
  let base := crsBase c
  let x := a.desc
  let act := (d.slot x.tag).act
  let e := entropy p.look p.parse.fv
  let drop7 (d : Dev) (r : Nat) : Dev :=
    let d := d.bump (base + 0x218)
    let d := if r = 0x51 then d.bump (base + 0x250) else if r = 0x5B then d.event (base + 0x208) 4
      else if r = 0x5C || r = 0x5D then d.recircRefused c r else d
    d.dropAll p x r
  let verdict : Verdict ⊕ (Nat × Nat) := match a.verdict with
    | .service cls pri src =>
      match d.serviceSet x.tag cls p.look p.parse.fv with
      | some s => .inr (dispatchQueue s cls pri, src)
      | none => .inl (.drop 0x5B)
    | .recirc node =>
      match d.recircReason c x with
      | some r => .inl (.drop r)
      | none => .inl (.recirc node)
    | v => .inl v
  let dropped := match verdict with
    | .inl (.drop _) => true
    | _ => false
  let d := match p.parse.fragKey with
    | some k => if p.parse.fragFirst then d.fragVerdict c { k with port := portIndex x.admIf } dropped else d
    | none => d
  if dropped then
    match verdict with
    | .inl (.drop r) => drop7 d r
    | _ => d
  else if a.mirror.isSome && up = .session then
    let mem := 12 + dieOfCourse c
    drop7 (d.raiseWear (srcMem mem) 0x5002) 0x5E
  else
    let (d, m) := match a.mirror with
      | some n => d.sampleMirror c act n
      | none => (d, none)
    let pre := m.filter fun w => w.1.testBit 15
    let post := (m.filter fun w => !w.1.testBit 15).toList.map mirrorPost
    let d := match pre with
      | some w => d.mirrorPre c p bytes w
      | none => d
    let arrive (d : Dev) (x : Desc) (dest : List (Nat × Option Nat)) (group : Bool) (src : Nat) (ps : Pass) (post : List (Nat × Option Nat × Bool × Nat)) : Dev :=
      let col : Dev × Nat := match x.policer with
        | some n => d.police n (x.mlen + 4)
        | none => (d, 0)
      let d := col.1
      let x := { x with color := col.2 }
      if col.2 = 3 then
        let d := (dest.foldl (fun (d : Dev) t => d.countCause x t.1 0x73) d).countGlobal 0x73
        d.dropAll ps x 0x73
      else
        let d := if group then (d.bump (base + 0x230) dest.length).moreCopies x.pid (dest.length - 1) else d
        d.placeAll c { desc := x, bytes := a.bytes, written := wr.getD a.bytes, pass := ps, group := group }
          (dest.map (fun t => (t.1, t.2, false, 0)) ++ post) (pktWords p e src)
    match verdict with
    | .inr (q, src) => arrive (d.bump (base + 0x220)) x [(q, none)] false src p post
    | .inl (.copies dest group) => arrive (d.bump (base + 0x210)) x dest group 0 p post
    | .inl (.recirc node) =>
      let free := { p with chained := false }
      let arr : Arrival := { desc := x, bytes := a.bytes, written := a.bytes, pass := free }
      let d := post.foldl (fun d t =>
        (d.placeCopy c arr { checked := false, bad := false }
          { x with edit := t.2.1, mirror := true, copy := true, trunc := t.2.2.2 } t.1 (pktWords p e 0)).1) d
      d.enterRecirc c { p with desc := x } a.bytes node false
    | .inl (.drop _) => d
    | .inl (.service _ _ _) => d

end Dev

end Sys2Proof.Machine
end

