-- ==== Sys2Proof/Machine/Holders.lean ====
section
/-! DEFINITION. Chains that an engine or the host queues or injects: the checks of R322 from check 2, the place held
for the copy, and what is done when it is taken. -/

namespace Sys2Proof.Machine

/-- Name of a chain as R381 packs it: brick address and GEN. -/
def chainName (a g : Nat) : Nat := (g % 256) <<< 21 + a % 2 ^ 21

/-- Brick address and GEN of a chain's name. -/
def nameChain (n : Nat) : Nat × Nat := (bits n 20 0, bits n 28 21)

/-- The descriptor of a packet that an engine or the host originates (R400, R401, R456). -/
def originDesc (tag now course mlen a g : Nat) : Desc :=
  { admIf := 0xFF, ledger := course, tag := tag, kind := 2, mlen := mlen, admTime := now / 128, chain := a, gen := g }

/-- The fields of a descriptor that TS_TAG, TS_OP, PTP_OFF and TS_UDP replace (R252 word 5). -/
def stampFields (x : Desc) (w3 : Nat) : Desc :=
  { x with tsTag := bits w3 31 16, tsOp := bits w3 15 14, ptpOff := bits w3 13 4, tsUdp := w3.testBit 3 }

namespace Dev

/-- A brick for the record of a work item that queues a chain to a set, where the queue is a dispatch queue (R394). -/
def recordBrick (d : Dev) (q : Nat) : Dev × Except Nat (Option (Nat × Nat)) :=
  if 55296 ≤ q && q < 63488 then
    match d.alloc (halfOfQueue q) 2 .new 0 0xFF (List.replicate 128 0) with
    | (d, .error r) => (d, .error r)
    | (d, .ok b) => (d, .ok (some b))
  else (d, .ok none)

/-- Checks 2 to 5 of R322 for a chain held from outside, and the place held for it: a chain in the queue's half where the
chain lies in the other, and the brick of its record. `moves` says that the chain itself passes to the queue's class. -/
def placeHeld (d : Dev) (x : Desc) (q : Nat) (moves : Bool) : Dev × Except Nat Waiting :=
  let h := halfOfQueue q
  let n := max 1 (bricksFor x.mlen)
  let bytes := d.chainBytes x.chain x.gen
  let cross := q < 55296 && d.crosses (d.ifOfQueue q)
  if q < 55296 && !cross && !d.takes (d.ifOfQueue q) then (d, .error 0x77)
  else
    let judged : Dev × Option Nat :=
      if cross then let (d, ok) := d.xferAllowed x.mlen; (d, if ok then none else some 0xB1) else d.readQueue x q
    match judged with
    | (d, some r) => (d, .error r)
    | (d, none) =>
      let at_ : Dev × Except Nat (Nat × Nat) :=
        if halfAddr x.chain ≠ h then d.alloc h (classOfQueue q) .xfer 0 0xFF bytes
        else if !moves || (d.chain? x.chain x.gen).any (fun c => c.cls = classOfQueue q) then (d, .ok (x.chain, x.gen))
        else match d.allocReason h (classOfQueue q) n .xfer with
          | some r => (d.countRefusal h r, .error r)
          | none => (d, .ok (x.chain, x.gen))
      match at_ with
      | (d, .error r) => (d, .error r)
      | (d, .ok (a, g)) =>
        match d.recordBrick q with
        | (d, .error r) => (if a = x.chain then d else d.release a g, .error r)
        | (d, .ok b) =>
          (d, .ok { desc := { x with queue := q, chain := a, gen := g }, enq := d.now, nb := n + b2n b.isSome, brk := b })

/-- A held place given back. -/
def unplaceHeld (d : Dev) (w : Waiting) (src : Nat × Nat) : Dev :=
  let d := match w.brk with
    | some b => d.release b.1 b.2
    | none => d
  if w.desc.chain = src.1 && w.desc.gen = src.2 then d else d.release w.desc.chain w.desc.gen

/-- The word of a chain's packet computed over it (R97, R401). -/
def computeWord (d : Dev) (x : Desc) (a g : Nat) : Desc :=
  let b := d.chainBytes a g
  { x with mortar := crc32c b, mlen := b.length, msrc := 1, mpatch := 0, lastAct := none }

/-- A chain's reference passed to the data path by holder `p`: the claim ends with the last reference. -/
def passChain (d : Dev) (a : Nat) (cls : Nat) : Dev :=
  d.setChain a fun c => { c with cls := cls, modified := false, holder := if c.refcnt ≤ 1 then 0 else c.holder }

/-- A held place taken: the copy enters its queue, or the link's (R572). `tail` is words 16 to 31 of its item in a dispatch queue. -/
def takeHeld (d : Dev) (w : Waiting) (src : Nat × Nat) (tail : List Nat) : Dev :=
  let x := w.desc
  let q := x.queue
  let d :=
    if x.chain = src.1 && x.gen = src.2 then d.passChain src.1 (classOfQueue q)
    else
      let c := d.chain? src.1 src.2
      let d := d.setChain x.chain fun y => { y with bytes := (c.map (·.bytes)).getD [], poison := (c.map (·.poison)).getD false }
      match c with
      | some c => (d.setChain src.1 fun y => { y with holder := if y.refcnt ≤ 1 then 0 else y.holder }).dropRef src.1 c
      | none => d
  if w.brk.isSome then
    let (d, ws) := d.pktItem x q tail
    (d.enqueue q { w with enq := d.now, item := some ws }).refuseIfDown q
  else if q < 55296 && d.crosses (d.ifOfQueue q) then
    if d.flag 0x700004 24 && d.pair.xq.length < 4096 then d.enterXfer { w with enq := d.now }
    else (d.bump 0x700138).endWaiting w 0xB1
  else d.enqueue q { w with enq := d.now }

/-- Whether the course of a name may take an injected packet: its domain is ON (R406). -/
def courseOn (d : Dev) (name : Nat) : Bool := d.isOn (4 + d.physical name)

/-- Room in the injection queue of a course by name, with the places that journals hold (R400). -/
def injectRoom (d : Dev) (name : Nat) : Bool := (d.course (d.physical name)).inject.length + d.heldInjects name < 1024

/-- R628 step 3: from the withdrawal until the switch, injections naming a course that moves wait at their source. -/
def moveHolds (d : Dev) (name : Nat) : Bool :=
  d.wear.move.any fun m => m.kind = 0 && 3 ≤ m.step && m.step < 6 && m.unit / 2 ^ 16 = srcCourse (d.physical name)

/-- A packet that enters the injection queue of a course by name; one that is originated is admitted to its ledger.
`cls` is the owner class of its chain (R292). -/
def enterInject (d : Dev) (name node : Nat) (x : Desc) (ret : Bool) (cls : Nat) : Dev :=
  let (d, x) :=
    if ret then (d, x)
    else
      let (d, pid) := d.enrol name
      (d, { x with pid := pid, ledger := name })
  let d := d.passChain x.chain cls
  d.setCourse (d.physical name) fun s => { s with inject := s.inject ++ [⟨{ x with kind := 2 }, node, ret⟩] }

end Dev

end Sys2Proof.Machine
end

