-- ==== Sys2Proof/Machine/TimeIsland.lean ====
section
/-! DEFINITION. Chapter 2: the time island's two views, its discipline, references and state, the speed of the
courses, and time across Dormant. -/

namespace Sys2Proof.Machine

/-- Sub-nanosecond units in a nanosecond (R40). -/
def nsUnit : Nat := 2 ^ 24

/-- Units in a second. -/
def secUnit : Nat := nsUnit * 1000000000

/-- Values of the wall view: 2^48 seconds (R39). -/
def wallSpan : Nat := 2 ^ 48 * secUnit

/-- The effective increment of R40: TIM_INCR corrected by TIM_ADJ. -/
def effectiveIncr (incr : Nat) (adj : Int) : Nat :=
  let base := bits incr 31 24 * nsUnit + bits incr 23 0
  let exact : Int := base * (2 ^ 32 + adj)
  let down := exact / 2 ^ 32
  (if exact % 2 ^ 32 = 0 then down else if Config.incrRoundsUp incr adj then down + 1 else down).toNat

/-- TIM_ADJ as a signed number. -/
def adjLimit : Int := 2147483

/-- Bound of the slewing of R46, scaled by 10^9. -/
def slewLimit : Int := 429497 * 1000000000

/-- A correction scaled by 10^9 as units of TIM_ADJ. -/
def adjOf (x : Int) : Int :=
  let down := x / 1000000000
  if x % 1000000000 = 0 then down else if Config.adjRoundsUp x then down + 1 else down

/-- Rates guaranteed by R33 for courses, by row (0.68 V, 0.75 V, 0.82 V), in Mtoken/s. -/
def tokenTable : List (List Nat) := [[1500, 1520, 1540, 1570], [1630, 1650, 1670, 1700], [1860, 1890, 1920, 1950]]

/-- Rates guaranteed by R33 for engines, in M microwords/s. -/
def microTable : List (List Nat) := [[1600, 1630, 1660, 1700], [1890, 1920, 1950, 2000], [2170, 2210, 2250, 2300]]

/-- R34, R35: the guarantee of a table at a voltage in mV and a temperature in °C; none above 105 °C. -/
def guaranteeOf (table : List (List Nat)) (mv tj : Nat) : Option Nat :=
  if tj > 105 ∨ mv < 680 then none
  else
    let row := if mv ≥ 820 then 2 else if mv ≥ 750 then 1 else 0
    let col := if tj > 95 then 0 else if tj > 85 then 1 else if tj > 70 then 2 else 3
    some ((table.getD row []).getD col 0)

namespace Dev

/-- A change of the time island's own state. -/
def setTime (d : Dev) (f : Time → Time) : Dev := { d with time := f d.time }

/-- Interval view in ns as the island itself holds it. -/
def monoNs (d : Dev) : Nat := d.time.mono / nsUnit

/-- TIM_ERR_BOUND (R49), rounded up to whole ns. -/
def errBound (d : Dev) : Nat :=
  let t := d.time
  match t.st with
  | .locked => 0
  | .unknown => 0xFFFFFFFF
  | .coasted =>
    let ppm := if t.active = 2 then 200 else 20
    min (2 ^ 32 - 1) (t.boundEntry + ((d.monoNs - t.boundAt) * ppm + 999999) / 1000000)

/-- A move to COASTED with a bound at entry; every move out of LOCKED restarts LOCK_COUNT (R48, R49). -/
def toCoasted (d : Dev) (bound : Nat) : Dev :=
  let d' := d.setTime fun t => { t with st := .coasted, lockCount := 0, boundEntry := bound, boundAt := d.monoNs }
  d'.noteModes d

/-- LOCKED left for COASTED; other states stay (R48). -/
def unlock (d : Dev) : Dev := if d.time.st = .locked then d.toCoasted 0 else d

/-- R46, R48: lock. -/
def lock (d : Dev) : Dev :=
  if d.time.st = .locked then d
  else (d.setTime fun t => { t with st := .locked }).noteModes d

/-- DISC of TIM_CTRL. -/
def disc (d : Dev) : Nat := d.fld 0x40000 5 4

/-- TIM_ADJ, signed. -/
def adj (d : Dev) : Int := toSigned 32 (d.reg 0x40018)

/-- TIM_ADJ stored. -/
def setAdj (d : Dev) (a : Int) : Dev := d.setReg 0x40018 (ofSigned 32 a)

/-- A flag of TIM_STATUS set: 7 AON_LOST, 6 PPS_MISS, 5 STEP_REJECT. -/
def timFlag (d : Dev) (i : Nat) : Dev := (d.setBit 0x40004 i).sumBit 1

/-- The source that clocks the island changed: what the bound has grown at the old source's rate stays (R49, R50). -/
def setSource (d : Dev) (r : Nat) : Dev :=
  let bound := d.errBound
  d.setTime fun t =>
    { t with active := r, takeover := none, boundEntry := if t.st = .coasted then bound else t.boundEntry,
             boundAt := if t.st = .coasted then d.monoNs else t.boundAt }

/-- Reference inputs seen to run again (R50). -/
def refsBack (d : Dev) (on156 on10 : Bool) : Dev :=
  d.setTime fun t => { t with ref156 := t.ref156 || on156, ref10 := t.ref10 || on10 }

/-- R40, R42, R51: one cycle of the time island. Steps asked for are applied, both views advance by the effective
increment and are distributed, and PPS_OUT follows the second boundary. -/
def timeCycle (d : Dev) : Dev :=
  let t := d.time
  if !t.running then d else
  let inc := effectiveIncr (d.reg 0x40014) d.adj
  let moved := t.steps.foldl (fun (w : Int) s => w + s * nsUnit) (t.wall : Int)
  let wall := (moved.toNat + inc) % wallSpan
  let mono := (t.mono + inc) % (2 ^ 64 * nsUnit)
  let boundary := wall / secUnit ≠ moved.toNat / secUnit
  let width := max 1 (d.fld 0x40000 15 8) * 1000000
  let en := d.flag 0x40000 6 && t.st ≠ .unknown
  let rise := en && boundary
  let pps := en && (rise || (t.ppsOut && mono / nsUnit < t.ppsUntil))
  let t' : Time :=
    { t with wall := wall, mono := mono, distWall := wall, distMono := mono, steps := [], ppsOut := pps,
             ppsUntil := if rise then mono / nsUnit + width else t.ppsUntil }
  let d := { d with time := t' }
  if t.steps.isEmpty then d else d.followStep.settle

/-- Whether a step of `ns` keeps the wall view within its range (R45). -/
def stepOk (d : Dev) (ns : Int) : Bool :=
  let w := (d.time.steps.foldl (fun (w : Int) s => w + s * nsUnit) (d.time.wall : Int)) + ns * nsUnit
  0 ≤ w && w < wallSpan

/-- A refused step (R45). -/
def rejectStep (d : Dev) : Dev := (d.timFlag 5).raise 0xB000 0xB005

/-- A step through TIM_STEP: applied at the next cycle, or refused (R45, R47). -/
def askStep (d : Dev) (ns : Int) : Dev :=
  if d.stepOk ns then
    d.setTime fun t => { t with steps := t.steps ++ [ns], four := if d.disc = 3 then [] else t.four }
  else d.rejectStep

/-- A step made at once (R44, R47). -/
def stepNow (d : Dev) (ns : Int) : Dev :=
  if d.stepOk ns then
    let w := ((d.time.wall : Int) + ns * nsUnit).toNat
    (d.setTime fun t => { t with wall := w, distWall := w }).followStep.settle
  else d.rejectStep

/-- An update of the discipline: the span of silence ends (R50). -/
def update (d : Dev) : Dev := d.setTime fun t => { t with lastUpdate := d.monoNs, silent := false }

/-- An update in or out of its window counted toward lock and toward COASTED (R46, R48). -/
def countUpdate (d : Dev) (inWindow : Bool) (need : Nat) : Dev :=
  if inWindow then
    let d := d.setTime fun t => { t with lockCount := satAdd 8 t.lockCount 1, outRun := 0 }
    if d.time.lockCount ≥ need then d.lock else d
  else
    let d := d.setTime fun t => { t with lockCount := 0, outRun := t.outRun + 1 }
    if d.time.outRun ≥ 4 then d.unlock else d

/-- R46: a write to TIM_SERVO. -/
def servo (d : Dev) (offset : Int) : Dev :=
  match d.disc with
  | 1 => d.update.countUpdate (-100 ≤ offset && offset ≤ 100) 8
  | 3 => d.update
  | _ => d

/-- R46: a host write to TIM_ADJ, clamped; f takes its value. -/
def writeAdj (d : Dev) (v : Int) : Dev :=
  let a := clampInt (-adjLimit) adjLimit v
  (d.setAdj a).setTime fun t => { t with freq := a * 1000000000 }

/-- Whether offsets agree with one another within 1.0 µs (R47). -/
def agree (l : List Int) : Bool := l.all fun a => l.all fun b => -1000 ≤ a - b && a - b ≤ 1000

/-- R47: an edge more than 1.0 µs off counted toward the step of four. -/
def farEdge (d : Dev) (o : Int) : Dev :=
  let t := d.time
  let run : List Int :=
    match t.four.getLast? with
    | some p => if -1000 ≤ o - p && o - p ≤ 1000 then t.four ++ [o] else [o]
    | none => [o]
  if run.length ≥ 4 && agree run then
    ((d.setTime fun t => { t with four := [], lockCount := 0 }).stepNow (-o))
  else d.setTime fun t => { t with four := run.drop (run.length - 3) }

/-- The offset of a moment from the nearest second boundary of the wall view, in ns (R46, R47). -/
def secondOffset (d : Dev) : Int :=
  let n : Int := d.time.wall / nsUnit % 1000000000
  if n < 500000000 then n else n - 1000000000

/-- R46, R47: a PPS_IN edge. -/
def ppsEdge (d : Dev) (rising : Bool) : Dev :=
  if rising == d.flag 0x40000 7 || !d.time.running then d else
  let ns := d.time.wall / nsUnit % 1000000000
  let sec := d.time.wall / secUnit
  let d := d.setReg 0x40028 (sec % 4 * 2 ^ 30 + ns)
  if d.disc < 2 then d else
  let o := d.secondOffset
  let d := d.update.setTime fun t => { t with lastEdge := d.monoNs, missed := 0 }
  if o < -1000 || 1000 < o then
    let d := (d.timFlag 6).raise 0xB000 0xB003
    let d := d.setTime fun t => { t with prevUsed := false }
    (d.countUpdate false 4).farEdge o
  else
    let c : Int := 4294967296
    let f := if d.time.prevUsed then clampInt (-slewLimit) slewLimit (d.time.freq - o * c) else d.time.freq
    let a := adjOf (clampInt (-slewLimit) slewLimit (f - o * c))
    let d := (d.setTime fun t => { t with freq := f, prevUsed := true, four := [] }).setAdj a
    d.countUpdate (-50 ≤ o && o ≤ 50) 4

/-- R46: an expected PPS_IN edge is missing. -/
def ppsMissing (d : Dev) : Dev :=
  let t := d.time
  if d.disc < 2 || d.monoNs < t.lastEdge + 1500000000 + t.missed * 1000000000 then d
  else (d.timFlag 6).setTime fun t =>
    { t with lockCount := 0, four := [], prevUsed := false, missed := t.missed + 1 }

/-- R50: discipline silent for DISC_TIMEOUT. -/
def discTimeout (d : Dev) : Dev :=
  let t := d.time
  if d.disc = 0 || t.silent || d.monoNs < t.lastUpdate + max 1 (d.fld 0x40000 19 16) * 1000000000 then d
  else ((d.setTime fun t => { t with silent := true }).raise 0xB000 0xB002).unlock

/-- Whether a reference input is present: 0 TREF_156, 1 TREF_10. -/
def refPresent (d : Dev) (r : Nat) : Bool := if r = 0 then d.time.ref156 else d.time.ref10

/-- The source a loss moves the island to (R50). -/
def failoverTo (d : Dev) : Nat :=
  let sel := b2n (d.flag 0x40000 0)
  let other := 1 - sel
  if d.time.active = sel then (if d.flag 0x40000 2 && d.refPresent other then other else 2)
  else if d.refPresent sel then sel else 2

/-- R50: the reference in use is lost, or one selected is absent. -/
def lossOf (d : Dev) (dest : Nat) : Dev :=
  let moved := dest ≠ d.time.active
  let d := (d.raise 0xB000 0xB001).setSource dest
  if moved then d.unlock else d

/-- R50: a reference input stops for 10 of its cycles. -/
def refLost (d : Dev) (r : Nat) : Dev :=
  let d := d.setTime fun t => if r = 0 then { t with ref156 := false } else { t with ref10 := false }
  if d.time.active = r then d.lossOf d.failoverTo else d

/-- R48, R50: REFSEL as written; a present reference takes over later, an absent one is a loss. -/
def selectRef (d : Dev) (changed : Bool) : Dev :=
  let sel := b2n (d.flag 0x40000 0)
  if d.refPresent sel then
    d.setTime fun t => { t with takeover := if t.active = sel then none else some sel }
  else if changed then
    let dest := if d.flag 0x40000 2 && d.refPresent (1 - sel) then 1 - sel else 2
    d.lossOf dest
  else d

/-- R46, R50: what a write of TIM_CTRL does beside storing its fields; `old` is the word it replaces. -/
def timCtrlWritten (d : Dev) (old : Nat) : Dev :=
  let was := bits old 5 4
  let is := d.disc
  let d :=
    if was = is then d
    else
      let d := d.setTime fun t =>
        { t with lockCount := 0, outRun := 0, four := [], lastUpdate := d.monoNs, silent := false, missed := 0,
                 lastEdge := d.monoNs, prevUsed := false,
                 freq := if is ≥ 2 then d.adj * 1000000000 else t.freq }
      if is = 0 then d.unlock else d
  d.selectRef (old % 2 ≠ b2n (d.flag 0x40000 0))

/-- REFSEL's new reference takes over (R48). -/
def refTakeover (d : Dev) : Dev :=
  match d.time.takeover with
  | none => d
  | some r =>
    if d.refPresent r then
      (d.setSource r).unlock
    else d.lossOf d.failoverTo

/-- R43: a read of TIM_NS captures the wall view for TIM_SEC_LO and TIM_SECHI. -/
def readTimNs (d : Dev) : Dev :=
  let w := d.time.wall
  let sec := w / secUnit
  let frac := w % nsUnit / 2 ^ 8
  let d := (d.setReg 0x4000C (sec % 2 ^ 32)).setReg 0x40010 (frac * 65536 + sec / 2 ^ 32)
  { d with readData := BitVec.ofNat 32 (w / nsUnit % 1000000000) }

/-- R43: a read of TIM_MONO_LO captures the interval view for TIM_MONO_HI. -/
def readMonoLo (d : Dev) : Dev :=
  let m := d.time.mono / nsUnit
  let d := d.setReg 0x40030 (m / 2 ^ 32 % 2 ^ 32)
  { d with readData := BitVec.ofNat 32 m }

/-- R36, R37: a course's 10.0 µs window ends with its measured rate, the lowest VDD_CORE and the highest Tj of it. -/
def speedWindow (d : Dev) (c rate mv tj : Nat) : Dev :=
  let a := 0x100010 + c * 0x8000
  if !d.isOn (4 + c) then d else
  let d := (d.setFld a 15 0 rate).setBit a 31
  match guaranteeOf tokenTable mv tj with
  | none => d
  | some g => if rate < g then (d.event a 30).raiseWear (srcCourse c) 0x9020 else d

/-- R56: the snapshot that the steward has commanded, at an LFO edge with the sleep counter at `counter`. -/
def snapshot (d : Dev) (counter : Nat) : Dev :=
  let t := d.time
  if !t.snapAsked || !t.running then d
  else
    let s : Snapshot := ⟨t.wall, t.mono, t.st, d.errBound, counter % 2 ^ 48⟩
    d.setTime fun t => { t with snapshot := some s, running := false, snapAsked := false, sramMono := t.mono }

/-- R57, R59: the load at wake, with the retention valid. -/
def loadSnapshot (d : Dev) (s : Snapshot) (counter : Nat) : Dev :=
  let n := (counter + 2 ^ 48 - s.counter) % 2 ^ 48
  let elapsed := n * 1000000000 * 512
  let bound := min (2 ^ 32 - 1) (s.bound + (n * 20000 + 32767) / 32768)
  let wall := (s.wall + elapsed) % wallSpan
  let mono := s.mono + elapsed
  let st := if s.st = .unknown then TimState.unknown else .coasted
  d.setTime fun t =>
    { t with wall := wall, mono := mono, distWall := wall, distMono := mono, running := true, st := st, lockCount := 0,
             boundEntry := if st = .unknown then 0xFFFFFFFF else bound, boundAt := mono / nsUnit,
             slept := t.slept + elapsed / nsUnit, nap := elapsed / nsUnit, snapshot := none, silent := false, lastUpdate := mono / nsUnit,
             lastEdge := mono / nsUnit, missed := 0, four := [], outRun := 0, prevUsed := false }

/-- R58: the load at a wake that finds the always-on domain's retention lost. -/
def loadLost (d : Dev) : Dev :=
  let m := d.time.sramMono
  let d := d.setTime fun t =>
    { t with wall := 0, mono := m, distWall := 0, distMono := m, running := true, st := .unknown, lockCount := 0,
             nap := 0, boundEntry := 0xFFFFFFFF, boundAt := m / nsUnit, snapshot := none, silent := false,
             lastUpdate := m / nsUnit, lastEdge := m / nsUnit, missed := 0, four := [], outRun := 0, prevUsed := false }
  (d.timFlag 7).raise 0xB000 0xB004

end Dev

/-! ### Commands -/

/-- TIME_ISLAND_CYCLE (R40, R42, R50, R51), with which reference inputs are seen to run at this cycle. -/
def execTimeIslandCycle (on156 on10 : Bool) (s : State) : Result := s.act fun d => (d.timeCycle).refsBack on156 on10

/-- TIM_NS_READ (R43). -/
def execTimNsRead (s : State) : Result := s.host Dev.readTimNs

/-- TIM_MONO_LO_READ (R43). -/
def execTimMonoLoRead (s : State) : Result := s.host Dev.readMonoLo

/-- REFSEL_TAKEOVER (R48). -/
def execRefselTakeover (s : State) : Result := s.act Dev.refTakeover

/-- PPS_IN_EDGE (R46, R47): an edge of PPS_IN at this moment, rising or falling. -/
def execPpsInEdge (rising : Bool) (s : State) : Result := s.act (·.ppsEdge rising)

/-- PPS_EDGE_MISSING (R46). -/
def execPpsEdgeMissing (s : State) : Result := s.act Dev.ppsMissing

/-- DISC_TIMEOUT (R50). -/
def execDiscTimeout (s : State) : Result := s.act Dev.discTimeout

/-- REFERENCE_LOSS (R50): reference input `ref`, 0 TREF_156 or 1 TREF_10, stops. -/
def execReferenceLoss (ref : Fin 2) (s : State) : Result := s.act (·.refLost ref)

/-- SPEED_WINDOW_END (R36): physical course, its measured rate in Mtoken/s, and the window's VDD_CORE in mV and Tj in °C. -/
def execSpeedWindowEnd (course : Fin 18) (rate : BitVec 16) (mv tj : Nat) (s : State) : Result :=
  s.act (·.speedWindow course rate.toNat mv tj)

end Sys2Proof.Machine
end

