-- ==== Sys2Proof/Machine/EngineBase.lean ====
section
/-! DEFINITION. Service engines (chapter 13): registers and the fetched microword, the journal and its commit, traps,
the completion of an item, and the containment of a set. -/

namespace Sys2Proof.Machine

/-! ### Registers (R372, R383) -/

/-- Register `n`; G0 reads 0. -/
def Core.reg (c : Core) (n : Nat) : Nat := if n = 0 then 0 else (c.regs.getD n 0).toNat

/-- Poison bit of register `n`. -/
def Core.bad (c : Core) (n : Nat) : Bool := n ≠ 0 && c.poison.testBit n

/-- A register written with its poison bit; G0 ignores writes. -/
def Core.set (c : Core) (n v : Nat) (bad : Bool) : Core :=
  if n = 0 then c
  else
    let p := c.poison - (c.poison &&& 2 ^ n)
    { c with regs := c.regs.set n (BitVec.ofNat 64 v), poison := if bad then p + 2 ^ n else p }

/-- Bits of WIDTH (R380). -/
def widthOf (nano : Nat) : Nat := 8 * 2 ^ bits nano 51 50

/-- Operand B of a microword and its nanoword (R380), with whether it is poisoned. -/
def Core.operandB (c : Core) (m n : Nat) : Nat × Bool :=
  let imm := mImm m
  match bits n 53 52 with
  | 0 => (c.reg (mRb m), c.bad (mRb m))
  | 1 => (ofSigned 64 (toSigned 16 imm), false)
  | 2 => (imm, false)
  | _ => (imm * 65536, false)

/-- Completion reasons below 0x80 that traps give. -/
def trapWear : List Nat := [1, 2, 3, 4, 8, 10]

namespace Dev

/-! ### Engines -/

/-- STATE of a position: 3 HALTED by debug, else what it has become, else that of birth (R370): 0 in service, 4 SPARE; 7 is a spare
that is WORN without having served (R405). -/
def engState (e : Engine) (p : Nat) : Nat := if e.halted then 3 else e.st.getD (if p = 8 then 4 else 0)

/-- An engine position. -/
def eng (d : Dev) (s p : Nat) : Engine := Map.getD (d.set s).engines p {}

/-- That position changed. -/
def setEng (d : Dev) (s p : Nat) (f : Engine → Engine) : Dev :=
  d.setSet s fun x => { x with engines := Map.upd x.engines p {} f }

/-- The program of an item in a set. -/
def progOfItem (d : Dev) (s : Nat) (w : List Nat) : Prog := Map.getD (d.slot (itemTag w)).progs s {}

/-- What a fetch finds at the engine's microword address. -/
inductive Fetched where
  | none
  | word (m n : Nat)
  | illegal
deriving DecidableEq, Repr

/-- The microword and nanoword at the engine's address; an invalid SEQ, COND, NANO, UNIT or OP is ILLEGAL (R391). -/
def fetch (d : Dev) (s p : Nat) : Fetched :=
  let e := d.eng s p
  match e.item with
  | none => .none
  | some r =>
    let g := d.progOfItem s r.words
    match g.micro? e.core.pc with
    | none => .illegal
    | some m =>
      match g.nano[mNano m]? with
      | none => .illegal
      | some n => if mSeq m = 7 || mCond m > 18 || !opValid n then .illegal else .word m n

/-! ### The journal (R388, R389, R392) -/

/-- Reservations and holds of a journal released, bricks and queue places returned. -/
def undoJournal (d : Dev) (s : Nat) (j : List JEntry) : Dev :=
  j.foldl (fun d e => match e with
    | .chainAlloc a g => match d.chain? a g with
      | some c => if c.holder = s + 1 then (d.setChain a fun c => { c with holder := 0 }).dropRef a c else d
      | none => d
    | .enq _ w src _ => d.unplaceHeld w src
    | .send _ w => match w.brk with
      | some b => d.release b.1 b.2
      | none => d
    | _ => d) d

/-- A commit entry skipped because its target has changed since issue (R389). -/
def stale (d : Dev) (s : Nat) : Dev := ((d.raise (srcSet s) 0x8030).event (setBase s + 8) 3).bump (setBase s + 0x130)

/-- The chain of an entry as holder `s + 1` may still act on it. -/
def heldChain (d : Dev) (s a g : Nat) : Option Chain := (d.chain? a g).filter fun c => c.holder = s + 1

/-- The words of a context as an engine's WRITE changes them (R381). -/
def spliceWords (old : List Nat) (first : Nat) (w : List Nat) : List Nat :=
  old.take first ++ w ++ old.drop (first + w.length)

/-- A timer of a set armed by a commit (R403). -/
def armTimer (d : Dev) (s t delay pri cls cookie : Nat) (shadow : Bool) : Dev :=
  d.setSet s fun x => { x with timers := Map.put x.timers t ⟨d.now + delay * 1000, pri, cls, cookie, shadow⟩ }

/-- One journal entry applied at commit. -/
def applyEntry (d : Dev) (s p : Nat) (own : Option Desc) (e : JEntry) : Dev :=
  let dispose (d : Dev) (o : Bool) : Dev :=
    if o then d.setEng s p fun x => { x with item := x.item.map fun r => { r with disposed := true } } else d
  match e with
  | .st a n v => d.memStore s a (leBytes n v)
  | .addc a n v =>
    if (d.poisonMet s a n).isEmpty then d.memWrite s a (leBytes n (ofLE (d.memRead s a n) + v))
    else d.writeRefused (6 + s / 32) none
  | .ctxWrite i g f w =>
    match d.ctxWrite i g (fun c => c.write false (spliceWords c.toWords f w)) true with
    | (d, none) => d
    | (d, some _) => d.stale s
  | .ctxCreate i c =>
    let ok := !(d.ctx i).valid && ((d.ctx i).gen + 1) % 256 = c.gen && !d.placeBad c.tpl c.key && match d.placeFor c.tpl c.key with
      | .error (some _) => false
      | _ => true
    if ok then d.ctxCreateAt i c else d.stale s
  | .ctxFree i g =>
    match d.ctxFree i g with
    | (d, none) => d
    | (d, some _) => d.stale s
  | .chainAlloc _ _ => d
  | .chainShare a g =>
    match d.heldChain s a g with
    | some c => if c.refcnt ≥ 255 then d.stale s else (d.setChain a fun c => { c with refcnt := c.refcnt + 1 })
    | none => d.stale s
  | .chainRelease a g =>
    match d.heldChain s a g with
    | some c => d.dropRef a c
    | none => d.stale s
  | .chainFree a g =>
    match d.heldChain s a g with
    | some c => (d.setChain a fun c => { c with holder := 0 }).dropRef a c
    | none => d.stale s
  | .chainGive a g dest =>
    match d.heldChain s a g with
    | some _ =>
      let d := d.setChain a fun c => { c with holder := dest, modified := false }
      match own with
      | some x => if x.chain = a && x.gen = g then dispose (d.endCopy x .service) true else d
      | none => d
    | none => d.stale s
  | .enq _ w src o =>
    match d.chain? src.1 src.2 with
    | none => (d.unplaceHeld w src).stale s
    | some c =>
      let x := w.desc
      let y := if c.modified || !o then d.computeWord { x with chain := src.1, gen := src.2 } src.1 src.2 else x
      let w := { w with desc := { y with chain := x.chain, gen := x.gen } }
      let words := (d.eng s p).item.map (·.words)
      let tail := if o then ((words.getD []).drop 16).take 15 ++ [withBits ((words.getD []).getD 31 0) 2 0 3]
        else List.replicate 14 0 ++ [0x3FFFFFFF, 3]
      dispose (d.takeHeld w src tail) o
  | .inject c node x o =>
    match d.chain? x.chain x.gen with
    | none => d.stale s
    | some ch =>
      let y := if x.msrc = 1 || ch.modified && x.msrc = 0 || (!o && x.msrc = 0) then d.computeWord x x.chain x.gen
        else if x.msrc = 2 then { x with mpatch := 0, mlen := ch.bytes.length }
        else { x with msrc := (own.map (·.msrc)).getD 0 }
      dispose (d.enterInject c node (if o then y else { y with admTime := d.now / 128 }) o 2) o
  | .send q w =>
    (d.enqueue q { w with enq := d.now }).refuseIfDown q
  | .tarm t delay pri cls cookie => d.armTimer s t delay pri cls cookie false
  | .tcancel t => d.setSet s fun x => { x with timers := Map.erase x.timers t }
  | .wservo v => d.servo (toSigned 32 v)
  | .wadj v => d.writeAdj (toSigned 32 v)
  | .wstep v => d.askStep (toSigned 32 v)

/-- The entries of a commit that the partner is told (R564). -/
def mirrorEntries (j : List JEntry) : List (Nat × Nat × Nat) :=
  j.filterMap fun e => match e with
    | .st a n v => some (0, a + n * 2 ^ 20, v)
    | .addc a n v => some (1, a + n * 2 ^ 20, v)
    | .tarm t delay pri cls cookie => some (2, t + delay * 2 ^ 12, pri * 2 ^ 36 + cls * 2 ^ 32 + cookie)
    | .tcancel t => some (3, t, 0)
    | _ => none

/-- R389: the journal committed, in its order; the entries go to the partner as one record. -/
def commitJournal (d : Dev) (s p : Nat) : Dev :=
  let e := d.eng s p
  if e.journal.isEmpty then d else
  let own := e.item.bind fun r => if r.disposed then none else r.desc
  let d := d.setEng s p fun x => { x with journal := [], item := x.item.map fun r => { r with commits := r.commits + 1 } }
  let l := if d.flag (setBase s) 1 then mirrorEntries e.journal else []
  let d := d.setPair fun x => { x with gather := some (if l.isEmpty then [] else [.commit s l]) }
  let d := e.journal.foldl (fun d j => d.applyEntry s p own j) d
  (d.bump (setBase s + 0x128)).sendGathered

/-! ### Completion (R387, R398, R399) -/

/-- The item of an engine completes; its packet is disposed of where no commit has done it. -/
def finishItem (d : Dev) (s p status reason result : Nat) : Dev :=
  let e := d.eng s p
  match e.item with
  | none => d
  | some r =>
    let d := d.setEng s p fun x =>
      { x with item := none, journal := [], badJrnl := none, wait := false, seqDue := false, atSafe := false, count := 0,
               halted := x.halted || Map.has x.intr 1 || x.dbg = 1, dbg := 0,
               intr := x.intr.filter fun i => i.1 = 0 }
    let d := d.completeItem s r.words status reason p r.commits r.micros result
    match r.desc with
    | none => d
    | some x =>
      if r.disposed then d
      else
        let d := d.setChain x.chain fun c => { c with holder := 0 }
        (d.release x.chain x.gen).endCopy x (if status = 0 then .service else .dropped (dropOfReason reason))

/-- An item trapped without a handler under a reason that has no fault: its open stretch is discarded (R390, R392 steps 1 to 4
and 7, R406, R408). -/
def killItem (d : Dev) (s p reason : Nat) : Dev :=
  let j := (d.eng s p).journal
  let d := ((d.bump (setBase s + 0x120)).event (setBase s + 8) 0).setEng s p fun x => { x with lastTrap := reason }
  ((d.undoJournal s j).setEng s p fun x => { x with journal := [] }).finishItem s p 1 reason 0

/-! ### Containment of a set (R408) -/

/-- A set leaves service: running items end FAILED and queued ones NOT_RUN, its chains are released and its timers
disarmed. -/
def containSet (d : Dev) (s : Nat) : Dev :=
  let d := (d.setFld (setBase s + 4) 30 28 3).event (setBase s + 8) 4
  let d := (List.range 9).foldl (fun d p => if (d.eng s p).item.isSome then d.killItem s p 0x24 else d) d
  let d := (List.range 128).foldl (fun d k => d.refuseIfDown (55296 + 128 * s + k)) d
  let mine (h : Nat) : List (Nat × Chain) := (d.half h).chains.filter fun e => e.2.holder = s + 1
  let d := ([0, 1].flatMap fun h => (mine h).map fun e => (h * 2 ^ 20 + e.1, e.2)).foldl (fun d e =>
    (d.setChain e.1 fun c => { c with holder := 0 }).dropRef e.1 e.2) d
  d.setSet s fun x => { x with timers := [], lastCls := [] }

/-! ### Traps (R391 to R393) -/

/-- A trap that enters wear counts, counted toward TRAP_LIMIT (R408). -/
def countTrap (d : Dev) (s : Nat) : Dev :=
  let ts := ((d.set s).traps.filter fun t => d.now < t + 1000000000) ++ [d.now]
  let d := d.setSet s fun x => { x with traps := ts }
  if ts.length > max 1 (d.fld (setBase s) 17 10) && d.fld (setBase s + 4) 30 28 ≠ 3 then
    (d.raise (srcSet s) 0x8020).setSet s fun x => { x with traps := [] }
  else d

/-- The fault of a trap (R412, R604). -/
def trapFault (d : Dev) (s p code : Nat) (inj : Bool) : Dev :=
  let e := d.eng s p
  let w := (e.item.map (·.words)).getD []
  let det := [s <<< 24 + p <<< 20 + e.core.pc, w.getD 1 0, bits (w.getD 0 0) 31 28 <<< 28 + bits (w.getD 2 0) 31 16]
  let d := d.raiseAs (srcEng s p) (0x8000 + code) det inj (trapWear.contains code)
  ((d.bump (setBase s + 0x120)).event (setBase s + 8) 0).setEng s p fun x => { x with lastTrap := code }

/-- R392: a trap of an engine. TIME enters no handler (R409); a trap in the handler is DOUBLE (R393). -/
def trap (d : Dev) (s p code : Nat) (inj : Bool := false) : Dev :=
  let e := d.eng s p
  match e.item with
  | none => d
  | some r =>
    let code' := if r.trapped.isSome then 0x0B else code
    let pc := e.core.pc
    let d := d.trapFault s p code' inj
    let d := (d.undoJournal s e.journal).setEng s p fun x =>
      { x with journal := [], badJrnl := none, core := x.ckpt, wait := false, seqDue := false, atSafe := false, count := 0,
               halted := x.halted || x.dbg = 1, dbg := 0 }
    let d := match (d.progOfItem s r.words).trapVec with
      | some v =>
        if code' = 0x07 || code' = 0x0B then d.finishItem s p 1 code' 0
        else d.setEng s p fun x =>
          { x with core := { ((x.core.set 31 code' false).set 30 pc false) with pc := v },
                   item := x.item.map fun r => { r with trapped := some code' } }
      | none => d.finishItem s p 1 code' 0
    if trapWear.contains code' && !inj then d.countTrap s else d

/-! ### Safe points (R386) -/

/-- Whether a commit finds an entry with an uncorrectable error; with whether an injection caused it. -/
def journalBad (e : Engine) (bad : Bool) : Option Bool :=
  if e.journal.isEmpty then none else if bad then some false else e.badJrnl

/-- R677: whether a breakpoint of MID `mid` matches the microword that an engine is about to execute. -/
def breaks (d : Dev) (s p : Nat) (mid : Bool) : Bool :=
  let e := d.eng s p
  let hits (r : Running) (v : Nat) : Bool :=
    v.testBit 31 && v.testBit 30 = mid && (v.testBit 29 || bits v 25 20 = s)
      && (v.testBit 28 || bits v 27 27 = itemTag r.words) && bits v 11 0 = e.core.pc
  e.dbg = 0 && e.item.any fun r => d.dbg.bps.any fun b => b.1 < 0x40 && hits r b.2.toNat

/-- An engine halted by debug. -/
def haltAt (d : Dev) (s p : Nat) : Dev := d.setEng s p fun x => { x with halted := true, intr := Map.erase x.intr 1, dbg := 0 }

/-- R386, R390: a safe point; `bad` is an uncorrectable journal entry. -/
def safePoint (d : Dev) (s p : Nat) (bad : Bool) : Dev :=
  let e := d.eng s p
  match d.fetch s p with
  | .word m _ =>
    if !mSafe m || e.atSafe || e.wait || e.seqDue || engState e p = 3 then d
    else if d.breaks s p true then d.haltAt s p
    else match journalBad e bad with
    | some inj => d.trap s p 0x0A inj
    | none =>
      let stop := d.breaks s p false
      let d := d.commitJournal s p
      let d := d.setEng s p fun x => { x with ckpt := x.core, count := 0, badJrnl := none, atSafe := true }
      if Map.has e.intr 2 then d.finishItem s p 1 0x22 0
      else if Map.has e.intr 3 then d.finishItem s p 1 0x21 0
      else if Map.has e.intr 1 || stop then d.haltAt s p
      else d
  | .illegal => d
  | .none => d

/-! ### Item times -/

/-- Whether an item has run its time: ITEM_MAX from its start, or its packet AGE_MAX + 9 ms from admission (R391). -/
def itemOver (d : Dev) (r : Running) : Bool :=
  d.now ≥ r.start + r.limit * 1000
    || r.desc.any fun x => !r.disposed && d.now / 128 * 128 ≥ x.admTime * 128 + d.ageMax + 9000000

/-- ITEM_TIME_TRAP (R409). -/
def itemTimeTrap (d : Dev) (s p : Nat) : Dev :=
  if (d.eng s p).item.any d.itemOver then d.trap s p 0x07 else d

/-- WATCHDOG_TRAP (R391). -/
def watchdogTrap (d : Dev) (s p : Nat) : Dev := if (d.eng s p).count ≥ 1024 then d.trap s p 0x02 else d

/-- INTERRUPT_DEADLINE (R390): an interrupt that ends its item and found no safe point within 10 µs; and an item that still
runs at the end of its set's drain (R406). -/
def interruptDeadline (d : Dev) (s p : Nat) : Dev :=
  let e := d.eng s p
  let due (k : Nat) : Bool := (Map.get? e.intr k).any fun t => d.now ≥ t + 10000
  if due 2 then d.killItem s p 0x22 else if due 3 then d.killItem s p 0x21 else d

/-- An interrupt posted to an engine; the first posting counts (R390). One that is halted at a safe point takes ABORT and EPOCH_END
at once (R678). -/
def post (d : Dev) (s p k : Nat) : Dev :=
  let e := d.eng s p
  if e.halted && e.atSafe && e.item.isSome && k ≥ 2 then d.finishItem s p 1 (if k = 2 then 0x22 else 0x21) 0
  else d.setEng s p fun x => { x with intr := if Map.has x.intr k then x.intr else Map.put x.intr k d.now }

/-! ### The end of the drain (R277, R407) -/

/-- Items of a tag that have not started completed NOT_RUN, and EPOCH_END posted to the engines that run one. -/
def endItems (d : Dev) (tag : Nat) : Dev :=
  let qs := (Map.keys d.sched.queues).filter fun q => 55296 ≤ q && q < 63488
  let d := qs.foldl (fun d q =>
    let ws := (d.queue q).items
    let (gone, keep) := ws.partition fun w => w.item.any fun i => itemTag i = tag
    if gone.isEmpty then d else
    let d := d.setQueue q fun x => { x with items := keep, awake := x.awake && !keep.isEmpty }
    gone.foldl (fun d w => d.notRun q w 0x21 0x93) d) d
  d.sets.foldl (fun d s => s.2.engines.foldl (fun d e =>
    if e.2.item.any fun r => itemTag r.words = tag then d.post s.1 e.1 3 else d) d) d

/-- EPOCH_END_DEADLINE: 100 ms after COMMIT_AT (R277). -/
def epochEndDeadline (d : Dev) : Dev :=
  if d.epochs.draining && d.now ≥ d.epochs.commitAt + 100000000 then d.endItems d.otherTag else d

/-- Every descriptor of a tag in a wait place, in staging or in a queue ended under 0x7E (R277). -/
def auditTag (d : Dev) (tag : Nat) : Dev :=
  let gone (x : Desc) : Bool := x.tag = tag
  let endP (d : Dev) (p : Pass) : Dev := (d.countGlobal 0x7E).dropPass p 0x7E
  let d := d.staging.foldl (fun d e =>
    let d := { d with staging := Map.putD d.staging e.1 [] (e.2.filter fun s => !gone s.desc) }
    (e.2.filter fun s => gone s.desc).foldl (fun d s => endP d { desc := s.desc }) d) d
  let d := d.courses.foldl (fun d e =>
    let c := e.2
    let d := d.setCourse e.1 fun x =>
      { x with hold := x.hold.filter fun h => !gone h.pass.desc, missq := x.missq.filter fun p => !gone p.desc,
               recirc := x.recirc.filter fun r => !gone r.desc, inject := x.inject.filter fun r => !(r.ret && gone r.desc) }
    let d := (c.hold.filter fun h => gone h.pass.desc).foldl (fun d h => endP d h.pass) d
    let d := (c.missq.filter fun p => gone p.desc).foldl (fun d p => endP d p) d
    let d := (c.recirc.filter fun r => gone r.desc).foldl (fun d r => endP d { desc := r.desc, chained := true }) d
    (c.inject.filter fun r => r.ret && gone r.desc).foldl (fun d r => endP d { desc := r.desc, chained := true }) d) d
  let d := d.aus.foldl (fun d e =>
    let l := e.2.queue ++ e.2.running
    let d := { d with aus := Map.adjust d.aus e.1 fun a =>
      { a with queue := a.queue.filter fun s => !gone s.pass.desc, running := a.running.filter fun s => !gone s.pass.desc } }
    (l.filter fun s => s.inline && gone s.pass.desc).foldl (fun d s => endP d s.pass) d) d
  let d := d.endItems tag
  d.sched.queues.foldl (fun d e =>
    let out := e.2.items.filter fun w => w.item.isNone && gone w.desc
    if out.isEmpty then d else
    let d := d.setQueue e.1 fun x =>
      let keep := x.items.filter fun w => !(w.item.isNone && gone w.desc)
      { x with items := keep, awake := x.awake && !keep.isEmpty }
    out.foldl (fun d w => (d.endWaiting w 0x7E).countIfEnd e.1 1) d) d

/-- DRAIN_AUDIT: 150 ms after COMMIT_AT (R277). -/
def drainAudit (d : Dev) : Dev :=
  let e := d.epochs
  if e.draining && !e.zero && !e.audited && d.now ≥ e.commitAt + 150000000 && d.drainCount d.otherTag ≠ 0 then
    let d := (d.raise 0xC000 0xC050).event 0x11C 3
    (d.auditTag d.otherTag).setEpochs fun e => { e with audited := true }
  else d

end Dev

/-- SAFE_POINT (R386): set, position, and whether a journal entry reads uncorrectable. -/
def execSafePoint (set : Fin 64) (pos : Fin 9) (bad : Bool) (s : State) : Result := s.act (·.safePoint set pos bad)

/-- WATCHDOG_TRAP (R391). -/
def execWatchdogTrap (set : Fin 64) (pos : Fin 9) (s : State) : Result := s.act (·.watchdogTrap set pos)

/-- ITEM_TIME_TRAP (R409). -/
def execItemTimeTrap (set : Fin 64) (pos : Fin 9) (s : State) : Result := s.act (·.itemTimeTrap set pos)

/-- INTERRUPT_DEADLINE (R390). -/
def execInterruptDeadline (set : Fin 64) (pos : Fin 9) (s : State) : Result := s.act (·.interruptDeadline set pos)

/-- EPOCH_END_DEADLINE (R407). -/
def execEpochEndDeadline (s : State) : Result := s.act Dev.epochEndDeadline

/-- DRAIN_AUDIT (R277). -/
def execDrainAudit (s : State) : Result := s.act Dev.drainAudit

end Sys2Proof.Machine
end

