-- ==== Sys2Proof/Machine/EngineOps.lean ====
section
/-! DEFINITION. The operations of nanowords that compute, and those on set memory, the item record, the context buffer
and packets (R380 to R385); how a microword runs and goes on (R378, R379). -/

namespace Sys2Proof.Machine

/-- What an operation comes to: the block and the core after it, or a trap. -/
inductive OpOut where
  | ok (d : Dev) (c : Core)
  | trap (d : Dev) (code : Nat)

/-- An operation: over the block, set, position, core, microword and nanoword. -/
abbrev OpFn := Dev → Nat → Nat → Core → Nat → Nat → OpOut

/-! ### Results and flags (R379, R380, R383) -/

/-- A result written to RD at WIDTH; SETCC sets the flags from it, C and V as given or else free; a poisoned result traps
where it sets flags. `rd` is false for an operation that sets flags only. -/
def putAt (d : Dev) (c : Core) (m n v : Nat) (bad rd : Bool) (cv : Option (Bool × Bool)) : OpOut :=
  let w := widthOf n
  let v := v % 2 ^ w
  if !n.testBit 49 then .ok d (if rd then c.set (mRd m) v bad else c)
  else if bad then .trap d 0x05
  else
    let (cf, vf) := cv.getD (d.free.testBit 0, d.free.testBit 1)
    let d := if cv.isSome then d else d.used
    let c := { c with z := v = 0, n := v.testBit (w - 1), c := cf, v := vf }
    .ok d (if rd then c.set (mRd m) v bad else c)

/-- A result written to RD. -/
def put (d : Dev) (c : Core) (m n v : Nat) (bad : Bool) : OpOut := putAt d c m n v bad true none

/-- S set, and nothing else. -/
def report (d : Dev) (c : Core) (s : Nat) : OpOut := .ok d { c with s := s }

/-- A result with status OK. -/
def putOk (d : Dev) (c : Core) (m n v : Nat) (bad : Bool) : OpOut := put d { c with s := 0 } m n v bad

/-- A op B at WIDTH, with the flags C and V where the operation gives them. -/
def alu (f : Nat → Nat → Nat → Nat × Option (Bool × Bool)) (rd : Bool) : OpFn := fun d _ _ c m n =>
  let w := widthOf n
  let (b, pb) := c.operandB m n
  let (v, cv) := f w (c.reg (mRa m) % 2 ^ w) (b % 2 ^ w)
  putAt d c m n v (c.bad (mRa m) || pb) rd cv

/-- Sum with its carry and signed overflow. -/
def addFlags (w a b : Nat) : Nat × Option (Bool × Bool) :=
  let v := (a + b) % 2 ^ w
  let sum := toSigned w a + toSigned w b
  (v, some (a + b ≥ 2 ^ w, toSigned w v ≠ sum))

/-- Difference with its borrow and signed overflow. -/
def subFlags (w a b : Nat) : Nat × Option (Bool × Bool) :=
  let v := (a + 2 ^ w - b) % 2 ^ w
  let dif := toSigned w a - toSigned w b
  (v, some (a < b, toSigned w v ≠ dif))

/-- An operation without flags of its own. -/
def plain (f : Nat → Nat → Nat) : Nat → Nat → Nat → Nat × Option (Bool × Bool) := fun _ a b => (f a b, none)

/-- Whether `a` is not above `b` as MIN and MAX compare. -/
def atMost (w a b : Nat) : Bool := if Config.minMaxSigned then toSigned w a ≤ toSigned w b else a ≤ b

/-- MIN and MAX. -/
def minOf (w a b : Nat) : Nat × Option (Bool × Bool) := (if atMost w a b then a else b, none)
/-- MAX. -/
def maxOf (w a b : Nat) : Nat × Option (Bool × Bool) := (if atMost w a b then b else a, none)

/-- Shifts; SAR fills with the sign. -/
def sarOf (w a b : Nat) : Nat × Option (Bool × Bool) :=
  (ofSigned w (toSigned w a / 2 ^ min b w), none)

/-- EXT and INS: the field of FLEN + 1 bits at FPOS. -/
def fieldOp (ins : Bool) : OpFn := fun d _ _ c m n =>
  let w := widthOf n
  let lo := bits n 48 43
  let len := bits n 42 37 + 1
  let a := c.reg (mRa m)
  let (b, pb) := c.operandB m n
  if ins then
    let mask := (2 ^ len - 1) <<< lo % 2 ^ 64
    let v := (a - (a &&& mask)) + ((b % 2 ^ len) <<< lo) % 2 ^ 64
    putAt d c m n (v % 2 ^ w) (c.bad (mRa m) || pb) true none
  else putAt d c m n ((a >>> lo) % 2 ^ len) (c.bad (mRa m)) true none

/-- BSWAP and POPCNT act on A alone. -/
def unary (f : Nat → Nat → Nat) : OpFn := fun d _ _ c m n =>
  let w := widthOf n
  putAt d c m n (f w (c.reg (mRa m) % 2 ^ w)) (c.bad (mRa m)) true none

/-- Bytes reversed. -/
def bswapOf (w a : Nat) : Nat := ofBE (leBytes (w / 8) a)

/-- Ones. -/
def popcntOf (w a : Nat) : Nat := (List.range w).foldl (fun n i => n + b2n (a.testBit i)) 0

/-! ### Addresses -/

/-- A + B as an address, with whether it is poisoned. -/
def addrOf (c : Core) (m n : Nat) : Nat × Bool :=
  let (b, pb) := c.operandB m n
  ((c.reg (mRa m) + b) % 2 ^ 64, c.bad (mRa m) || pb)

/-- Bytes of set memory with the values of journalled stores over them (R388). -/
def Dev.memSeen (d : Dev) (s p a n : Nat) : List Byte :=
  (d.eng s p).journal.foldl (fun l e => match e with
    | .st b k v =>
      let w := leBytes k v
      l.zipIdx.map fun x => if b ≤ a + x.2 && a + x.2 < b + k then w.getD (a + x.2 - b) 0 else x.1
    | _ => l) (d.memRead s a n)

/-- Whether a read of set memory meets a POISONED word that no journalled store covers. -/
def Dev.memPoison (d : Dev) (s p a n : Nat) : Bool :=
  (d.set s).poison.any fun w =>
    (List.range n).any fun i => (a + i) / 8 = w && !(d.eng s p).journal.any fun e => match e with
      | .st b k _ => b ≤ a + i && a + i < b + k
      | _ => false

/-- Words of a block in set memory. -/
def Dev.block (d : Dev) (s p a k : Nat) : List Nat := leWords k (d.memSeen s p a (4 * k))

/-- Bytes of set memory (R371). -/
def setMemSize : Nat := 0x80000

/-- Whether a store of `n` bytes is forbidden (R374). -/
def storeForbidden (a n : Nat) : Bool := (a < 0x7BA00 && 0x7B800 < a + n) || 0x7BB80 < a + n

/-! ### Memory operations -/

/-- MEM LD. -/
def opLd : OpFn := fun d s p c m n =>
  let (a, bad) := addrOf c m n
  let k := widthOf n / 8
  if bad then .trap d 0x05 else if a + k > setMemSize then .trap d 0x06
  else put d c m n (ofLE (d.memSeen s p a k)) (d.memPoison s p a k)

/-- MEM LDI: the item's record. -/
def opLdi : OpFn := fun d s p c m n =>
  let (a, bad) := addrOf c m n
  let k := widthOf n / 8
  let w := ((d.eng s p).item.map (·.words)).getD []
  if bad then .trap d 0x05 else if a + k > 128 then .trap d 0x06
  else put d c m n (ofLE (slice (wordsToLE w) a k)) false

/-- MEM LDC. -/
def opLdc : OpFn := fun d _ _ c m n =>
  let (a, bad) := addrOf c m n
  let k := widthOf n / 8
  if bad then .trap d 0x05 else if a + k > 128 then .trap d 0x06
  else put d c m n (ofLE (slice (wordsToLE c.buf) a k)) false

/-- MEM STC. -/
def opStc : OpFn := fun d _ _ c m n =>
  let (a, bad) := addrOf c m n
  let k := widthOf n / 8
  if bad then .trap d 0x05 else if a + k > 128 then .trap d 0x06
  else .ok d { c with buf := leWords 32 (patch (wordsToLE c.buf) a (leBytes k (c.reg (mRd m)))) }

/-- An entry added to the journal; the 17th traps. INJ_JRNL marks it (R410). -/
def journalAdd (d : Dev) (s p : Nat) (c : Core) (e : JEntry) : OpOut :=
  let g := d.eng s p
  if g.journal.length ≥ 16 then .trap d 0x03
  else
    let inj := d.flag (Dev.setBase s + 0x0C) 1
    let d := if inj then d.clrBit (Dev.setBase s + 0x0C) 1 else d
    .ok (d.setEng s p fun x => { x with journal := x.journal ++ [e], badJrnl := if inj then some true else x.badJrnl }) c

/-- Whether the journal is full, which the next journalled operation finds before it acts. -/
def journalFull (d : Dev) (s p : Nat) : Bool := (d.eng s p).journal.length ≥ 16

/-- MEM ST and ADDC. -/
def opStore (add : Bool) : OpFn := fun d s p c m n =>
  let (a, bad) := addrOf c m n
  let k := widthOf n / 8
  if bad || c.bad (mRd m) then .trap d 0x05
  else if a + k > setMemSize || storeForbidden a k then .trap d 0x06
  else
    let v := c.reg (mRd m) % 2 ^ (8 * k)
    journalAdd d s p c (if add then .addc a k v else .st a k v)

/-! ### Packet operations (R385) -/

/-- Bytes that nothing has written: free values, one a byte. -/
def Dev.freeBytes (d : Dev) (n : Nat) : List Byte := (List.range n).map fun i => BitVec.ofNat 8 (Config.freeValue (d.fresh + i))

/-- The current chain: a trap where there is none; else S for one that is down or no longer valid (R305). -/
def curChain (d : Dev) (c : Core) (f : Dev → Nat → Nat → Chain → OpOut) : OpOut :=
  match c.cur with
  | none => .trap d 0x06
  | some (a, g) =>
    if !d.halfOn (Dev.halfAddr a) then report d c 0x0D
    else match d.chain? a g with
      | none =>
        let h := Dev.halfAddr a
        report ((d.raise (srcHalf h) 0x6012).event (Dev.brkBase h + 8) 5) c 0x0E
      | some x => f d a g x

/-- PKT PLD. -/
def opPld : OpFn := fun d _ _ c m n =>
  let (o, bad) := addrOf c m n
  let k := widthOf n / 8
  if bad then .trap d 0x05
  else curChain d c fun d _ _ x =>
    if o + k > 16383 then .trap d 0x06
    else
      let overAt := (o + k) - x.bytes.length
      let miss := min k overAt
      let l := slice x.bytes o k ++ d.freeBytes miss
      putOk (d.used miss) { c with pktEnd := overAt > 0 } m n (ofBE l) x.poison

/-- PKT PST: beyond the chain's bricks it takes more, under class SVC. -/
def opPst : OpFn := fun d s _ c m n =>
  let (o, bad) := addrOf c m n
  let k := widthOf n / 8
  if bad then .trap d 0x05
  else curChain d c fun d a _ x =>
    if x.refcnt ≠ 1 || x.holder ≠ s + 1 || o + k > 16383 then .trap d 0x06
    else
      let len := max x.bytes.length (o + k)
      let more := Dev.bricksFor len - x.bricks.length
      let h := Dev.halfAddr a
      match if more = 0 then none else d.allocReason h 2 more .new with
      | some r => report (d.countRefusal h r) c r
      | none =>
        let gap := o - x.bytes.length
        let old := x.bytes ++ d.freeBytes gap ++ List.replicate (len - max o x.bytes.length) 0
        let (y, bs) := Dev.takeBricks (d.half h) more
        let d := (d.used gap).setHalf h fun _ => y
        let d := d.setChain a fun x =>
          { x with bytes := patch old o (beBytes k (c.reg (mRd m))), bricks := x.bricks ++ bs, modified := true,
                   poison := x.poison || c.bad (mRd m) }
        .ok (if more = 0 then d else (d.bump (Dev.brkBase h + 0x300)).judge h) { c with s := 0 }

/-- PKT PLEN. -/
def opPlen : OpFn := fun d _ _ c m n => curChain d c fun d _ _ x => putOk d c m n x.bytes.length false

/-! ### CRC and TIME -/

/-- CRC CRC: over B bytes of set memory at RD, from value A. -/
def opCrc : OpFn := fun d s p c m n =>
  let (b, pb) := c.operandB m n
  let a := c.reg (mRd m)
  if c.bad (mRd m) then .trap d 0x05
  else if a + b > setMemSize then .trap d 0x06
  else put d c m n (crcOver polyC (c.reg (mRa m) % 2 ^ 32) (d.memSeen s p a b) ^^^ 0xFFFFFFFF)
    (c.bad (mRa m) || pb || d.memPoison s p a b)

/-- The key that words name: ten words of key, and TPL in the next. -/
def keyOfWords (w : List Nat) : Nat × List Byte := (bits (word w 10) 1 0, (w.take 10).flatMap (beBytes 4))

/-- CRC HASH: H of the key in the buffer (R190). -/
def opHash : OpFn := fun d _ _ c m n =>
  let (tpl, key) := keyOfWords c.buf
  put d c m n (d.ctxHash tpl key) false

/-- TIME RDW: seconds and nanoseconds whole; SETCC acts on the seconds. -/
def opRdw : OpFn := fun d _ _ c m n =>
  if mRd m = 0 || mRd m = 31 then .trap d 0x01
  else match putAt d c m n d.wallSec false false none with
    | .ok d' c => .ok d' ((c.set (mRd m) d.wallSec false).set (mRd m + 1) d.wallNs false)
    | .trap d k => .trap d k

/-- TIME RDI. -/
def opRdi : OpFn := fun d _ _ c m n => put d c m n d.now false

/-- Whether SET_PERM allows an operation by its bit (R384). -/
def allowed (d : Dev) (s b : Nat) : Bool := d.flag (Dev.setBase s + 0x10) b

/-- A TIME write. -/
def opTimeWrite (f : Nat → JEntry) : OpFn := fun d s p c m _ =>
  if !allowed d s 4 then .trap d 0x09
  else if c.bad (mRa m) then .trap d 0x05
  else journalAdd d s p c (f (c.reg (mRa m) % 2 ^ 32))

/-! ### How a microword runs -/

/-- Whether an operation waits for a reply (column W of R381). -/
def waits (u o : Nat) : Bool :=
  (u = 3 && o = 0) || (u = 4 && o ≤ 1) || u = 5 || (u = 6 && o ≥ 1) || (u = 7 && o ≤ 2) || (u = 8 && o = 0)

namespace Dev

/-- One nanoword of an engine, where its fetched microword names operation `o` of unit `u` and its safe point has been
taken. `bad` is an uncorrectable fetch. -/
def opRow (d : Dev) (s p u o : Nat) (bad : Bool) (f : OpFn) : Dev :=
  let e := d.eng s p
  if e.item.isNone || e.wait || e.seqDue || engState e p = 3 || e.count ≥ 1024 then d
  else
    let inj := d.flag (setBase s + 0x0C) 0
    if bad || inj then (if inj then d.clrBit (setBase s + 0x0C) 0 else d).trap s p 0x04 (inj && !bad)
    else match d.fetch s p with
    | .none => d
    | .illegal => d.trap s p 0x01
    | .word m n =>
      if nUnit n ≠ u || nOp n ≠ o || (mSafe m && !e.atSafe) then d
      else if d.breaks s p true then d.haltAt s p
      else match f d s p e.core m n with
        | .trap d code => d.trap s p code
        | .ok d c =>
          let next := mSeq m = 0
          (d.bump (setBase s + 0x138)).setEng s p fun x =>
            { x with core := { c with pc := if next then c.pc + 1 else c.pc }, count := x.count + 1,
                     item := x.item.map fun r => { r with micros := r.micros + 1 }, wait := waits u o, seqDue := !next,
                     atSafe := false, halted := next && x.dbg = 1, dbg := if next then 0 else x.dbg }

/-- R379: whether a condition holds. -/
def condHolds (c : Core) (int : Bool) (k : Nat) : Bool :=
  match k with
  | 0 => true
  | 1 => c.z
  | 2 => c.n
  | 3 => c.c
  | 4 => c.v
  | 5 => c.n != c.v
  | 6 => c.z || c.n != c.v
  | 7 => c.c || c.z
  | 8 => c.s = 0
  | 9 => c.s = 1
  | 10 => c.s = 2
  | 11 => c.s = 3
  | 12 => c.s = 4 || c.s = 0x0A
  | 13 => c.s = 5 || c.s = 9
  | 14 => 0x61 ≤ c.s && c.s ≤ 0x65
  | 15 => c.s = 0x0E
  | 16 => c.s = 0x0D
  | 17 => c.pktEnd
  | 18 => int
  | _ => false

/-- The sequencing of a microword whose nanoword has completed, where it is `k`; `f` gives the core that follows, or the trap
that strikes. -/
def seqRow (d : Dev) (s p k : Nat) (f : Prog → Engine → Nat → Core ⊕ Nat) : Dev :=
  let e := d.eng s p
  if !e.seqDue || e.wait then d
  else match d.fetch s p, e.item with
  | .word m _, some r =>
    if mSeq m ≠ k then d
    else match f (d.progOfItem s r.words) e m with
      | .inl c => d.setEng s p fun x => { x with core := c, seqDue := false, halted := x.dbg = 1, dbg := 0 }
      | .inr code => d.trap s p code
  | _, _ => d

/-- The end of an item, where its nanoword has completed: the commit of END DONE, or the discard of END FAILED. -/
def endRow (d : Dev) (s p : Nat) (failed bad : Bool) : Dev :=
  let e := d.eng s p
  if !e.seqDue || e.wait then d
  else match d.fetch s p, e.item with
  | .word m _, some r =>
    let st := bits (mImm m) 15 14
    if mSeq m ≠ 6 then d
    else if st ≥ 2 then d.trap s p 0x01
    else if st ≠ b2n failed then d
    else if e.core.bad (mRa m) then d.trap s p 0x05
    else
      let result := e.core.reg (mRa m) % 2 ^ 32
      if failed then
        let d := (d.undoJournal s e.journal).setEng s p fun x => { x with journal := [] }
        d.finishItem s p 1 (r.trapped.getD (max 0x80 (bits (mImm m) 7 0))) result
      else match journalBad e bad with
        | some inj => d.trap s p 0x0A inj
        | none =>
          let d := d.commitJournal s p
          match r.trapped with
          | some code => d.finishItem s p 1 code result
          | none => d.finishItem s p 0 0 result
  | _, _ => d

end Dev

/-! ### Commands: operations that compute, and those on memory, packets and time -/

/-- ENG_NOP (R380): set, position, and whether the fetch is uncorrectable, as for every operation. -/
def execEngNop (set : Fin 64) (pos : Fin 9) (bad : Bool) (s : State) : Result :=
  s.act (·.opRow set pos 0 0 bad fun d _ _ c _ _ => .ok d c)
/-- ADD. -/
def execEngAdd (set : Fin 64) (pos : Fin 9) (bad : Bool) (s : State) : Result :=
  s.act (·.opRow set pos 1 0 bad (alu addFlags true))
/-- SUB. -/
def execEngSub (set : Fin 64) (pos : Fin 9) (bad : Bool) (s : State) : Result :=
  s.act (·.opRow set pos 1 1 bad (alu subFlags true))
/-- AND. -/
def execEngAnd (set : Fin 64) (pos : Fin 9) (bad : Bool) (s : State) : Result :=
  s.act (·.opRow set pos 1 2 bad (alu (plain (· &&& ·)) true))
/-- OR. -/
def execEngOr (set : Fin 64) (pos : Fin 9) (bad : Bool) (s : State) : Result :=
  s.act (·.opRow set pos 1 3 bad (alu (plain (· ||| ·)) true))
/-- XOR. -/
def execEngXor (set : Fin 64) (pos : Fin 9) (bad : Bool) (s : State) : Result :=
  s.act (·.opRow set pos 1 4 bad (alu (plain (· ^^^ ·)) true))
/-- MOV: operand B. -/
def execEngMov (set : Fin 64) (pos : Fin 9) (bad : Bool) (s : State) : Result :=
  s.act (·.opRow set pos 1 5 bad fun d _ _ c m n => let (b, pb) := c.operandB m n; put d c m n b pb)
/-- MIN. -/
def execEngMin (set : Fin 64) (pos : Fin 9) (bad : Bool) (s : State) : Result :=
  s.act (·.opRow set pos 1 6 bad (alu minOf true))
/-- MAX. -/
def execEngMax (set : Fin 64) (pos : Fin 9) (bad : Bool) (s : State) : Result :=
  s.act (·.opRow set pos 1 7 bad (alu maxOf true))
/-- CMP: the flags of a difference. -/
def execEngCmp (set : Fin 64) (pos : Fin 9) (bad : Bool) (s : State) : Result :=
  s.act (·.opRow set pos 1 8 bad (alu subFlags false))
/-- SHL. -/
def execEngShl (set : Fin 64) (pos : Fin 9) (bad : Bool) (s : State) : Result :=
  s.act (·.opRow set pos 2 0 bad (alu (fun w a b => (a <<< min b w, none)) true))
/-- SHR. -/
def execEngShr (set : Fin 64) (pos : Fin 9) (bad : Bool) (s : State) : Result :=
  s.act (·.opRow set pos 2 1 bad (alu (fun w a b => (a >>> min b w, none)) true))
/-- SAR. -/
def execEngSar (set : Fin 64) (pos : Fin 9) (bad : Bool) (s : State) : Result :=
  s.act (·.opRow set pos 2 2 bad (alu sarOf true))
/-- EXT. -/
def execEngExt (set : Fin 64) (pos : Fin 9) (bad : Bool) (s : State) : Result :=
  s.act (·.opRow set pos 2 3 bad (fieldOp false))
/-- INS. -/
def execEngIns (set : Fin 64) (pos : Fin 9) (bad : Bool) (s : State) : Result :=
  s.act (·.opRow set pos 2 4 bad (fieldOp true))
/-- BSWAP. -/
def execEngBswap (set : Fin 64) (pos : Fin 9) (bad : Bool) (s : State) : Result :=
  s.act (·.opRow set pos 2 5 bad (unary bswapOf))
/-- POPCNT. -/
def execEngPopcnt (set : Fin 64) (pos : Fin 9) (bad : Bool) (s : State) : Result :=
  s.act (·.opRow set pos 2 6 bad (unary popcntOf))
/-- LD. -/
def execEngLd (set : Fin 64) (pos : Fin 9) (bad : Bool) (s : State) : Result := s.act (·.opRow set pos 3 0 bad opLd)
/-- LDI. -/
def execEngLdi (set : Fin 64) (pos : Fin 9) (bad : Bool) (s : State) : Result := s.act (·.opRow set pos 3 1 bad opLdi)
/-- LDC. -/
def execEngLdc (set : Fin 64) (pos : Fin 9) (bad : Bool) (s : State) : Result := s.act (·.opRow set pos 3 2 bad opLdc)
/-- STC. -/
def execEngStc (set : Fin 64) (pos : Fin 9) (bad : Bool) (s : State) : Result := s.act (·.opRow set pos 3 3 bad opStc)
/-- ST. -/
def execEngSt (set : Fin 64) (pos : Fin 9) (bad : Bool) (s : State) : Result :=
  s.act (·.opRow set pos 3 4 bad (opStore false))
/-- ADDC. -/
def execEngAddc (set : Fin 64) (pos : Fin 9) (bad : Bool) (s : State) : Result :=
  s.act (·.opRow set pos 3 5 bad (opStore true))
/-- PLD. -/
def execEngPld (set : Fin 64) (pos : Fin 9) (bad : Bool) (s : State) : Result := s.act (·.opRow set pos 4 0 bad opPld)
/-- PST. -/
def execEngPst (set : Fin 64) (pos : Fin 9) (bad : Bool) (s : State) : Result := s.act (·.opRow set pos 4 1 bad opPst)
/-- PLEN. -/
def execEngPlen (set : Fin 64) (pos : Fin 9) (bad : Bool) (s : State) : Result := s.act (·.opRow set pos 4 2 bad opPlen)
/-- CRC. -/
def execEngCrc (set : Fin 64) (pos : Fin 9) (bad : Bool) (s : State) : Result := s.act (·.opRow set pos 8 0 bad opCrc)
/-- HASH. -/
def execEngHash (set : Fin 64) (pos : Fin 9) (bad : Bool) (s : State) : Result := s.act (·.opRow set pos 8 1 bad opHash)
/-- RDW. -/
def execEngRdw (set : Fin 64) (pos : Fin 9) (bad : Bool) (s : State) : Result := s.act (·.opRow set pos 9 0 bad opRdw)
/-- RDI. -/
def execEngRdi (set : Fin 64) (pos : Fin 9) (bad : Bool) (s : State) : Result := s.act (·.opRow set pos 9 1 bad opRdi)
/-- WSERVO. -/
def execEngWservo (set : Fin 64) (pos : Fin 9) (bad : Bool) (s : State) : Result :=
  s.act (·.opRow set pos 9 2 bad (opTimeWrite .wservo))
/-- WADJ. -/
def execEngWadj (set : Fin 64) (pos : Fin 9) (bad : Bool) (s : State) : Result :=
  s.act (·.opRow set pos 9 3 bad (opTimeWrite .wadj))
/-- WSTEP. -/
def execEngWstep (set : Fin 64) (pos : Fin 9) (bad : Bool) (s : State) : Result :=
  s.act (·.opRow set pos 9 4 bad (opTimeWrite .wstep))

/-! ### Commands: sequencing (R378) -/

/-- JUMP. -/
def execEngJump (set : Fin 64) (pos : Fin 9) (s : State) : Result :=
  s.act (·.seqRow set pos 1 fun _ e m => .inl { e.core with pc := mTarget m })
/-- BRANCH. -/
def execEngBranch (set : Fin 64) (pos : Fin 9) (s : State) : Result :=
  s.act (·.seqRow set pos 2 fun _ e m =>
    let t := Dev.condHolds e.core (!e.intr.isEmpty) (mCond m) != m.testBit 54
    .inl { e.core with pc := if t then mTarget m else e.core.pc + 1 })
/-- CALL: a ninth level traps under STACK. -/
def execEngCall (set : Fin 64) (pos : Fin 9) (s : State) : Result :=
  s.act (·.seqRow set pos 3 fun _ e m =>
    if e.core.stack.length ≥ 8 then .inr 0x08
    else .inl { e.core with pc := mTarget m, stack := (e.core.pc + 1) :: e.core.stack })
/-- RETURN: with an empty stack it traps under ILLEGAL. -/
def execEngReturn (set : Fin 64) (pos : Fin 9) (s : State) : Result :=
  s.act (·.seqRow set pos 4 fun _ e _ =>
    match e.core.stack with
    | [] => .inr 0x01
    | a :: l => .inl { e.core with pc := a, stack := l })
/-- DISPATCH: an invalid entry traps under ILLEGAL. -/
def execEngDispatch (set : Fin 64) (pos : Fin 9) (s : State) : Result :=
  s.act (·.seqRow set pos 5 fun g e m =>
    match g.jump (mTarget m % 16) (e.core.reg (mRa m) % 16) with
    | some t => .inl { e.core with pc := t }
    | none => .inr 0x01)
/-- END_DONE (R387): `bad` is an uncorrectable journal entry. -/
def execEngEndDone (set : Fin 64) (pos : Fin 9) (bad : Bool) (s : State) : Result := s.act (·.endRow set pos false bad)
/-- END_FAILED (R387). -/
def execEngEndFailed (set : Fin 64) (pos : Fin 9) (s : State) : Result := s.act (·.endRow set pos true false)

/-- ENGINE_REPLY (R373): the reply that a waiting operation waits for. -/
def execEngineReply (set : Fin 64) (pos : Fin 9) (s : State) : Result :=
  s.act fun d => if (d.eng set pos).wait then d.setEng set pos fun x => { x with wait := false } else d

end Sys2Proof.Machine
end

