-- ==== Sys2Proof/Machine/EngineActs.lean ====
section
/-! DEFINITION. The operations of engines on contexts, chains and queues (R381, R388, R400 to R403), the start of an item
(R397), timers, and the move of an engine to its spare (R405). -/

namespace Sys2Proof.Machine

/-! ### Contexts -/

/-- Whether the keeper of a context or key works: its course's domain is ON. -/
def keeperOn (d : Dev) (n : Nat) : Bool := d.isOn (4 + d.physical (n % 16))

/-- Handle of a context: index and GEN. -/
def handleOf (idx gen : Nat) : Nat := (gen % 256) <<< 24 + idx % 2 ^ 24

/-- The key of FIND and CREATE: from the item or from the buffer (R381). -/
def keyFor (d : Dev) (s p : Nat) (c : Core) (m : Nat) : Nat × List Byte :=
  if m.testBit 0 then keyOfWords c.buf else keyOfWords (((d.eng s p).item.map (·.words)).getD [] |>.drop 16)

namespace Dev

/-- The context of a key, for the keeper's lookup by an engine or the host: its index; none with whether the chain went beyond
CHAIN_MAX (R191). `bad` is a word of the store that reads uncorrectable. -/
def findCtx (d : Dev) (tpl : Nat) (key : List Byte) (bad : Bool) : Dev × Except TblError Nat :=
  let home := d.ctxHome tpl key
  match d.sliceLookup tpl key bad with
  | (d, .hit i) => (d, .ok i)
  | (d, _) =>
    let (o, reads) := d.walkChain tpl key d.chainMax home
    let poisoned := (d.chainSlots reads home).any d.ctxBad
    if bad || poisoned then (if poisoned then d else d.storeBad home, .error .parity)
    else match o with
      | .found i => (d.insertWay (home % 16) (cacheSet home) (.line i (d.ctx i) none), .ok i)
      | .ended => (d, .error .notFound)
      | .tooLong => (d.raiseWear (srcCourse (d.physical (home % 16))) 0x4002, .error .notFound)

end Dev

/-- CTX FIND. -/
def opFind (upset : Bool) : OpFn := fun d s p c m n =>
  let (tpl, key) := keyFor d s p c m
  if !keeperOn d (d.ctxHome tpl key) then report d c 0x0D
  else match d.findCtx tpl key upset with
    | (d, .error e) => report d c e.code
    | (d, .ok i) =>
      let x := d.ctx i
      putOk d { c with buf := x.toWords } m n (handleOf i x.gen) false

/-- CTX READ. -/
def opRead (upset : Bool) : OpFn := fun d _ _ c m _ =>
  let h := c.reg (mRa m)
  let i := bits h 23 0
  if c.bad (mRa m) then .trap d 0x05
  else if !keeperOn d i then report d c 0x0D
  else if upset || d.ctxBad i then
    report (d.storeBad i) c 8
  else match d.ctxCheck i (bits h 31 24) with
    | some e => report d c e.code
    | none => .ok d { c with s := 0, buf := (d.ctx i).toWords }

/-- Whether another engine's journal holds a context. -/
def heldByOther (d : Dev) (s p i : Nat) : Bool := (d.ctxHolder i).any fun k => k ≠ s * 16 + p

/-- A journalled operation on a handle: judged when issued (R388). -/
def onHandle (e : Nat → Nat → Core → Nat → Option JEntry) : OpFn := fun d s p c m n =>
  let h := c.reg (mRa m)
  let i := bits h 23 0
  let g := bits h 31 24
  if c.bad (mRa m) then .trap d 0x05
  else if journalFull d s p then .trap d 0x03
  else match e i g c n with
    | none => .trap d 0x01
    | some j =>
      if !keeperOn d i then report d c 0x0D
      else match d.ctxCheck i g with
        | some x => report (match x, j with
            | .parity, .ctxWrite _ _ _ _ => d.ctxRefused i
            | _, _ => d) c x.code
        | none => if heldByOther d s p i then report d c 9 else journalAdd d s p { c with s := 0 } j

/-- CTX WRITE: buffer words FPOS to FPOS + FLEN. -/
def opCtxWrite : OpFn := onHandle fun i g c n =>
  let f := bits n 48 43
  let l := bits n 42 37
  if l > 7 || f + l > 31 then none else some (.ctxWrite i g f ((c.buf.drop f).take (l + 1)))

/-- CTX FREE. -/
def opCtxFree : OpFn := onHandle fun i g _ _ => some (.ctxFree i g)

/-- CTX CREATE: a slot reserved, with its new GEN. -/
def opCtxCreate : OpFn := fun d s p c m n =>
  let (tpl, key) := keyFor d s p c m
  let home := d.ctxHome tpl key
  if journalFull d s p then .trap d 0x03
  else if !keeperOn d home then report d c 0x0D
  else if (d.keyHolder tpl key).isSome || heldByOther d s p home then report d c 9
  else if d.placeBad tpl key then report d c 8
  else match d.placeFor tpl key with
    | .error (some i) => if heldByOther d s p i then report d c 9 else
        let x := d.ctx i
        put d { c with s := 3 } m n (handleOf i x.gen) false
    | .error none => report (d.ctxFull (home % 16)) c 4
    | .ok i =>
      let gen := ((d.ctx i).gen + 1) % 256
      let image := { (({} : Ctx).write false c.buf) with key := key, tpl := tpl, gen := gen }
      match journalAdd d s p { c with s := 0 } (.ctxCreate i image) with
      | .ok d c => put d c m n (handleOf i gen) false
      | .trap d k => .trap d k

/-! ### Chains -/

/-- CHAIN SEL. -/
def opSel : OpFn := fun d _ _ c m _ =>
  if c.bad (mRa m) then .trap d 0x05 else .ok d { c with cur := some (nameChain (c.reg (mRa m))) }

/-- CHAIN ALLOC: a chain of B bricks in the half of the set's die. -/
def opAlloc : OpFn := fun d s p c m n =>
  let (b, pb) := c.operandB m n
  if pb then .trap d 0x05
  else if journalFull d s p then .trap d 0x03
  else if b > 128 then .trap d 0x06
  else if !d.halfOn (s / 32) then report d c 0x0D
  else match d.allocN (s / 32) 2 (max 1 b) .new (s + 1) 0xFF [] with
    | (d, .error r) => report d c r
    | (d, .ok (a, g)) =>
      match journalAdd d s p { c with s := 0 } (.chainAlloc a g) with
      | .ok d c => put d c m n (chainName a g) false
      | .trap d k => .trap d k

/-- A journalled operation on chain A: judged under R304 when issued, as a reference where `ref` says so. -/
def onChain (share ref : Bool) (e : Nat → Nat → Nat → JEntry) : OpFn := fun d s p c m n =>
  let (a, g) := nameChain (c.reg (mRa m))
  let (b, pb) := c.operandB m n
  if c.bad (mRa m) || pb then .trap d 0x05
  else if journalFull d s p then .trap d 0x03
  else if !d.halfOn (Dev.halfAddr a) then report d c 0x0D
  else match d.judgeHolder (s + 1) a g ref with
    | (d, none) => report d c 0x0E
    | (d, some x) =>
      if share && x.refcnt ≥ 255 then report d c 0x65 else journalAdd d s p { c with s := 0 } (e a g (b % 256))

/-- CHAIN GIVE: to a holder that R302 issues. -/
def opGive : OpFn := fun d s p c m n =>
  let (b, _) := c.operandB m n
  if !Dev.isHolder b then .trap d 0x06 else onChain false true (fun a g dest => .chainGive a g dest) d s p c m n

/-! ### Queues -/

/-- The packet of a PKT item where the current chain is it and no commit or journal entry has taken it. -/
def ownPacket (d : Dev) (s p : Nat) (c : Core) : Option Desc :=
  let e := d.eng s p
  let taken := e.journal.any fun j => match j with
    | .enq _ _ _ o => o
    | .inject _ _ _ o => o
    | _ => false
  (e.item.bind fun r => if r.disposed || taken then none else r.desc).filter fun x => c.cur = some (x.chain, x.gen)

/-- S of a refusal under R322 (R382). -/
def refusalCode (r : Nat) : Nat := if r = 0x71 || r = 0x74 || r = 0x75 then 0x0A else if r = 0xA2 then 0x0D else r

/-- QUEUE ENQ. -/
def opEnq : OpFn := fun d s p c m _ =>
  let q := c.reg (mRa m)
  if c.bad (mRa m) then .trap d 0x05
  else if q ≥ 65536 then .trap d 0x06
  else if (q < 55296 && !allowed d s 3) || (63488 ≤ q && !allowed d s 2) then .trap d 0x09
  else if journalFull d s p then .trap d 0x03
  else match c.cur with
    | none => .trap d 0x06
    | some (a, g) =>
      if !d.halfOn (Dev.halfOfQueue q) || !d.halfOn (Dev.halfAddr a)
          || (55296 ≤ q && q < 63488 && !d.isOn (38 + setOfQueue q)) then report d c 0x0D
      else match d.judgeHolder (s + 1) a g true with
        | (d, none) => report d c 0x0E
        | (d, some x) =>
          let len := x.bytes.length
          let own := ownPacket d s p c
          let y := match own with
            | some o => { o with mlen := len }
            | none => originDesc d.epochs.curTag d.now 0 len a g
          match d.placeHeld y q true with
          | (d, .error r) => report d c (refusalCode r)
          | (d, .ok w) => journalAdd d s p { c with s := 0 } (.enq q w (a, g) own.isSome)

/-- Whether an injection block keeps R400. -/
def injectOk (w : List Nat) : Bool :=
  let w0 := word w 0
  let c := bits w0 28 24
  let ret := w0.testBit 31
  let ts := word w 4
  bits w0 30 29 = 0 && bits w0 23 10 = 0 && (c ≤ 15 || (c = 31 && ret)) && bits (word w 1) 31 18 = 0
    && bits (word w 1) 15 0 = 0 && bits (word w 1) 17 16 ≤ 2 && bits (word w 3) 1 0 = 0 && ts < 256 && (ts = 255 || ts < 64)
    && word w 5 = 0 && word w 6 = 0 && word w 7 = 0

/-- QUEUE INJECT. -/
def opInject : OpFn := fun d s p c m _ =>
  let b := c.reg (mRa m)
  if c.bad (mRa m) then .trap d 0x05
  else if !allowed d s 1 then .trap d 0x09
  else if journalFull d s p then .trap d 0x03
  else if b + 32 > setMemSize then .trap d 0x06
  else if d.memPoison s p b 32 then .trap d 0x05
  else
    let w := d.block s p b 8
    let own := ownPacket d s p c
    let ret := (word w 0).testBit 31
    match c.cur with
    | none => .trap d 0x06
    | some (a, g) =>
      if !injectOk w || (ret && own.isNone) then .trap d 0x01
      else
        let k := bits (word w 0) 28 24
        let name := if k = 31 then (own.map (·.ledger)).getD 0 else k
        if !d.courseOn name || !d.halfOn (Dev.halfAddr a) then report d c 0x0D
        else match d.judgeHolder (s + 1) a g true with
          | (d, none) => report d c 0x0E
          | (d, some x) =>
            if !d.injectRoom name then report d c 0x0A
            else
              let y := match (if ret then own else none) with
                | some o => { o with mlen := x.bytes.length }
                | none => originDesc d.epochs.curTag d.now name x.bytes.length a g
              let y := if (word w 3).testBit 2 then stampFields y (word w 3) else y
              let y := { y with msrc := bits (word w 1) 17 16, tsSet := word w 4,
                                mortar := if bits (word w 1) 17 16 = 2 then word w 2 else y.mortar }
              journalAdd d s p { c with s := 0 } (.inject name (bits (word w 0) 9 0) y ret)

/-- QUEUE SEND: an item record at A to dispatch queue B. -/
def opSend : OpFn := fun d s p c m n =>
  let a := c.reg (mRa m)
  let (q, pq) := c.operandB m n
  if c.bad (mRa m) || pq then .trap d 0x05
  else if !allowed d s 0 then .trap d 0x09
  else if journalFull d s p then .trap d 0x03
  else if a + 128 > setMemSize || q < 55296 || 63488 ≤ q then .trap d 0x06
  else if d.memPoison s p a 128 then .trap d 0x05
  else if !d.isOn (38 + setOfQueue q) || !d.halfOn (Dev.halfOfQueue q) then report d c 0x0D
  else
    let w := d.block s p a 32
    let tag := d.epochs.curTag
    let id := (d.set s).sends
    let w := withBits (word w 0) 27 27 tag :: id :: ((d.slot tag).num <<< 16 + (s + 1) <<< 8 + word w 2 % 256) :: w.drop 3
    match d.itemPlace q 0 0 w with
    | (d, .error r) => report d c (refusalCode r)
    | (d, .ok b) =>
      let d := d.setSet s fun x => { x with sends := (x.sends + 1) % 2 ^ 32 }
      journalAdd d s p { c with s := 0 }
        (.send q { desc := { queue := q }, enq := d.now, nb := 1, item := some w, brk := some b })

/-- QUEUE TARM: the timer under the block at A. -/
def opTarm : OpFn := fun d s p c m _ =>
  let a := c.reg (mRa m)
  if c.bad (mRa m) then .trap d 0x05
  else if a + 16 > setMemSize then .trap d 0x06
  else if d.memPoison s p a 16 then .trap d 0x05
  else
    let w := d.block s p a 4
    journalAdd d s p c (.tarm (bits (word w 0) 11 0) (word w 1) (bits (word w 2) 26 24) (bits (word w 2) 23 20) (word w 3))

/-- QUEUE TCANCEL: timer A. -/
def opTcancel : OpFn := fun d s p c m _ =>
  let a := c.reg (mRa m)
  if c.bad (mRa m) then .trap d 0x05 else if a ≥ 4096 then .trap d 0x06 else journalAdd d s p c (.tcancel a)

namespace Dev

/-! ### The start of an item (R397) -/

/-- One token of DISPATCH in units of credit: RATE × GRANT / 100 M starts a second are RATE × GRANT units a ns (R423). -/
def tokenUnit : Nat := 100000

/-- A set's energy bucket brought up to date. -/
def tokensNow (d : Dev) (s : Nat) : Bucket :=
  let rate := max 1 (d.fld 0x50060 9 0) * d.fld 0x50040 23 16
  let burst := max 1 (d.fld 0x50060 31 24) * tokenUnit
  let b := (d.set s).tokens
  ⟨min burst (b.credit + rate * (d.creditNow - b.t)), d.creditNow⟩

/-- The lowest idle position in service. -/
def idleEngine (d : Dev) (s : Nat) : Option Nat :=
  (List.range 9).find? fun p =>
    let e := d.eng s p
    e.item.isNone && (engState e p = 0 || engState e p = 5) && !Map.has e.intr 1 && !d.faults.isolated.contains (srcEng s p)

/-- Whether an item of the same serial class and word 27 runs in the set. -/
def serialBusy (d : Dev) (s cls : Nat) (w : List Nat) : Bool :=
  d.flag (setBase s + 0x14) cls
    && (d.set s).engines.any fun e => e.2.item.any fun r => bits (r.words.getD 0 0) 23 20 = cls && r.words.getD 27 0 = w.getD 27 0

/-- The queue whose head is startable next: the highest priority, and among its classes round robin. -/
def nextItem (d : Dev) (s : Nat) : Option (Nat × Nat × Nat × Waiting) :=
  [7, 6, 5, 4, 3, 2, 1, 0].findSome? fun pri =>
    let last := Map.getD (d.set s).lastCls pri 15
    (List.range 16).findSome? fun k =>
      let cls := (last + 1 + k) % 16
      let q := dispatchQueue s cls pri
      match (d.queue q).items.head? with
      | some w => if d.serialBusy s cls (w.item.getD []) then none else some (q, pri, cls, w)
      | none => none

/-- The core that an item starts with: G1 to G16 hold its words, low word low. -/
def startCore (w : List Nat) (x : Option Desc) (pc : Nat) : Core :=
  { regs := (0 : BitVec 64) :: ((List.range 16).map fun i => BitVec.ofNat 64 (w.getD (2 * i + 1) 0 * 2 ^ 32 + w.getD (2 * i) 0 % 2 ^ 32))
      ++ List.replicate 15 0,
    cur := x.map fun x => (x.chain, x.gen), pc := pc }

/-- ITEM_START: the next startable item of a set. -/
def itemStart (d : Dev) (s : Nat) : Dev :=
  if !d.setReady s || !d.flag (setBase s) 0 then d
  else match d.idleEngine s, d.nextItem s with
  | some p, some (q, pri, cls, w) =>
    let ws := w.item.getD []
    let pkt := w.nb > 1
    let pop (d : Dev) : Dev := d.setQueue q fun x => { x with items := x.items.drop 1, awake := x.awake && x.items.length > 1 }
    if pkt && d.aged w.desc then (pop d).endWaiting w 0x7E
    else match (d.progOfItem s ws).entryOf cls with
      | none => (pop d).notRun q w 0x23 (dropOfReason 0x23)
      | some pc =>
        let b := d.tokensNow s
        if b.credit < tokenUnit then
          let d' := d.setSet s fun x => { x with tokens := b, delayed := true }
          if (d.set s).delayed then d' else d'.bump (setBase s + 0x140)
        else
          let d := pop d
          let d := match w.brk with
            | some k => d.release k.1 k.2
            | none => d
          let d := if pkt then d.setChain w.desc.chain fun c => { c with holder := s + 1 } else d
          let x := if pkt then some w.desc else none
          let core := startCore ws x pc
          let d := d.setSet s fun x =>
            { x with tokens := { b with credit := b.credit - tokenUnit }, lastCls := Map.put x.lastCls pri cls,
                       delayed := false }
          let d := d.setEng s p fun e =>
            { e with core := core, ckpt := core, journal := [], badJrnl := none, count := 0, wait := false, seqDue := false,
                     atSafe := false, intr := e.intr.filter fun i => i.1 = 0,
                     item := some { words := ws, desc := x, start := d.now, limit := d.fld (setBase s) 31 18 } }
          d.bump (setBase s + 0x100)
  | _, _ => d

/-! ### Timers and migration -/

/-- R403: an armed timer whose deadline has passed queues a TIMER item to its set; where it finds no place it stays armed. -/
def timerFire (d : Dev) (s t : Nat) : Dev :=
  match Map.get? (d.set s).timers t with
  | none => d
  | some x =>
    if x.shadow || d.now < x.deadline || !d.isOn (38 + s) then d
    else
      let q := dispatchQueue s x.cls x.pri
      let (d', id) := d.nextItemId (0x100 + s)
      let late := min (2 ^ 32 - 1) ((d.now - x.deadline) / 1000)
      let w := d'.itemHead 4 d.epochs.curTag x.pri x.cls 0 id (s + 1) 0 none ++ [x.cookie, 0, t, late] ++ List.replicate 24 0
      match d'.queueItem q w with
      | (_, some _) => d
      | (d, none) =>
        let d := (d.setSet s fun y => { y with timers := Map.erase y.timers t }).refuseIfDown q
        if d.flag (setBase s) 1 then d.mirror (.tfire s t) else d

/-- SPARE_POS (R410): the position in state SPARE; none where 0xF. -/
def sparePos (d : Dev) (s : Nat) : Option Nat := (List.range 9).find? fun p => engState (d.eng s p) p = 4

/-- R405: a WORN engine at a safe point, or idle, moves to the set's spare, whose self-test has passed or not. -/
def engineMigration (d : Dev) (s p : Nat) (ok : Bool) : Dev :=
  let e := d.eng s p
  if !Map.has e.intr 0 || (e.item.isSome && !(e.atSafe && e.journal.isEmpty)) then d
  else
    let quit (d : Dev) : Dev := d.setEng s p fun x => { x with intr := Map.erase x.intr 0 }
    match d.sparePos s with
    | none => ((quit d).raise (srcEng s p) 0x8011).event (setBase s + 8) 2
    | some k =>
      if !ok then
        ((((quit d).setEng s k fun x => { x with st := some 7 }).raise (srcEng s k) 0x8010).event (setBase s + 8) 2)
      else
        let d := d.setEng s k fun _ => { e with st := some 0, intr := Map.erase e.intr 0 }
        ((((d.setEng s p fun _ => { st := some 6, lastTrap := e.lastTrap }).event (setBase s + 8) 1).bump 0x60110).event 0x6000C 1)

end Dev

/-! ### Commands -/

/-- CTX_FIND; `upset` is a context that reads in error. -/
def execEngCtxFind (set : Fin 64) (pos : Fin 9) (bad upset : Bool) (s : State) : Result :=
  s.act (·.opRow set pos 5 0 bad (opFind upset))
/-- CTX_READ. -/
def execEngCtxRead (set : Fin 64) (pos : Fin 9) (bad upset : Bool) (s : State) : Result :=
  s.act (·.opRow set pos 5 1 bad (opRead upset))
/-- CTX_WRITE. -/
def execEngCtxWrite (set : Fin 64) (pos : Fin 9) (bad : Bool) (s : State) : Result := s.act (·.opRow set pos 5 2 bad opCtxWrite)
/-- CTX_CREATE. -/
def execEngCtxCreate (set : Fin 64) (pos : Fin 9) (bad : Bool) (s : State) : Result :=
  s.act (·.opRow set pos 5 3 bad opCtxCreate)
/-- CTX_FREE. -/
def execEngCtxFree (set : Fin 64) (pos : Fin 9) (bad : Bool) (s : State) : Result := s.act (·.opRow set pos 5 4 bad opCtxFree)
/-- CHAIN_SEL. -/
def execEngChainSel (set : Fin 64) (pos : Fin 9) (bad : Bool) (s : State) : Result := s.act (·.opRow set pos 6 0 bad opSel)
/-- CHAIN_ALLOC. -/
def execEngChainAlloc (set : Fin 64) (pos : Fin 9) (bad : Bool) (s : State) : Result := s.act (·.opRow set pos 6 1 bad opAlloc)
/-- CHAIN_SHARE. -/
def execEngChainShare (set : Fin 64) (pos : Fin 9) (bad : Bool) (s : State) : Result :=
  s.act (·.opRow set pos 6 2 bad (onChain true true fun a g _ => .chainShare a g))
/-- CHAIN_RELEASE. -/
def execEngChainRelease (set : Fin 64) (pos : Fin 9) (bad : Bool) (s : State) : Result :=
  s.act (·.opRow set pos 6 3 bad (onChain false false fun a g _ => .chainRelease a g))
/-- CHAIN_FREE. -/
def execEngChainFree (set : Fin 64) (pos : Fin 9) (bad : Bool) (s : State) : Result :=
  s.act (·.opRow set pos 6 4 bad (onChain false false fun a g _ => .chainFree a g))
/-- CHAIN_GIVE. -/
def execEngChainGive (set : Fin 64) (pos : Fin 9) (bad : Bool) (s : State) : Result := s.act (·.opRow set pos 6 5 bad opGive)
/-- ENQ. -/
def execEngEnq (set : Fin 64) (pos : Fin 9) (bad : Bool) (s : State) : Result := s.act (·.opRow set pos 7 0 bad opEnq)
/-- QUEUE_INJECT. -/
def execEngQueueInject (set : Fin 64) (pos : Fin 9) (bad : Bool) (s : State) : Result := s.act (·.opRow set pos 7 1 bad opInject)
/-- SEND. -/
def execEngSend (set : Fin 64) (pos : Fin 9) (bad : Bool) (s : State) : Result := s.act (·.opRow set pos 7 2 bad opSend)
/-- TARM. -/
def execEngTarm (set : Fin 64) (pos : Fin 9) (bad : Bool) (s : State) : Result := s.act (·.opRow set pos 7 3 bad opTarm)
/-- TCANCEL. -/
def execEngTcancel (set : Fin 64) (pos : Fin 9) (bad : Bool) (s : State) : Result := s.act (·.opRow set pos 7 4 bad opTcancel)

/-- ITEM_START (R397): a set. -/
def execItemStart (set : Fin 64) (s : State) : Result := s.act (·.itemStart set)

/-- TIMER_FIRE (R403): set and timer. -/
def execTimerFire (set : Fin 64) (timer : Fin 4096) (s : State) : Result := s.act (·.timerFire set timer)

end Sys2Proof.Machine
end

