-- ==== Sys2Proof/Machine/MbxBase.lean ====
section
/-! DEFINITION. The mailboxes (chapter 16) below their commands: the opcode table of R498, the checks of R483, responses,
tickets and completion records. -/

namespace Sys2Proof.Machine

/-- A row of R498: opcode, shortest and longest payload, whether it is asynchronous, exclusive and resumable. -/
structure Op where
  code   : Nat
  short  : Nat
  long   : Nat
  async  : Bool := false
  excl   : Bool := false
  resume : Bool := false
deriving DecidableEq, Repr

/-- R498: every opcode of the device. -/
def ops : List Op :=
  [⟨0x0101, 0, 0, false, false, false⟩, ⟨0x0102, 4, 4, false, false, false⟩,
   ⟨0x0201, 4, 4, false, false, false⟩, ⟨0x0202, 4, 4, false, false, false⟩, ⟨0x0203, 4, 4, false, false, false⟩,
   ⟨0x0204, 4, 4, false, false, false⟩,
   ⟨0x0301, 8, 8, false, false, false⟩, ⟨0x0302, 4, 4, true, false, true⟩, ⟨0x0303, 4, 4, false, false, false⟩,
   ⟨0x0304, 4, 4, false, false, false⟩, ⟨0x0305, 8, 336, true, true, false⟩, ⟨0x0306, 4, 4, false, true, false⟩,
   ⟨0x0307, 0, 0, false, true, true⟩, ⟨0x0308, 0, 0, false, false, false⟩,
   ⟨0x0401, 8, 8, false, false, true⟩, ⟨0x0402, 4, 4, true, false, true⟩, ⟨0x0403, 0, 0, false, false, false⟩,
   ⟨0x0501, 4, 4, false, false, true⟩, ⟨0x0502, 0, 0, false, false, false⟩,
   ⟨0x0601, 8, 8, false, false, false⟩, ⟨0x0602, 4, 4, false, false, false⟩,
   ⟨0x0701, 4, 4, true, true, true⟩, ⟨0x0702, 4, 4, true, true, true⟩, ⟨0x0703, 0, 0, false, false, false⟩,
   ⟨0x0801, 0, 0, false, false, false⟩, ⟨0x0802, 16, 16, true, true, false⟩, ⟨0x0803, 4, 4, false, false, false⟩,
   ⟨0x0901, 4, 4, false, true, false⟩, ⟨0x0902, 0, 0, false, false, false⟩, ⟨0x0903, 4, 4, true, true, true⟩,
   ⟨0x0904, 8, 8, false, false, false⟩, ⟨0x0905, 4, 4, true, true, true⟩,
   ⟨0x0A01, 12, 16, false, false, false⟩, ⟨0x0A02, 0, 0, false, false, false⟩,
   ⟨0x0B01, 200, 200, false, true, false⟩, ⟨0x0B02, 100, 100, false, true, false⟩, ⟨0x0B03, 4, 4, false, true, false⟩,
   ⟨0x0B04, 100, 100, false, true, false⟩, ⟨0x0B05, 0, 0, false, true, false⟩, ⟨0x0B06, 16, 16, true, true, false⟩,
   ⟨0x0C01, 4, 4, false, false, false⟩, ⟨0x0C02, 12, 12, false, false, false⟩, ⟨0x0C03, 8, 8, false, false, false⟩,
   ⟨0x0C04, 28, 28, false, false, false⟩]

/-- The row of an opcode. -/
def op? (code : Nat) : Option Op := ops.find? (·.code = code)

/-- The bits of request payload words that are listed for an opcode (chapter 17); every other bit is reserved (R497). -/
def payloadMask (code k : Nat) : Nat :=
  let l (m : List Nat) : Nat := m.getD k 0
  match code with
  | 0x0102 => l [0xFFFFFFFF]
  | 0x0201 => l [0x800000FF]
  | 0x0202 => l [0xFF]
  | 0x0203 => l [0xFF]
  | 0x0204 => l [0xFFFF]
  | 0x0301 => l [0xF00000FF, 0xFFFFFFFF]
  | 0x0302 => l [0x3FF]
  | 0x0303 => l [0x3FF]
  | 0x0304 => l [0x3FF]
  | 0x0305 => if k = 0 then 0xFFFF00FF else 0x03FF03FF
  | 0x0306 => l [0xFFFF0000]
  | 0x0401 => l [0x8FC000FF, 0x3FFF]
  | 0x0402 => l [0x8000FFFF]
  | 0x0501 => l [0xFFFF]
  | 0x0601 => l [0x3F3F, 0xFFFFFFFF]
  | 0x0602 => l [0xFF3F]
  | 0x0701 => l [0x80000003]
  | 0x0702 => l [0x37F]
  | 0x0802 => l [1, 0xFFFFFFFF, 0xFFFFFFFF, 0xFFFFFFFF]
  | 0x0803 => l [7]
  | 0x0901 => l [0xFFFF]
  | 0x0903 => l [0xFFFFFFFF]
  | 0x0904 => l [0xFF, 0xFFFFFFFF]
  | 0x0905 => l [3]
  | 0x0A01 => l [0xFFFF, 0xFFFFFFFF, 0x3FFFFFFF, 0xFFFFFFFF]
  | 0x0B01 => if k = 0 then 0xC00700FF else 0xFFFFFFFF
  | 0x0B02 => if k = 0 then 0xC0070000 else 0xFFFFFFFF
  | 0x0B03 => l [3]
  | 0x0B04 => if k = 0 then 3 else 0xFFFFFFFF
  | 0x0B06 => l [1, 0xFFFFFFFF, 0xFFFFFFFF, 0xFFFFFFFF]
  | 0x0C01 => l [0xF]
  | 0x0C02 => l [0xF, 0xFFFF, 0xFFFFFFFF]
  | 0x0C03 => l [0xFFFF, 0xFFFFFFFF]
  | 0x0C04 => l [0x80000007, 0xFFFFFFFF, 0xFFFFFFFF, 0xFFFFFFFF, 0x1F, 0xFFFF, 0xFFFF]
  | _ => 0

/-! ### Requests (R477) -/

/-- OPCODE of a request. -/
def Req.opcode (r : Req) : Nat := bits (r.head.getD 0 0) 31 16
/-- TAG of a request's header. -/
def Req.tag (r : Req) : Nat := bits (r.head.getD 0 0) 15 0
/-- RETRY of a request. -/
def Req.retry (r : Req) : Bool := (r.head.getD 1 0).testBit 31
/-- LEN of a request. -/
def Req.len (r : Req) : Nat := bits (r.head.getD 1 0) 12 0
/-- RSP_ADDR of a request. -/
def Req.rspAddr (r : Req) : Nat := r.head.getD 3 0 * 2 ^ 32 + r.head.getD 2 0
/-- RSP_MAX of a request. -/
def Req.rspMax (r : Req) : Nat := bits (r.head.getD 4 0) 23 0
/-- Payload word `k`. -/
def Req.word (r : Req) (k : Nat) : Nat := r.words.getD k 0
/-- Bits of payload word `k`. -/
def Req.fld (r : Req) (k hi lo : Nat) : Nat := bits (r.word k) hi lo
/-- A bit of payload word `k`. -/
def Req.flag (r : Req) (k i : Nat) : Bool := (r.word k).testBit i
/-- Bytes that a result may take in the response area and at RSP_ADDR (R499). -/
def Req.room (r : Req) : Nat := 4000 + (if r.rspAddr = 0 then 0 else r.rspMax)

/-- R477, R497: whether every reserved bit of header and payload is 0. -/
def Req.clean (r : Req) : Bool :=
  let h := r.head
  (h.getD 1 0) &&& 0x7FFFE000 = 0 && bits (h.getD 4 0) 31 24 = 0 && (h.drop 5).all (· = 0)
    && (r.words.zipIdx).all fun w => w.1 &&& (0xFFFFFFFF ^^^ payloadMask r.opcode w.2) = 0

/-- How a command of R498 ends as its body has run: refused with PHASE NONE; ended in the mailbox with a phase; completed OK
with its response payload and a reason; or deferred, with what follows the deferred response. -/
inductive Reply where
  | no (status : Nat) (reason : Nat := 0)
  | ended (status reason phase : Nat)
  | ok (words : List Nat) (reason : Nat := 0)
  | later (next : Dev → Dev)

namespace Dev

/-- Control registers of a mailbox (R495). -/
def mbxBase (m : Nat) : Nat := 0x11000 + m * 0x2000

/-- A mailbox. -/
def mbx (d : Dev) (m : Nat) : Mbx := Map.getD d.mbxs m {}

/-- That mailbox changed. -/
def setMbx (d : Dev) (m : Nat) (f : Mbx → Mbx) : Dev := { d with mbxs := Map.upd d.mbxs m {} f }

/-- Whether an active steward serves the mailboxes. -/
def stewardRuns (d : Dev) : Bool :=
  (d.stage = 3 || d.stage = 4) && d.stw.lostAt.isNone && !d.stw.halted.contains d.stw.active && d.isOn (2 + d.stw.active)

/-- R660: whether check 4 of R483 allows an opcode. -/
def allowed (d : Dev) (code : Nat) : Bool := d.stage = 3 || [0x0101, 0x0703, 0x0904, 0x0B06].contains code

/-- A vector of a mailbox, where IRQ_EN allows it (R487). -/
def mbxSignal (d : Dev) (m : Nat) : Dev := if d.flag (mbxBase m + 4) 2 then d.signal (64 + m) else d

/-- An event of a mailbox. -/
def mbxEvent (d : Dev) (m i : Nat) : Dev := d.setBit (mbxBase m + 0x0C) i

/-- A write of a mailbox's ledger entry: an armed INJ_LEDGER is found by the read-back (R495). -/
def ledgerEntry (d : Dev) (m : Nat) : Dev :=
  if d.flag (mbxBase m + 0x24) 0 then (d.clrBit (mbxBase m + 0x24) 0).raiseInj 0xC003 0xD043 else d

/-- R485: an outcome remembered, the last 64 of its mailbox. -/
def remember (d : Dev) (m tag : Nat) (head : List Nat) : Dev :=
  d.setMbx m fun x =>
    let l := (x.past.filter fun p => p.tag ≠ tag) ++ [⟨tag, head⟩]
    { x with past := l.drop (l.length - 64) }

/-- Word 1 of a response header (R478). -/
def statusWord (d : Dev) (status reason phase : Nat) (retried deferred : Bool) : Nat :=
  status <<< 16 + reason <<< 8 + phase <<< 6 + b2n retried <<< 5 + b2n deferred <<< 4 + d.stw.active <<< 3

/-- A response written: the mailbox enters DONE, unless a reset has returned it to IDLE meanwhile (R493). -/
def respond (d : Dev) (m : Nat) (silent : Bool) (head payload : List Nat) : Dev :=
  if silent then d.setMbx m fun x => { x with run := none }
  else
    let d := d.setMbx m fun x => { x with run := none, st := 3, rsp := head ++ payload, stalled := false }
    (d.mbxEvent m 0).mbxSignal m

/-- A response header (R478). -/
def header (r : Req) (w1 len written ticket : Nat) : List Nat := [r.head.getD 0 0, w1, len, written, ticket, 0, 0, 0]

/-- A command of mailbox `m` completes in the mailbox; `payload` beyond the response area goes to RSP_ADDR, where a failed host
write ends it FAILED with reason 0x04 (R486, R499). -/
def complete (d : Dev) (m : Nat) (r : Req) (status reason phase : Nat) (payload : List Nat) (hostFail : Bool) : Dev :=
  let more := payload.drop 1000
  let bytes := 4 * more.length
  if !more.isEmpty && hostFail then
    let h := header r (d.statusWord 0x0C 4 phase false false) 4000 (d.free % 2 ^ 24) 0
    (d.used.remember m r.tag h).respond m r.silent h (payload.take 1000)
  else
    let h := header r (d.statusWord status reason phase false false) (4 * (min 1000 payload.length)) bytes 0
    let d := if more.isEmpty then d else d.toHost r.rspAddr (wordsToLE more)
    (d.remember m r.tag h).respond m r.silent h (payload.take 1000)

/-! ### Tickets and records (R484, R486) -/

/-- Entries of a mailbox's completion ring. -/
def cringSize (d : Dev) (m : Nat) : Nat := 2 ^ d.fld (mbxBase m + 0x18) 4 0

/-- Whether a record may be written to the ring. -/
def cringFree (d : Dev) (m : Nat) : Bool :=
  d.flag (mbxBase m + 4) 3 && (d.fld (mbxBase m + 0x20) 15 0 + 1) % d.cringSize m ≠ d.fld (mbxBase m + 0x1C) 15 0 % d.cringSize m

/-- A record written to the ring's next slot. -/
def cringWrite (d : Dev) (m : Nat) (w : List Nat) : Dev :=
  let b := mbxBase m
  let head := d.fld (b + 0x20) 15 0
  let phase := (d.mbx m).passes % 2 = 0
  let w := w.take 15 ++ [b2n phase * 2 ^ 31 + head]
  let d := d.toHost (d.reg (b + 0x14) * 2 ^ 32 + d.reg (b + 0x10) / 64 * 64 + 64 * head) (wordsToLE w)
  let next := (head + 1) % d.cringSize m
  let d := (d.setFld (b + 0x20) 15 0 next).setMbx m fun x => { x with passes := if next = 0 then x.passes + 1 else x.passes }
  (d.mbxEvent m 1).mbxSignal m

/-- A record put behind those held, or written. -/
def recordPut (d : Dev) (m : Nat) (w : List Nat) : Dev :=
  if d.cringFree m && (d.mbx m).held.isEmpty then d.cringWrite m w
  else (d.setMbx m fun x => { x with held := x.held ++ [w] }).mbxEvent m 4

/-- Held records written while the ring takes them. -/
def recordDrain (d : Dev) (m : Nat) : Dev :=
  (d.mbx m).held.foldl (fun d w =>
    if d.cringFree m then (d.setMbx m fun x => { x with held := x.held.drop 1 }).cringWrite m w else d) d

/-- An open ticket of a mailbox. -/
def ticket? (d : Dev) (t : Nat × Nat) : Option Ticket := (d.mbx t.1).tickets.find? (·.num = t.2)

/-- What a ticket carries in its responses: the mailbox and its count. -/
def ticketWord (t : Nat × Nat) : Nat := t.1 <<< 29 + t.2 % 2 ^ 29

/-- The phase and notes of an open ticket set. -/
def noteTicket (d : Dev) (t : Nat × Nat) (f : Ticket → Ticket) : Dev :=
  d.setMbx t.1 fun x => { x with tickets := x.tickets.map fun y => if y.num = t.2 then f y else y }

/-- A ticket's work has begun its effect (R490). -/
def partial_ (d : Dev) (t : Nat × Nat) : Dev := d.noteTicket t fun y => { y with phase := 1 }

/-- An asynchronous command completes: its record is written and its outcome remembered. -/
def closeTicket (d : Dev) (t : Nat × Nat) (status reason phase : Nat) (result : List Nat) : Dev :=
  match d.ticket? t with
  | none => d
  | some y =>
    let w1 := d.statusWord status reason phase false false
    let d := d.setMbx t.1 fun x => { x with tickets := x.tickets.filter (·.num ≠ t.2) }
    let d := d.remember t.1 y.req.tag (header y.req w1 0 0 0)
    d.recordPut t.1 ([ticketWord t, y.req.head.getD 0 0, w1, 0] ++ (result ++ List.replicate 11 0).take 11)

/-- A ticket that may be none closed. -/
def closeIf (d : Dev) (t : Option (Nat × Nat)) (status reason phase : Nat) (result : List Nat) : Dev :=
  match t with
  | none => d
  | some t => d.closeTicket t status reason phase result

/-! ### The take (R481 to R485, R489) -/

/-- The request of a mailbox as it stands in its request area. -/
def readReq (d : Dev) (m : Nat) : Req :=
  let x := d.mbx m
  let w (i : Nat) : Nat := (Map.getD x.req i 0).toNat
  let len := bits (w 1) 12 0
  { head := (List.range 16).map w, words := (List.range (min 1008 (len / 4))).map fun k => w (16 + k), door := x.door,
    takenAt := d.now, wd := max 1 (d.fld (mbxBase m + 4) 23 16) }

/-- Checks 1 to 4 of R483: the status and reason of the first that fails. -/
def reqRefusal (d : Dev) (r : Req) : Option (Nat × Nat) :=
  match op? r.opcode with
  | none => some (2, 0)
  | some o =>
    if r.len % 4 ≠ 0 || r.len > 4032 || r.len < o.short || r.len > o.long then some (3, 0)
    else if r.door ≠ r.tag then some (4, 3)
    else if !r.clean || r.rspAddr % 8 ≠ 0 then some (4, 0)
    else if !d.allowed r.opcode then some (5, 0)
    else none

/-- R489: whether another exclusive command of the group is in progress. -/
def groupBusy (d : Dev) (m code : Nat) : Bool :=
  let other (r : Req) : Bool := r.opcode / 256 = code / 256 && (op? r.opcode).any (·.excl)
  (op? code).any (·.excl) && d.mbxs.any fun x => (x.1 ≠ m && x.2.run.any other) || x.2.tickets.any fun t => other t.req

/-- R484, R486: whether mailbox `m` takes another ticket. -/
def ticketRoom (d : Dev) (m : Nat) : Bool :=
  let x := d.mbx m
  x.tickets.length < 64 && x.held.length < 256 && d.flag (mbxBase m + 4) 3

/-- R485: what a retry finds: the header to answer with. -/
def retryOf (d : Dev) (m : Nat) (r : Req) : Option (List Nat) :=
  if !r.retry then none
  else match (d.mbx m).tickets.find? (·.req.tag = r.tag) with
  | some t => some (header r (d.statusWord 0 0 0 true true) 0 0 (ticketWord (m, t.num)))
  | none => ((d.mbx m).past.find? (·.tag = r.tag)).map fun p =>
    let w := p.head.getD 1 0
    [p.head.getD 0 0, withBits w 5 5 1, 0] ++ p.head.drop 3

/-- A taken request judged and run: `body` gets the ticket it would hold; `free` says that it takes none (R484). -/
def runReq (d : Dev) (m : Nat) (r : Req) (hostFail : Bool) (free : Req → Bool) (body : Dev → Req → Nat × Nat → Dev × Reply) : Dev :=
  match d.reqRefusal r with
  | some (st, why) => d.complete m r st why 0 [] false
  | none =>
    match d.retryOf m r with
    | some h => d.respond m r.silent h []
    | none =>
      let async := (op? r.opcode).any (·.async) && !free r
      if d.groupBusy m r.opcode || async && !d.ticketRoom m then d.complete m r 1 0 0 [] false
      else
        let t := (m, ((d.mbx m).count + 1) % 2 ^ 29)
        let d := if async then d.setMbx m fun x => { x with tickets := x.tickets ++ [{ num := t.2, req := r, phase := 0 }] } else d
        let drop (d : Dev) : Dev := if async then d.setMbx m fun x => { x with tickets := x.tickets.filter (·.num ≠ t.2) } else d
        match body d r t with
        | (d, .no st why) => (drop d).complete m r st why 0 [] false
        | (d, .ended st why ph) => (drop d).complete m r st why ph [] false
        | (d, .ok ws why) => (drop d).complete m r 0 why 2 ws hostFail
        | (d, .later next) =>
          let d := d.setMbx m fun x => { x with count := t.2 }
          let h := header r (d.statusWord 0 0 0 false true) 0 0 (ticketWord t)
          next (d.respond m r.silent h [])

/-- The steward takes and runs a command of `code` posted in mailbox `m`. With `slow` it only takes it, and the mailbox shows
RUNNING until the command comes again. An undefined opcode is answered by any. -/
def takeAs (d : Dev) (m code : Nat) (slow : Bool) (body : Dev → Req → Nat × Nat → Dev × Reply) (hostFail : Bool := false)
    (free : Req → Bool := fun _ => false) : Dev :=
  let mine (r : Req) : Bool := r.opcode = code || (op? r.opcode).isNone
  let x := d.mbx m
  if !d.stewardRuns then d else
  match x.run with
  | some r => if mine r then d.runReq m r hostFail free body else d
  | none =>
    let r := d.readReq m
    if x.st = 1 && mine r then
      let d := (d.setMbx m fun x => { x with st := 2, run := some r, late := false }).ledgerEntry m
      if slow then d else d.runReq m r hostFail free body
    else d

/-- Entries of `size` words that fit behind `before` words of a result (R499). -/
def Reply.fit (r : Req) (before size n : Nat) : Nat := min n ((r.room - 4 * before) / (4 * size))

/-! ### The host's side (R479, R480, R482) -/

/-- A doorbell. -/
def doorbell (d : Dev) (m tag : Nat) : Dev :=
  let x := d.mbx m
  if x.st = 1 || x.st = 2 then d.mbxEvent m 2
  else d.setMbx m fun x => { x with st := 1, door := tag % 2 ^ 16, postedAt := d.now, late := false, stalled := false }

/-- A write of ACK. -/
def ack (d : Dev) (m : Nat) : Dev := if (d.mbx m).st = 3 then d.setMbx m fun x => { x with st := 0 } else d

/-- A write of CANCEL ordered before the take. -/
def cancelPosted (d : Dev) (m : Nat) : Dev :=
  if (d.mbx m).st = 1 then
    let r := d.readReq m
    let h := header r (d.statusWord 0x0B 2 0 false false) 0 0 0
    (d.remember m r.tag h).respond m false h []
  else d

/-- A write to the request area. -/
def reqWrite (d : Dev) (m i : Nat) (v : Word) : Dev :=
  let x := d.mbx m
  if x.st = 1 || x.st = 2 then d.mbxEvent m 3 else d.setMbx m fun x => { x with req := Map.putD x.req i 0 v }

/-- R481: a command still POSTED after 10 ms. -/
def notTaken (d : Dev) (m : Nat) : Dev :=
  let x := d.mbx m
  if x.st = 1 && !x.late && d.now ≥ x.postedAt + 10000000 then
    ((d.setMbx m fun x => { x with late := true }).raise (0xD040 + m) 0xD040).mbxEvent m 6
  else d

/-- R492: a synchronous command RUNNING beyond WD_MS. -/
def mbxStalled (d : Dev) (m : Nat) : Dev :=
  let x := d.mbx m
  if x.st = 2 && !x.stalled && x.run.any (fun r => !(op? r.opcode).any (·.async) && d.now ≥ r.takenAt + r.wd * 1000000) then
    ((d.setMbx m fun x => { x with stalled := true }).raise (0xD040 + m) 0xD041).mbxEvent m 7
  else d

/-- Registers of a mailbox block that R493 returns to their reset values. -/
def mbxRegs (d : Dev) (m : Nat) : Dev :=
  [0x04, 0x08, 0x0C, 0x10, 0x14, 0x18, 0x1C, 0x20, 0x24].foldl (fun (d : Dev) o => d.setReg (mbxBase m + o) (resetOf (mbxBase m + o))) d

/-- R493: FLR, a hot reset or PERST_N. -/
def mbxReset (d : Dev) (m : Nat) : Dev :=
  (d.setMbx m fun x =>
    { x with st := 0, rsp := [], passes := 0, late := false, stalled := false,
             run := x.run.map fun r => { r with silent := true } }).mbxRegs m

end Dev

end Sys2Proof.Machine
end

