-- ==== Sys2Proof/Machine/DmaBase.lean ====
section
/-! DEFINITION. The DMA channels below their descriptors (R452, R453, R462 to R468): states, how a descriptor starts and ends, the
halt, the reset, and what stops every channel. -/

namespace Sys2Proof.Machine

/-- How a descriptor's work ends: with a status, a reason, DONE_LEN and words 3 to 5 of its record; with an uncorrectable error
or poisoned data, which halts the channel; or not yet. -/
inductive DescEnd where
  | done (status reason len : Nat) (tail : List Nat)
  | halt (inj : Bool) (len : Nat)
  | wait
deriving DecidableEq, Repr

/-- A descriptor that ends with a status alone. -/
def DescEnd.code (status : Nat) (reason : Nat := 0) : DescEnd := .done status reason 0 []

/-- OP of a descriptor. -/
def dOp (w : List Nat) : Nat := bits (word w 0) 31 28
/-- SPACE of a descriptor. -/
def dSpace (w : List Nat) : Nat := bits (word w 0) 19 16
/-- HOST_ADDR of a descriptor. -/
def dHost (w : List Nat) : Nat := word w 3 * 2 ^ 32 + word w 2
/-- LEN of a descriptor. -/
def dLen (w : List Nat) : Nat := bits (word w 4) 24 0
/-- DEV_ADDR of a descriptor. -/
def dAddr (w : List Nat) : Nat := word w 6 * 2 ^ 32 + word w 5
/-- OUT_ADDR of a descriptor. -/
def dOut (w : List Nat) : Nat := word w 8 * 2 ^ 32 + word w 7

/-- The bits of DEV_ADDR that a SPACE lists (R454). -/
def addrMask (space : Nat) : Nat :=
  match space with
  | 0 => 0x3FFFFFFFFFF
  | 1 => 0x3F0007FFFF
  | _ => 0x1FFFFFFF

/-- The bits of words 10 to 13 that an OP lists (R457, R460, R461). -/
def opMask (op : Nat) : List Nat :=
  match op with
  | 4 => [0xDF0303FF, 0xFFFFFFFF, 0xFFFFFFF8, 0xFFFF00FF]
  | 6 => [0xFF0000FF, 0, 0, 0xFFFF0000]
  | 7 => [0, 0, 0, 0xFFFF0000]
  | _ => [0, 0, 0, 0]

/-- R452: whether a descriptor breaks the layout. -/
def descBad (w : List Nat) : Bool :=
  let out (v m : Nat) : Bool := v &&& (0xFFFFFFFF ^^^ m) ≠ 0
  let op := dOp w
  op > 7 || word w 0 &&& 0x00F0FFFF ≠ 0 || bits (word w 4) 31 25 ≠ 0 || word w 9 ≠ 0 || word w 14 ≠ 0 || word w 15 ≠ 0
    || (if 1 ≤ op && op ≤ 3 then dSpace w > 2 else dSpace w ≠ 0)
    || ((op = 1 || op = 2) && dAddr w &&& (0xFFFFFFFFFFFFFFFF ^^^ addrMask (dSpace w)) ≠ 0)
    || (op = 6 && dAddr w &&& (0xFFFFFFFFFFFFFFFF ^^^ addrMask 2) ≠ 0)
    || (List.range 4).any fun k => out (word w (10 + k)) ((opMask op).getD k 0)

namespace Dev

/-- Source of a channel (R598). -/
def srcChan (c : Nat) : Nat := 0xD000 + c

/-- Entries of a channel's descriptor ring. -/
def ringSize (d : Dev) (c : Nat) : Nat := 2 ^ d.fld (dmaBase c + 0x18) 4 0

/-- HEAD of a channel. -/
def ringHead (d : Dev) (c : Nat) : Nat := d.fld (dmaBase c + 0x20) 15 0

/-- Whether descriptors lie between HEAD and TAIL. -/
def ringWaits (d : Dev) (c : Nat) : Bool := d.ringHead c ≠ d.fld (dmaBase c + 0x1C) 15 0 % d.ringSize c

/-- STATE of a channel set. -/
def setChanState (d : Dev) (c v : Nat) : Dev := d.setFld (dmaBase c + 4) 2 0 v

/-- Whether a descriptor of the channel is in progress. -/
def chanBusy (d : Dev) (c : Nat) : Bool := (d.chan c).inj.isSome || (d.chan c).recs.isSome

/-- R464: what the state becomes once no descriptor runs, and at a doorbell. -/
def chanSettle (d : Dev) (c : Nat) : Dev :=
  let en := d.flag (dmaBase c) 0
  match d.chanState c with
  | 0 => if en && d.ringWaits c then d.setChanState c 1 else d
  | 1 => if d.chanBusy c then d else if !en then d.setChanState c 2 else if d.ringWaits c then d else d.setChanState c 0
  | _ => d

/-- Whether the channel may start its next descriptor. -/
def chanStarts (d : Dev) (c : Nat) : Bool :=
  d.chanState c = 1 && d.flag (dmaBase c) 0 && d.ringWaits c && !d.chanBusy c && (d.chan c).held.length < 256

/-- A record of a descriptor (R462), counted. -/
def descRecord (d : Dev) (c index id op status reason len : Nat) (tail : List Nat) (irq : Bool) : Dev :=
  let outcome := if status = 0 then 0 else if status = 0x0B then 2 else 1
  let b := dmaBase c
  let d := d.bump (b + 0x80)
  let d := if outcome = 1 then (d.bump (b + 0x98)).event (b + 8) 1 else if outcome = 2 then d.bump (b + 0xA0) else d
  let t (k : Nat) : Nat := tail.getD k 0
  d.cplPut c [id, outcome <<< 30 + op <<< 24 + reason <<< 16 + status, len, t 0, t 1, t 2, 0, index] irq

/-- Locks of a channel released (R465, R466). -/
def dropLocks (d : Dev) (c : Nat) : Dev :=
  let mine (o : Option (Nat × Nat)) : Bool := o.any fun l => l.1 = c
  let n := d.locksOf c
  let free (x : Ctx) : Ctx := if mine x.lock then { x with lock := none, conflict := false } else x
  let d := { d with
    store := d.store.map fun e => (e.1, free e.2)
    slices := d.slices.map fun s => (s.1, { s.2 with sets := s.2.sets.map fun e => (e.1, e.2.map fun w =>
      match w with
      | .line i x t => .line i (free x) t
      | .pend a b u => .pend a b u) })
    courses := d.courses.map fun x => (x.1, { x.2 with learned := x.2.learned.map fun e =>
      (e.1, if mine e.2.lock then { e.2 with lock := none } else e.2) }) }
  if n = 0 then d else d.event (dmaBase c + 8) 4

/-- Posted RECVs complete NOT_RUN in post order. -/
def recvsNotRun (d : Dev) (c : Nat) : Dev :=
  let l := (d.chan c).posted
  let d := d.setChan c fun x => { x with posted := [] }
  l.foldl (fun d r => d.descRecord c r.index r.id 5 0x0B 0 0 [] r.irq) d

/-- The descriptor in progress, which a failing RECV halts, completes NOT_RUN. -/
def runningNotRun (d : Dev) (c : Nat) : Dev :=
  let x := d.chan c
  let w := match x.inj, x.recs with
    | some (_, w), _ => some w
    | none, some r => some r.words
    | none, none => none
  match w with
  | none => d
  | some w =>
    (d.setChan c fun x => { x with inj := none, recs := none }).descRecord c ((d.ringHead c + d.ringSize c - 1) % d.ringSize c)
      (word w 1) (dOp w) 0x0B 0 0 [] ((word w 0).testBit 26)

/-- R466 steps 4 to 6: the channel halts on the descriptor at `index`, whose own record has been written. -/
def haltChan (d : Dev) (c index : Nat) (rest : List (Fin 16 × BitVec 32)) (inj : Bool) : Dev :=
  let b := dmaBase c
  let size := d.ringSize c
  let head := d.ringHead c
  let tail := d.fld (b + 0x1C) 15 0 % size
  let n := (tail + size - head) % size
  let d := d.runningNotRun c
  let d := (List.range n).foldl (fun d k =>
    let r := rest.getD k (0, 0xFFFFFFFF)
    d.descRecord c ((head + k) % size) r.2.toNat r.1 0x0B 0 0 [] false) d
  let d := (d.setFld (b + 0x20) 15 0 tail).recvsNotRun c
  let d := (d.dropLocks c).setChanState c 3
  let d := d.setFld (b + 0x40) 15 0 index
  (((d.event (b + 8) 0).raiseAs (srcChan c) 0xD010 [] inj false).cplSignal c)

/-- Fault 0xD012 of a channel. -/
def hostErr (d : Dev) (c : Nat) : Dev := (d.raise (srcChan c) 0xD012).event (dmaBase c + 8) 3

/-- R466, R467: what a fault of a host access ends a descriptor with, after `len` bytes or records. -/
def hostEnd (d : Dev) (c : Nat) (e : HostFault) (len : Nat) : Dev × DescEnd :=
  match e with
  | .poisoned => (d.hostErr c, .halt false len)
  | .unfetchable => (d, .halt false len)
  | .refused => (d.hostErr c, .done 0x0C 0x11 len [])
  | .timeout => (d.hostErr c, .done 9 0 len [])

/-- A descriptor ends: its record, the halt that it causes, and the state of the channel. A RECV ends beside the descriptor in
progress. -/
def descEnds (d : Dev) (c index : Nat) (w : List Nat) (e : DescEnd) (rest : List (Fin 16 × BitVec 32)) : Dev :=
  let irq := (word w 0).testBit 26
  let free (d : Dev) : Dev := if dOp w = 5 then d else d.setChan c fun x => { x with inj := none, recs := none }
  match e with
  | .wait => d
  | .halt inj len => ((free d).descRecord c index (word w 1) (dOp w) 0x0A 0 len [] irq).haltChan c index rest inj
  | .done status reason len tail =>
    let d := (free d).descRecord c index (word w 1) (dOp w) status reason len tail irq
    if status ≠ 0 && status ≠ 0x0B && (word w 0).testBit 24 then d.haltChan c index rest false else d.chanSettle c

/-- HEAD moved past the descriptor that is fetched. -/
def fetchDesc (d : Dev) (c : Nat) : Dev := d.setFld (dmaBase c + 0x20) 15 0 ((d.ringHead c + 1) % d.ringSize c)

/-- The descriptor at HEAD taken and run, where its OP is `op`; an invalid OP is taken by any. -/
def descRow (d : Dev) (c op : Nat) (w : List Nat) (f : DmaFacts) (body : Dev → Dev × DescEnd) : Dev :=
  if !d.chanStarts c then d else
  let index := d.ringHead c
  if f.host = some .unfetchable then
    let w' := [op <<< 28, 0xFFFFFFFF]
    (d.fetchDesc c).descEnds c index w' (.halt false 0) f.rest
  else if dOp w ≠ op && dOp w < 8 then d
  else
    let d := d.fetchDesc c
    let (d, e) := if descBad w then (d, .code 4) else body d
    d.descEnds c index w e f.rest

/-- Whether the next device-memory word that a channel reads is uncorrectable: whether an injection made it so. -/
def eccMet (d : Dev) (c : Nat) (f : DmaFacts) : Option Bool :=
  if f.ecc.isSome then some false else if d.flag (dmaBase c + 0x0C) 0 then some true else none

/-- An armed INJ_ECC used. -/
def eccUsed (d : Dev) (c : Nat) (inj : Bool) : Dev := if inj then d.clrBit (dmaBase c + 0x0C) 0 else d

/-- Bytes read from the host counted. -/
def bytesIn (d : Dev) (c n : Nat) : Dev := d.bump (dmaBase c + 0x88) n
/-- Bytes written to the host counted. -/
def bytesOut (d : Dev) (c n : Nat) : Dev := d.bump (dmaBase c + 0x90) n

/-! ### Control (R464, R465) -/

/-- A write of DMA_TAIL. -/
def tailWrite (d : Dev) (c v : Nat) : Dev := (d.setFld (dmaBase c + 0x1C) 15 0 (v % d.ringSize c)).chanSettle c

/-- R464: HALTED left by RESUME with ENABLE 1. -/
def resumeNow (d : Dev) (c : Nat) : Dev :=
  if d.chanState c = 3 && d.flag (dmaBase c) 0 && d.flag (dmaBase c) 1 then
    ((d.clrBit (dmaBase c) 1).setChanState c 0).chanSettle c
  else d

/-- A write of ENABLE. -/
def enableWrite (d : Dev) (c : Nat) (en : Bool) : Dev :=
  let d := d.setFld (dmaBase c) 0 0 (b2n en)
  let d := if en && d.chanState c = 2 then d.setChanState c 0 else d
  (d.chanSettle c).resumeNow c

/-- A write of RESUME; it is used once the channel is HALTED with ENABLE 1, and ignored elsewhere. -/
def resumeWrite (d : Dev) (c : Nat) : Dev := if d.chanState c = 3 then (d.setBit (dmaBase c) 1).resumeNow c else d

/-- Chains that holder `p` holds, by address with GEN. -/
def chainsOf (d : Dev) (p : Nat) : List (Nat × Chain) :=
  [0, 1].flatMap fun h => ((d.half h).chains.filter fun e => e.2.holder = p).map fun e => (h * 2 ^ 20 + e.1, e.2)

/-- R465: a RESET ends once every record that it waits for has been written. -/
def resetEnds (d : Dev) (c : Nat) : Dev :=
  let b := dmaBase c
  if !(d.chan c).resets || !(d.chan c).held.isEmpty then d
  else
    let d := (d.chainsOf (0x41 + c)).foldl (fun d e => (d.setChain e.1 fun x => { x with holder := 0 }).dropRef e.1 e.2) d
    let d := (d.dropLocks c).setChan c fun x => { x with resets := false, passes := 0 }
    let d := [0x1C, 0x20, 0x30, 0x34].foldl (fun (d : Dev) o => d.setFld (b + o) 15 0 0) d
    ((d.clrBit b 2).setChanState c 0).clrBit b 1

/-- A write of RESET. -/
def resetWrite (d : Dev) (c : Nat) : Dev :=
  let b := dmaBase c
  if d.chanState c ≠ 2 && d.chanState c ≠ 3 then d.setBit (b + 4) 31
  else
    let d := (d.setBit b 2).recvsNotRun c
    ((d.setChan c fun x => { x with resets := true }).cplDrain c).resetEnds c

/-- A write of DMA_CPL_TAIL. -/
def cplTailWrite (d : Dev) (c v : Nat) : Dev :=
  ((d.setFld (dmaBase c + 0x30) 15 0 (v % d.cplSize c)).cplDrain c).resetEnds c

/-- Whether a block's IDLE fields may be written (R470). -/
def dmaIdle (d : Dev) (c : Nat) : Bool := !d.flag (dmaBase c) 0 && d.chanState c ≠ 1

/-- FIRST and COUNT of a channel's bound host queues. -/
def hostq (d : Dev) (c : Nat) : Nat × Nat := (d.fld (dmaBase c + 0x38) 26 16, d.fld (dmaBase c + 0x38) 11 0)

/-- A write of DMA_HOSTQ (R458, R470). -/
def hostqWrite (d : Dev) (c v : Nat) : Dev :=
  let f := bits v 26 16
  let n := bits v 11 0
  let clash := (List.range 64).any fun k =>
    let o := d.hostq k
    k ≠ c && o.2 ≠ 0 && n ≠ 0 && f < o.1 + o.2 && o.1 < f + n
  if !d.dmaIdle c then d.setBit (dmaBase c + 4) 31
  else if f + n > 2048 || clash then d.setBit (dmaBase c + 4) 30
  else (d.setFld (dmaBase c + 0x38) 26 16 f).setFld (dmaBase c + 0x38) 11 0 n

/-! ### What stops every channel (R448, R467) -/

/-- A channel STOPPED: its descriptor in progress completes FAILED with REASON 0x13, and its records are held. -/
def stopChan (d : Dev) (c : Nat) : Dev :=
  let x := d.chan c
  let size := d.ringSize c
  let index := (d.ringHead c + size - 1) % size
  let d := d.setChanState c 4
  let end_ (d : Dev) (w : List Nat) (len : Nat) : Dev :=
    (d.setChan c fun x => { x with inj := none, recs := none }).descRecord c index (word w 1) (dOp w) 0x0C 0x13 len []
      ((word w 0).testBit 26)
  match x.inj, x.recs with
  | some (_, w), _ => end_ d w 0
  | none, some r => end_ d r.words r.good
  | none, none => d

/-- Every channel STOPPED. -/
def stopAll (d : Dev) : Dev := (List.range 64).foldl (fun d c => d.stopChan c) d

/-- BME and the link's speed and width in GLB_HOST_STATUS. -/
def bme (d : Dev) : Bool := d.flag 0x208 0
/-- Whether the PCIe link is up. -/
def linkUpPcie (d : Dev) : Bool := d.fld 0x208 31 28 ≠ 0

/-- R464: Bus Master Enable is set and the link is up: STOPPED channels are PAUSED and write what they held. -/
def unstop (d : Dev) : Dev :=
  if d.bme && d.linkUpPcie then
    (List.range 64).foldl (fun d c => if d.chanState c = 4 then ((d.setChanState c 2).cplDrain c).resetEnds c else d) d
  else d

/-- FLR, a hot reset or PERST_N: Bus Master Enable is cleared, every channel stops, and the mailboxes are reset (R467, R493). -/
def pcieReset (d : Dev) : Dev := (List.range 8).foldl (fun d m => d.mbxReset m) ((d.clrBit 0x208 0).stopAll)

/-- Loss of the PCIe link. -/
def pcieLost (d : Dev) : Dev :=
  if d.linkUpPcie then ((d.setFld 0x208 31 24 0).raise 0xD080 0xD020).stopAll else d

/-- The PCIe link trained: its speed, 1 to 5, and width. -/
def pcieUp (d : Dev) (speed width : Nat) : Dev :=
  if d.isOn 1 && 1 ≤ speed && speed ≤ 5 then ((d.setFld 0x208 31 28 speed).setFld 0x208 27 24 width).unstop else d

end Dev

end Sys2Proof.Machine
end

