-- ==== Sys2Proof/Machine/Dma.lean ====
section
/-! DEFINITION. DMA descriptors other than RECORDS (R454, R457 to R461), and the commands of the channels and the PCIe link. -/

namespace Sys2Proof.Machine

namespace Dev

/-! ### COPY (R454) -/

/-- Whether both HBM stacks, where the tile store lies, are ON. -/
def hbmOn (d : Dev) : Bool := d.isOn 110 && d.isOn 111

/-- Whether a span of set memory is one that COPY_IN may write (R454). -/
def hostMayWrite (off n : Nat) : Bool := off + n ≤ 0x63800 || (0x7BA00 ≤ off && off + n ≤ 0x7BB80)

/-- `n` bytes of `l`, absent ones 0. -/
def padTo (l : List Byte) (n : Nat) : List Byte := l.take n ++ List.replicate (n - l.length) 0

/-- COPY_IN. -/
def copyIn (d : Dev) (c : Nat) (w : List Nat) (data : List Byte) (f : DmaFacts) : Dev × DescEnd :=
  let len := dLen w
  let a := dAddr w
  let n := if f.host.isSome then min f.moved len else len
  let bytes := padTo data n
  let ends (d : Dev) : Dev × DescEnd :=
    let d := d.bytesIn c n
    match f.host with
    | some e => d.hostEnd c e n
    | none => (d, .done 0 0 n [])
  if len = 0 || len > 2 ^ 24 || dSpace w = 2 then (d, .code 4)
  else if dSpace w = 0 then
    let h := bits a 41 32
    let off := bits a 31 0
    if !d.hbmOn then (d, .code 6)
    else match d.tileWrite h off (padTo data len) with
      | (d', 0) => if n = len then ends d' else ends (d.tileWrite h off bytes).1
      | (_, st) => (d, .code st)
  else
    let s := bits a 37 32
    let off := bits a 18 0
    if off % 8 ≠ 0 || len % 8 ≠ 0 || off + len > 0x80000 then (d, .code 4)
    else if !hostMayWrite off len then (d, .code 5)
    else if !d.isOn (38 + s) then (d, .code 6)
    else ends (d.memWrite s off bytes)

/-- Bytes that COPY_OUT reads, or the status that refuses it; with the first byte that reads uncorrectable. -/
def copySource (d : Dev) (w : List Nat) : Dev × Except Nat (List Byte × Option Nat) :=
  let len := dLen w
  let a := dAddr w
  match dSpace w with
  | 0 =>
    if !d.hbmOn then (d, .error 6)
    else match d.tileRead (bits a 41 32) (bits a 31 0) len with
      | .ok b => (d, .ok (b, none))
      | .error e => (d, .error e)
  | 1 =>
    let s := bits a 37 32
    let off := bits a 18 0
    if off % 8 ≠ 0 || len % 8 ≠ 0 || off + len > 0x80000 then (d, .error 4)
    else if !d.isOn (38 + s) then (d, .error 6)
    else
      let bad := ((d.set s).poison.filter fun p => off ≤ 8 * p && 8 * p < off + len).foldl (fun (m : Option Nat) p =>
        some (min (m.getD (8 * p - off)) (8 * p - off))) none
      (d, .ok (d.memRead s off len, bad))
  | _ =>
    let (b, g) := nameChain a
    if !d.halfOn (halfAddr b) then (d, .error 6)
    else match d.readChain b g len with
      | (d, none) => (d, .error 7)
      | (d, some l) => (d, .ok (l, if (d.chain? b g).any (·.poison) then some 0 else none))

/-- COPY_OUT. -/
def copyOut (d : Dev) (c : Nat) (w : List Nat) (f : DmaFacts) : Dev × DescEnd :=
  if dLen w = 0 || dLen w > 2 ^ 24 then (d, .code 4)
  else match d.copySource w with
  | (d, .error st) => (d, .code st)
  | (d, .ok (bytes, bad)) =>
    let put (d : Dev) (n : Nat) : Dev := ((if n = 0 then d else d.toHost (dHost w) (bytes.take n)).bytesOut c n)
    let stop : Option (Bool × Nat) :=
      match d.eccMet c f, bad with
      | some true, _ => some (true, 0)
      | some false, _ => some (false, min (f.ecc.getD 0) bytes.length)
      | none, some k => some (false, k)
      | none, none => none
    match stop, f.host with
    | some (inj, n), _ => ((put d n).eccUsed c inj, .halt inj n)
    | none, some e => (put d (min f.moved bytes.length)).hostEnd c e (min f.moved bytes.length)
    | none, none => (put d bytes.length, .done 0 0 bytes.length [])

/-! ### INJECT (R457) -/

/-- Whether the operation fields of an INJECT are valid. -/
def injectFieldsOk (w : List Nat) : Bool :=
  let w10 := word w 10
  let ts := bits (word w 13) 7 0
  bits w10 31 30 ≤ 1 && bits w10 28 24 ≤ 15 && (bits w10 17 16 = 1 || bits w10 17 16 = 2)
    && (bits w10 31 30 = 0 || bits (word w 13) 31 16 < 55296) && (ts = 0xFF || ts < 64) && 14 ≤ dLen w && dLen w ≤ 9596

/-- The descriptor of an injected packet whose chain has been allocated. -/
def injectDesc (d : Dev) (w : List Nat) (name a g : Nat) (bytes : List Byte) : Desc :=
  let x := stampFields (originDesc d.epochs.curTag d.now name bytes.length a g) (word w 12)
  let x := { x with tsSet := bits (word w 13) 7 0 }
  if bits (word w 10) 17 16 = 2 then { x with msrc := 2, mortar := word w 11 } else d.computeWord x a g

/-- INJECT; in MODE 0 a full injection queue holds it. -/
def injectHost (d : Dev) (c : Nat) (w : List Nat) (data : List Byte) (f : DmaFacts) : Dev × DescEnd :=
  let len := dLen w
  let w10 := word w 10
  let name := bits w10 28 24
  let q := bits (word w 13) 31 16
  let mode := bits w10 31 30
  let h := if mode = 0 then dieOfCourse (d.physical name) else halfOfQueue q
  let bytes := padTo data len
  if !injectFieldsOk w then (d, .code 4)
  else match f.host with
  | some e => (d.bytesIn c (min f.moved len)).hostEnd c e 0
  | none =>
    if !d.courseOn name || !d.halfOn h then (d.bytesIn c len, .code 6)
    else if mode = 0 && (!d.injectRoom name || d.moveHolds name) then
      (d.setChan c fun x => { x with inj := some ((x.inj.map (·.1)).getD d.now, w) }, .wait)
    else
      let d := d.bytesIn c len
      match d.alloc h 3 .new 0 0xFF bytes with
      | (d, .error r) => (d, .done 0x0C r 0 [])
      | (d, .ok (a, g)) =>
        let x := d.injectDesc w name a g bytes
        if mode = 0 then
          (d.enterInject name (bits w10 9 0) x false 3, .done 0 0 len [len])
        else match d.placeHeld x q true with
          | (d, .error r) => (d.release a g, .done 0x0C r 0 [])
          | (d, .ok p) =>
            let (d, pid) := d.enrol name
            (d.takeHeld { p with desc := { p.desc with pid := pid, ledger := name } } (a, g) [], .done 0 0 len [len])

/-- DESC_INJECT: a descriptor at HEAD, or the one that has waited for room. -/
def descInject (d : Dev) (c : Nat) (w : List Nat) (data : List Byte) (f : DmaFacts) : Dev :=
  match (d.chan c).inj with
  | none => d.descRow c 4 w f fun d => d.injectHost c w data f
  | some (_, w') =>
    let index := (d.ringHead c + d.ringSize c - 1) % d.ringSize c
    let (d, e) := d.injectHost c w' data f
    d.descEnds c index w' e f.rest

/-- INJECT_QUEUE_TIMEOUT: 100 µs on a full injection queue. -/
def injectTimeout (d : Dev) (c : Nat) (f : DmaFacts) : Dev :=
  match (d.chan c).inj with
  | none => d
  | some (t, w) =>
    if d.now < t + 100000 then d
    else d.descEnds c ((d.ringHead c + d.ringSize c - 1) % d.ringSize c) w (.code 1) f.rest

/-! ### RECV (R458, R459) -/

/-- RECV posted: it has no record until a packet has come. -/
def recvPost (d : Dev) (c : Nat) (w : List Nat) (f : DmaFacts) : Dev :=
  if !d.chanStarts c then d else
  if dOp w = 5 && !descBad w && f.host ≠ some .unfetchable && (d.chan c).posted.length < 4096 then
    let w0 := word w 0
    let r : Recv := ⟨d.ringHead c, word w 1, dHost w, dLen w, w0.testBit 25, w0.testBit 26, w0.testBit 24⟩
    (((d.fetchDesc c).setChan c fun x => { x with posted := x.posted ++ [r] })).chanSettle c
  else d.descRow c 5 w f fun d => (d, .code 1)

/-- The bound queue that a channel serves next: round robin behind the last. -/
def nextHostQueue (d : Dev) (c : Nat) : Option Nat :=
  let (f, n) := d.hostq c
  let last := (d.chan c).lastQ
  let qs := (List.range n).map fun k => 63488 + f + k
  let ready (q : Nat) : Bool := !(d.queue q).items.isEmpty
  match (qs.filter (· > last)).find? ready with
  | some q => some q
  | none => qs.find? ready

/-- RECV_DELIVER: the oldest posted RECV takes the head of the next bound queue. A host access that fails leaves the packet at
its queue's head. -/
def recvDeliver (d : Dev) (c : Nat) (t : TxFacts) (f : DmaFacts) : Dev :=
  let st := d.chanState c
  match (d.chan c).posted, d.nextHostQueue c with
  | r :: more, some q =>
    match (d.queue q).items with
    | [] => d
    | w :: rest =>
      if st > 1 || (d.chan c).held.length ≥ 256 then d else
      let x := w.desc
      let d := d.setChan c fun y => { y with posted := more, lastQ := q }
      let ends (d : Dev) (e : DescEnd) : Dev :=
        d.descEnds c r.index [5 <<< 28 + b2n r.irq <<< 26 + b2n r.stop <<< 24, r.id] e f.rest
      let d0 := d.setQueue q fun y =>
        { y with items := rest, awake := y.awake && !rest.isEmpty, lastSoj := d.now - w.enq, maxSoj := max y.maxSoj (d.now - w.enq) }
      match d.chain? x.chain x.gen with
      | none => ends (d0.endCopy x (.dropped 0x64)) (.halt false 0)
      | some ch =>
        let h := halfAddr x.chain
        let seen := t.seen.getD ch.bytes
        let body := wordsToLE x.toWords ++ seen
        match f.host with
        | some e =>
          let d := if f.moved = 0 then d else d.toHost r.host (body.take (min f.moved r.len))
          let (d, e) := (d.bytesOut c (min f.moved r.len)).hostEnd c e 0
          ends d e
        | none =>
          match d.eccMet c f with
          | some inj => ends ((d0.eccUsed c inj).endWaiting w 0xC1) (.halt inj 0)
          | none =>
            if ch.poison || t.bad then
              let d := if t.bad && !ch.poison then (d0.raiseWear (srcMem (2 + h)) 0xC020 (memDetail (2 + h) d0.free)).used else d0
              ends ((d.setChain x.chain fun c => { c with poison := true }).endWaiting w 0xC1) (.halt false 0)
            else if t.link || ch.broken.isSome then
              ends ((d0.linkError x.chain false).endCopy x (.dropped 0x64)) (.halt false 0)
            else
              let n := min body.length r.len
              let d := ((d0.toHost r.host (body.take n)).bytesOut c n).bump (dmaBase c + 0xA8)
              let computed := crc32c seen
              let trunc := b2n (body.length > r.len)
              if computed ≠ x.mortar then
                let det := mortarDetail x (d.slot x.tag).num x.mortar computed
                let d := (d.raiseAs (srcChan c) 0x5010 det x.inverted false).endWaiting w 0x58
                ends d (.done 0x0C 0x58 n [seen.length, q <<< 16 + trunc])
              else if r.hold then
                let d := d.setChain x.chain fun y => { y with holder := 0x41 + c, cls := 3, modified := false }
                ends (d.endCopy x .departed) (.done 0 0 n [seen.length, q <<< 16 + trunc, chainName x.chain x.gen])
              else ends ((d.release x.chain x.gen).endCopy x .departed) (.done 0 0 n [seen.length, q <<< 16 + trunc])
  | _, _ => d

/-! ### CHAIN (R460) -/

/-- What a chain operation answers. -/
def chopEnd (r : Dev × ChainOutcome) : Dev × DescEnd :=
  match r with
  | (d, .ok) => (d, .code 0)
  | (d, .misuse) => (d, .code 7)
  | (d, .full) => (d, .done 0x0C 0x65 0 [])

/-- CHOP ENQ: the chain queued with one more reference, while the host keeps its claim. COURSE is read without bit 28, which is also
the lowest bit of CHOP (R460). -/
def hostEnq (d : Dev) (c : Nat) (w : List Nat) (a g : Nat) : Dev × DescEnd :=
  let q := bits (word w 13) 31 16
  let name := bits (word w 10) 27 24
  match d.judgeHolder (0x41 + c) a g true with
  | (d, none) => (d, .code 7)
  | (d, some ch) =>
    if ch.refcnt ≥ 255 then (d, .done 0x0C 0x65 0 [])
    else if !d.halfOn (halfOfQueue q) then (d, .code 6)
    else
      let x := d.computeWord (originDesc d.epochs.curTag d.now name ch.bytes.length a g) a g
      match d.placeHeld x q false with
      | (d, .error r) => (d, .done 0x0C r 0 [])
      | (d, .ok p) =>
        let y := p.desc
        let d :=
          if y.chain = a && y.gen = g then d.setChain a fun z => { z with refcnt := z.refcnt + 1 }
          else d.setChain y.chain fun z => { z with bytes := ch.bytes, poison := ch.poison }
        let (d, pid) := d.enrol name
        let y := { y with pid := pid, ledger := name }
        if p.brk.isSome then
          let (d, ws) := d.pktItem y q (List.replicate 14 0 ++ [0x3FFFFFFF, 3])
          ((d.enqueue q { p with desc := y, enq := d.now, item := some ws }).refuseIfDown q, .code 0)
        else (d.enqueue q { p with desc := y, enq := d.now }, .code 0)

/-- CHAIN, where its CHOP is `chop`; an invalid CHOP is BAD_PARAM and is taken by any. -/
def chainRow (d : Dev) (c chop : Nat) (w : List Nat) (f : DmaFacts) : Dev :=
  let k := bits (word w 10) 31 28
  if dOp w = 6 && k ≠ chop && 1 ≤ k && k ≤ 5 then d else
  d.descRow c 6 w f fun d =>
    let (a, g) := nameChain (dAddr w)
    let p := 0x41 + c
    if k = 0 || k > 5 || (k = 4 && !isHolder (bits (word w 10) 7 0)) then (d, .code 4)
    else if !d.halfOn (halfAddr a) then (d, .code 6)
    else match k with
      | 1 => chopEnd (d.shareBy p a g)
      | 2 => chopEnd (d.releaseBy p a g)
      | 3 => chopEnd (d.freeBy p a g)
      | 4 => chopEnd (d.giveBy p a g (bits (word w 10) 7 0))
      | _ =>
        match d.eccMet c f with
        | some inj => (d.eccUsed c inj, .halt inj 0)
        | none => d.hostEnq c w a g

/-! ### ITEM (R461) -/

/-- ITEM: the 32 words of the record at HOST_ADDR. -/
def itemHost (d : Dev) (c : Nat) (w : List Nat) (data : List Byte) (f : DmaFacts) : Dev × DescEnd :=
  match f.host with
  | some e => d.hostEnd c e 0
  | none =>
    let r := leWords 32 (padTo data 128)
    let q := bits (word w 13) 31 16
    let r0 := word r 0
    let r2 := word r 2
    let ok := 55296 ≤ q && q ≤ 63487 && bits r0 31 28 = 2 && bits r0 19 18 ≠ 3 && r0 &&& 0x3FFFF = 0
      && word r 3 &&& 0x7F000000 = 0 && (bits r0 19 18 ≠ 1 || bits r2 7 0 < 64)
    if !ok then (d, .code 4)
    else
      let d := d.bytesIn c 128
      let tag := d.epochs.curTag
      let head := [withBits r0 27 27 tag, word r 1, (d.slot tag).num <<< 16 + (0x41 + c) <<< 8 + bits r2 7 0, word r 3]
      match d.queueItem q (head ++ r.drop 4) with
      | (d, some why) => (d, .done 0x0C why 0 [])
      | (d, none) => (d.refuseIfDown q, .code 0)

end Dev

/-! ### Commands -/

/-- The words of a descriptor. -/
def descWords (w : Vector (BitVec 32) 16) : List Nat := w.toList.map (·.toNat)

/-- FLR (R467, R493). -/
def execFlr (s : State) : Result := s.act Dev.pcieReset

/-- HOT_RESET (R467). -/
def execHotReset (s : State) : Result := s.act Dev.pcieReset

/-- PERST (R448): as FLR; the configuration space is the host's view and holds here Bus Master Enable. -/
def execPerst (s : State) : Result := s.act Dev.pcieReset

/-- PCIE_LINK_LOSS (R467). -/
def execPcieLinkLoss (s : State) : Result := s.act Dev.pcieLost

/-- PCIE_LINK_UP (R464): speed 1 to 5 and width. -/
def execPcieLinkUp (speed width : Fin 16) (s : State) : Result := s.act (·.pcieUp speed width)

/-- BUS_MASTER_DISABLE (R467). -/
def execBusMasterDisable (s : State) : Result := s.act fun d => (d.clrBit 0x208 0).stopAll

/-- BUS_MASTER_ENABLE (R464). -/
def execBusMasterEnable (s : State) : Result := s.act fun d => (d.setBit 0x208 0).unstop

/-- DMA_TAIL_WRITE (R464). -/
def execDmaTailWrite (ch : Fin 64) (index : BitVec 16) (s : State) : Result := s.host (·.tailWrite ch index.toNat)

/-- DMA_ENABLE_WRITE (R464). -/
def execDmaEnableWrite (ch : Fin 64) (en : Bool) (s : State) : Result := s.host (·.enableWrite ch en)

/-- DMA_RESUME (R464). -/
def execDmaResume (ch : Fin 64) (s : State) : Result := s.host (·.resumeWrite ch)

/-- DMA_RESET (R465). -/
def execDmaReset (ch : Fin 64) (s : State) : Result := s.host (·.resetWrite ch)

/-- DMA_HOSTQ_WRITE (R458). -/
def execDmaHostqWrite (ch : Fin 64) (v : BitVec 32) (s : State) : Result := s.host (·.hostqWrite ch v.toNat)

/-- DMA_CPL_TAIL_WRITE (R463). -/
def execDmaCplTailWrite (ch : Fin 64) (index : BitVec 16) (s : State) : Result := s.host (·.cplTailWrite ch index.toNat)

/-- DESC_NOP (R452). -/
def execDescNop (ch : Fin 64) (desc : Vector (BitVec 32) 16) (facts : DmaFacts) (s : State) : Result :=
  s.act (·.descRow ch 0 (descWords desc) facts fun d => (d, .code 0))

/-- COPY_IN (R454): the descriptor and the bytes at HOST_ADDR. -/
def execCopyIn (ch : Fin 64) (desc : Vector (BitVec 32) 16) (data : List Byte) (facts : DmaFacts) (s : State) : Result :=
  s.act (·.descRow ch 1 (descWords desc) facts fun d => d.copyIn ch (descWords desc) data facts)

/-- COPY_OUT (R454). -/
def execCopyOut (ch : Fin 64) (desc : Vector (BitVec 32) 16) (facts : DmaFacts) (s : State) : Result :=
  s.act (·.descRow ch 2 (descWords desc) facts fun d => d.copyOut ch (descWords desc) facts)

/-- DESC_INJECT (R457). -/
def execDescInject (ch : Fin 64) (desc : Vector (BitVec 32) 16) (data : List Byte) (facts : DmaFacts) (s : State) : Result :=
  s.act (·.descInject ch (descWords desc) data facts)

/-- INJECT_QUEUE_TIMEOUT (R457). -/
def execInjectQueueTimeout (ch : Fin 64) (facts : DmaFacts) (s : State) : Result := s.act (·.injectTimeout ch facts)

/-- RECV (R459). -/
def execRecv (ch : Fin 64) (desc : Vector (BitVec 32) 16) (facts : DmaFacts) (s : State) : Result :=
  s.act (·.recvPost ch (descWords desc) facts)

/-- RECV_DELIVER (R459). -/
def execRecvDeliver (ch : Fin 64) (read : TxFacts) (facts : DmaFacts) (s : State) : Result := s.act (·.recvDeliver ch read facts)

/-- ITEM (R461). -/
def execItem (ch : Fin 64) (desc : Vector (BitVec 32) 16) (data : List Byte) (facts : DmaFacts) (s : State) : Result :=
  s.act (·.descRow ch 7 (descWords desc) facts fun d => d.itemHost ch (descWords desc) data facts)

/-- DMA_CHAIN_SHARE (R460). -/
def execDmaChainShare (ch : Fin 64) (desc : Vector (BitVec 32) 16) (facts : DmaFacts) (s : State) : Result :=
  s.act (·.chainRow ch 1 (descWords desc) facts)

/-- DMA_CHAIN_RELEASE (R460). -/
def execDmaChainRelease (ch : Fin 64) (desc : Vector (BitVec 32) 16) (facts : DmaFacts) (s : State) : Result :=
  s.act (·.chainRow ch 2 (descWords desc) facts)

/-- DMA_CHAIN_FREE (R460). -/
def execDmaChainFree (ch : Fin 64) (desc : Vector (BitVec 32) 16) (facts : DmaFacts) (s : State) : Result :=
  s.act (·.chainRow ch 3 (descWords desc) facts)

/-- DMA_CHAIN_GIVE (R460). -/
def execDmaChainGive (ch : Fin 64) (desc : Vector (BitVec 32) 16) (facts : DmaFacts) (s : State) : Result :=
  s.act (·.chainRow ch 4 (descWords desc) facts)

/-- DMA_CHAIN_ENQ (R460). -/
def execDmaChainEnq (ch : Fin 64) (desc : Vector (BitVec 32) 16) (facts : DmaFacts) (s : State) : Result :=
  s.act (·.chainRow ch 5 (descWords desc) facts)

end Sys2Proof.Machine
end

