-- ==== Sys2Proof/Machine/Ports.lean ====
section
/-! DEFINITION. Chapter 3: states of bays and ports, training, received frames, control policing, PFC, quarantine,
lanes and preemption. -/

namespace Sys2Proof.Machine

/-- STATE as PRT_STATUS codes it. -/
def PortState.code : PortState → Nat
  | .empty => 0
  | .training => 1
  | .admitted => 2
  | .quarantined => 3
  | .withdrawn => 4

/-- Tags of a frame under R63: the TPIDs that stand one after another from byte 12, at most `n`. -/
def tpids (alt : Nat) (l : List Byte) : Nat → Nat → List Nat
  | 0, _ => []
  | n + 1, off =>
    let t := field l off 2
    if t = 0x8100 || t = 0x88A8 || t = alt then t :: tpids alt l n (off + 4) else []

/-- Whether the tags are among those R63 supports. -/
def tagsOk (alt : Nat) : List Nat → Bool
  | [] => true
  | [_] => true
  | [o, i] => (o = 0x88A8 || o = alt) && i = 0x8100
  | _ => false

/-- The control class a frame belongs to under R77: LINK, PTP, ARP, GROUP. -/
def controlClass (da etherType : Nat) : Option Nat :=
  if 0x0180C2000000 ≤ da ∧ da ≤ 0x0180C200000F then some 0
  else if etherType = 0x88F7 then some 1
  else if etherType = 0x0806 then some 2
  else if da / 2 ^ 40 % 2 = 1 then some 3
  else none

/-- The bay or network lane that ball group `x` of a lane die carries (R64): interface of the whole port, lane. -/
def laneOwner (die x : Nat) : Option (Nat × Nat) :=
  if x < 48 then some (12 * die + x / 4, x % 4)
  else if x < 80 then some (64 + 4 * die + (x - 48) / 8, (x - 48) % 8)
  else none

namespace Dev

/-- DETAIL of the port family of faults (R604). -/
def portDetail (i trigger lane : Nat) : List Nat := [trigger * 2 ^ 24 + lane * 2 ^ 12 + i % 256]

/-- Whether an interface exists in the mode its port is in (R61). -/
def inMode (d : Dev) (i : Nat) : Bool := isIface i && (i < 80 || d.breakout (netOf i))

/-- ENABLE of PRT_CTRL. -/
def enabled (d : Dev) (i : Nat) : Bool := d.flag (portBase i) 0

/-- R73: what leaving service does: the queues are flushed and a frame in transmission is cut. -/
def leaveService (d : Dev) (i : Nat) : Dev :=
  ((d.flushIf i 0xFF).cutSending i).setPort i fun p =>
    { p with paused := [], wdStart := [], recover := [], speed := 0, preActive := false, verifying := false }

/-- A state entered, with its event; PFC toward the interface is judged again. -/
def enterState (d : Dev) (i : Nat) (s : PortState) : Dev :=
  let old := (d.port i).st
  let d := d.setPort i fun p => { p with st := s, since := if p.st = s then p.since else d.now }
  let d := if old = s then d else d.event (portBase i + 0x20) 6
  let d := match s with
    | .empty => (d.leaveService i).setPort i fun p => { p with quarPending := false, excluded := 0 }
    | .training => d.leaveService i
    | .withdrawn => d.leaveService i
    | .admitted => d
    | .quarantined => d
  d.pressPort i

/-! ### Training (R74, R75) -/

/-- Modes of an interface by SPEED code: 1 100G, 2 200G, 3 400G, 4 800G, highest first. -/
def modesOf (d : Dev) (i : Nat) : List Nat :=
  if i < 48 then
    let s := d.fld (portBase i) 3 1
    [3, 2, 1].filter fun m => s.testBit (m - 1)
  else if d.breakout (netOf i) then [3]
  else [4]

/-- Whether a mode avoids every lane in EXCLUDED (R83). -/
def avoids (ex m : Nat) : Bool :=
  match m with
  | 1 => ex % 2 = 0
  | 2 => ex % 4 = 0
  | _ => ex % 16 = 0

/-- Modes that an interface advertises now (R74). -/
def advertised (d : Dev) (i : Nat) : List Nat :=
  let p := d.port i
  (d.modesOf i).filter fun m => !p.modesOut.testBit m && (i ≥ 48 || avoids p.excluded m)

/-- R74 steps 1 and 4: a round begins with what may be advertised; none left raises 0x1002 and waits. -/
def startRound (d : Dev) (i : Nat) : Dev :=
  let d := d.setPort i fun p => { p with mode := 0, fails := [], tryStart := d.now, gapFrom := none }
  match d.advertised i with
  | [] =>
    ((d.setPort i fun p => { p with gapFrom := some d.now }).raise (srcIf i) 0x1002 (portDetail i 0 0)).event
      (portBase i + 0x20) 1
  | m :: _ => if d.flag (portBase i) 5 then d else d.setPort i fun p => { p with mode := m }

/-- Entry to TRAINING with the full advertisement. -/
def train (d : Dev) (i : Nat) : Dev :=
  ((d.enterState i .training).setPort i fun p => { p with modesOut := 0 }).startRound i

/-- R74 step 3: an attempt at mode `m` failed. -/
def failAttempt (d : Dev) (i m : Nat) : Dev :=
  let d := d.raise (srcIf i) 0x1001 (portDetail i 0 0)
  let p := d.port i
  let n := Map.getD p.fails m 0 + 1
  let limit := max 1 (d.fld (portBase i + 0x18) 15 12)
  let out := if n ≥ limit then p.modesOut ||| 2 ^ m else p.modesOut
  let d := d.setPort i fun p =>
    { p with fails := Map.put p.fails m n, modesOut := out, mode := 0, tryStart := d.now }
  match d.advertised i with
  | [] =>
    ((d.setPort i fun p => { p with gapFrom := some d.now }).raise (srcIf i) 0x1002 (portDetail i 0 0)).event
      (portBase i + 0x20) 1
  | m :: _ => if d.flag (portBase i) 5 then d else d.setPort i fun p => { p with mode := m }

/-- R74: auto-negotiation resolves the highest mode common to the advertisement and the partner's, or none. -/
def autoneg (d : Dev) (i partner : Nat) : Dev :=
  let p := d.port i
  if p.st ≠ .training || p.gapFrom.isSome || !d.flag (portBase i) 5 then d else
  let ad := d.advertised i
  match ad.find? fun m => partner.testBit m with
  | some m => d.setPort i fun p => { p with mode := m }
  | none => d.failAttempt i (ad.headD 0)

/-- R325: SCALE of an interface at a SPEED code. -/
def scaleAt (d : Dev) (i speed : Nat) : Nat :=
  let rate := match speed with
    | 1 => 100
    | 2 => 200
    | 3 => 400
    | _ => 800
  rate * 100000 / d.topSpeed i

/-- R86: the verify procedure started anew, on a link that is up. -/
def startVerify (d : Dev) (i : Nat) : Dev :=
  d.setPort i fun p =>
    { p with preActive := false, verifyTries := 0,
             verifying := d.flag (portBase i) 6 && (p.st == .admitted || p.st == .quarantined) }

/-- R69: link up in the resolved mode. -/
def linkUp (d : Dev) (i : Nat) : Dev :=
  let p := d.port i
  if p.st ≠ .training || p.mode = 0 || p.gapFrom.isSome then d else
  let d := (d.setPort i fun p => { p with speed := p.mode, fails := [], modesOut := 0 }).setFld (schBase i + 4) 6 0
    (d.scaleAt i p.mode)
  (d.enterState i (if p.quarPending then .quarantined else .admitted)).startVerify i

/-- R74: an attempt not up within TRAIN_MAX. -/
def trainTimeout (d : Dev) (i : Nat) : Dev :=
  let p := d.port i
  if p.st ≠ .training || p.gapFrom.isSome || d.now < p.tryStart + d.fld (portBase i + 0x18) 31 16 * 1000000 then d
  else d.failAttempt i (if p.mode = 0 then (d.advertised i).headD 0 else p.mode)

/-- R74: the pause between rounds ends. -/
def retryGapEnd (d : Dev) (i : Nat) : Dev :=
  match (d.port i).gapFrom with
  | none => d
  | some t =>
    if (d.port i).st ≠ .training || d.now < t + d.fld (portBase i + 0x18) 11 0 * 1000000000 then d
    else (d.setPort i fun p => { p with modesOut := 0 }).startRound i

/-! ### Transitions of R69 -/

/-- EMPTY left for TRAINING once ENABLE is 1 and presence is seen. -/
def leaveEmpty (d : Dev) (i : Nat) : Dev :=
  let p := d.port i
  if p.st = .empty && d.enabled i && p.present && d.inMode i then d.train i else d

/-- R69, R70: a debounced change of presence. -/
def presence (d : Dev) (i : Nat) (present : Bool) : Dev :=
  let d := d.setPort i fun p => { p with present := present }
  if (d.port i).st = .withdrawn then d
  else if present then d.leaveEmpty i
  else if (d.port i).st = .empty then d
  else d.enterState i .empty

/-- R69: ENABLE written. -/
def enableWritten (d : Dev) (i : Nat) : Dev :=
  if d.enabled i then d.leaveEmpty i
  else if (d.port i).st = .withdrawn || (d.port i).st = .empty then d
  else d.enterState i .empty

/-- A withdrawal, by command or reaction (R69). -/
def withdraw (d : Dev) (i : Nat) : Dev := if (d.port i).st = .withdrawn then d else d.enterState i .withdrawn

/-- R69: WITHDRAWN left by a host command or the end of a move. -/
def returnIf (d : Dev) (i : Nat) : Dev :=
  if (d.port i).st ≠ .withdrawn then d
  else if (d.port i).present && d.enabled i && d.inMode i then d.train i
  else d.enterState i .empty

/-- R69: lock or alignment lost for 1.0 ms. -/
def lockLost (d : Dev) (i : Nat) : Dev :=
  let p := d.port i
  if p.st = .admitted || p.st = .quarantined then (d.train i).event (portBase i + 0x20) 0 else d

/-- R85: the counters of a port and its halves reset, as whole and breakout change places. -/
def resetSeq (d : Dev) (n : Nat) : Dev :=
  let zero (p : Port) : Port := { p with seq := 0 }
  (((d.setPort (64 + n) zero).setPort (80 + n) zero).event (portBase (64 + n) + 0x20) 7).event (portBase (80 + n) + 0x20) 7

/-- What a write of PRT_CTRL does beside storing its fields; `old` is the word it replaces. -/
def portCtrlWritten (d : Dev) (i old : Nat) : Dev :=
  let d := if d.flag (portBase i) 6 ≠ old.testBit 6 then d.startVerify i else d
  let d :=
    if 64 ≤ i && i < 80 && d.flag (portBase i) 4 ≠ old.testBit 4 then
      let d := d.resetSeq (i - 64)
      if d.breakout (i - 64) then d.leaveEmpty (80 + (i - 64))
      else if (d.port (80 + (i - 64))).st = .empty then d
      else d.enterState (80 + (i - 64)) .empty
    else d
  d.enableWritten i

/-- Roles (R68, R317): entry to STANDBY flushes the interface's queues. -/
def setRole (d : Dev) (i : Nat) (active : Bool) : Dev :=
  if (d.port i).active = active then d
  else
    let d := d.setPort i fun p => { p with active := active }
    (if active then d else (d.flushIf i 0xFF).setPort i fun p => { p with paused := [], wdStart := [] }).pressPort i

/-! ### Quarantine (R79 to R81) -/

/-- A trigger's limit in a window (R79). -/
def trigLimit (d : Dev) (i t : Nat) : Nat :=
  let a := portBase i + 0x1C
  match t with
  | 0 => 2 ^ d.fld a 23 19
  | 1 => 2 ^ d.fld a 18 14
  | 2 => 2 ^ d.fld a 13 9
  | _ => d.fld a 27 24

/-- R79: entry to QUARANTINED by a trigger; pauses in force are ignored from then on (R80). -/
def quarantine (d : Dev) (i t : Nat) : Dev :=
  let d := (d.enterState i .quarantined).setPort i fun p => 
    { p with quarPending := true, holdFrom := d.now, paused := [], wdStart := [] }
  (d.event (portBase i + 0x20) 3).raise (srcIf i) 0x1030 (portDetail i t 0)

/-- R79: one count of a bay's trigger. -/
def countTrigger (d : Dev) (i t : Nat) : Dev :=
  if i ≥ 48 then d else
  let n := Map.getD (d.port i).trig t 0 + 1
  let d := d.setPort i fun p => { p with trig := Map.put p.trig t n }
  if d.fld (portBase i + 0x1C) 31 28 |>.testBit t then
    if n ≥ d.trigLimit i t then
      let d := d.setPort i fun p => { p with trigHit := true }
      if (d.port i).st = .admitted then d.quarantine i t else d
    else d
  else d

/-- Release from quarantine; a trigger reached in the same window cancels it, and the hold starts again (R80). -/
def releaseQuarantine (d : Dev) (i : Nat) : Dev :=
  if (d.port i).st ≠ .quarantined then d
  else if (d.port i).trigHit then d.setPort i fun p => { p with holdFrom := d.now }
  else (d.enterState i .admitted).setPort i fun p => { p with quarPending := false }

/-- QUAR_HOLD in ns. -/
def quarHold (d : Dev) (i : Nat) : Nat := d.fld (portBase i + 0x1C) 8 0 * 10000000

/-- R79, R80: a window of QUAR_WIN ends for a bay. -/
def quarWindow (d : Dev) (i : Nat) : Dev :=
  let p := d.port i
  if i ≥ 48 || d.now < p.winStart + 1000000000 then d else
  let auto := p.st = .quarantined && d.flag (portBase i) 8 && !p.trigHit && p.winStart ≥ p.holdFrom + d.quarHold i
  let d := if auto then d.releaseQuarantine i else d
  d.setPort i fun p => { p with trig := [], trigHit := false, winStart := d.now / 1000000000 * 1000000000 }

/-! ### PFC received (R76, R78) -/

/-- A pause of one priority begins, is refreshed or ends; `until_` is the moment on the interval view. -/
def pause (d : Dev) (i p : Nat) (until_ : Option Nat) : Dev :=
  match until_ with
  | none =>
    (d.setPort i fun x => { x with paused := Map.erase x.paused p, wdStart := Map.erase x.wdStart p }).sleepClasses i (2 ^ p)
  | some t =>
    let fresh := !Map.has (d.port i).paused p
    let d := d.setPort i fun x => { x with paused := Map.put x.paused p t }
    if fresh then
      let waits := d.classWaits i p
      d.setPort i fun x =>
        { x with wdStart := if waits && !Map.has x.recover p then Map.put x.wdStart p d.now else x.wdStart }
    else d

/-- R76: a PFC frame consumed; the pauses it asks for are honoured on an ACTIVE interface in ADMITTED. -/
def consumePfc (d : Dev) (i : Nat) (body : List Byte) : Dev :=
  let en := field body 2 2
  let honour := (d.port i).active && (d.port i).st == .admitted
  let mask := d.fld (portBase i + 0x0C) 7 0
  (List.range 8).foldl (fun d p =>
    if !en.testBit p then d else
    let d := d.bump (portBase i + 0x180 + 8 * p)
    let quanta := field body (4 + 2 * p) 2
    if honour && mask.testBit p then
      d.pause i p (if quanta = 0 then none else some (d.now + (quanta * 512 + max 1 (d.rateOf i) - 1) / max 1 (d.rateOf i)))
    else d) d

/-- R315: the pause of a priority runs out. -/
def pauseExpiry (d : Dev) (i p : Nat) : Dev :=
  match Map.get? (d.port i).paused p with
  | none => d
  | some t => if d.now < t then d else d.pause i p none

/-- R78: the watchdog of a priority trips. -/
def watchdogTrip (d : Dev) (i p : Nat) : Dev :=
  let wd := d.reg (portBase i + 0x10)
  match Map.get? (d.port i).wdStart p with
  | none => d
  | some t =>
    if wd = 0 || !d.pfcHeld i p || !d.classWaits i p || d.now < t + wd * 1000 then d
    else
      let d := d.setPort i fun x => { x with wdStart := Map.erase x.wdStart p, recover := Map.put x.recover p d.now }
      (((d.raise (srcIf i) 0x1010 (portDetail i 3 0)).event (portBase i + 0x20) 2).sleepClasses i (2 ^ p)).countTrigger i 3

/-- R78: PFC_RECOVER ends for a priority; the watchdog starts again from zero. -/
def recoverEnd (d : Dev) (i p : Nat) : Dev :=
  match Map.get? (d.port i).recover p with
  | none => d
  | some t =>
    if d.now < t + max 1 (d.fld (portBase i + 0x0C) 31 16) * 1000000 then d
    else
      let waits := d.classWaits i p
      d.setPort i fun x =>
        { x with recover := Map.erase x.recover p,
                 wdStart := if Map.has x.paused p && waits then Map.put x.wdStart p d.now else x.wdStart }

/-- R300: an XOFF refreshed while its condition lasts. -/
def pfcRefresh (d : Dev) (i : Nat) : Dev :=
  if (d.port i).xoffSent && (d.port i).active && (d.port i).st == .admitted then d.sendPfc i 0xFFFF else d

/-! ### Received frames (R72, R77, R82, R84, R705) -/

/-- R77: credit of one control class, in 10^-9 frames. -/
def controlCredit (d : Dev) (i c : Nat) : Bool × Dev :=
  let a := portBase i + 0x40 + 4 * c
  let burst := d.fld a 31 20 * 1000000000
  let b : Bucket := Map.getD (d.port i).ctl c ⟨(burst : Nat), d.creditNow⟩
  let credit : Int := min (burst : Nat) (b.credit + d.fld a 19 0 * (d.creditNow - b.t))
  if credit < 1000000000 then (false, d.setPort i fun p => { p with ctl := Map.put p.ctl c ⟨credit, d.creditNow⟩ })
  else (true, d.setPort i fun p => { p with ctl := Map.put p.ctl c ⟨credit - 1000000000, d.creditNow⟩ })

/-- R82: whether a source address and outer VID match a binding entry in force. -/
def bound (d : Dev) (i sa vid : Nat) : Bool :=
  (d.port i).bind.any fun e =>
    let n := e.2.toNat
    bits n 63 63 = 1 && bits n 47 0 = sa && (bits n 59 48 = 0xFFF || bits n 59 48 = vid)

/-- R92: a binding entry loaded from both words at the write of its HI word. -/
def loadBind (d : Dev) (i k : Nat) : Dev :=
  let lo := d.reg (portBase i + 0x80 + 8 * k)
  let hi := d.reg (portBase i + 0x84 + 8 * k)
  d.setPort i fun p => { p with bind := Map.putD p.bind k 0 (BitVec.ofNat 64 (hi * 2 ^ 32 + lo)) }

/-- Which trigger of R79 a drop reason counts toward. -/
def triggerOf (r : Nat) : Option Nat :=
  if r = 0x08 || r = 0x0E then some 0
  else if r = 0x09 || r = 0x0A || r = 0x0B then some 1
  else if r = 0x02 || r = 0x03 || r = 0x04 || r = 0x05 || r = 0x0C then some 2
  else none

/-- A frame dropped before admission (R88). -/
def dropFrame (d : Dev) (i r : Nat) : Dev :=
  let d := d.bump (portBase i + 0x100 + 8 * r)
  match triggerOf r with
  | some t => d.countTrigger i t
  | none => d

/-- R84: a frame admitted: its number, its epoch tag, its timestamp and its mortar word; it waits in staging for its
course. -/
def admitFrame (d : Dev) (i : Nat) (covered : List Byte) (age : Nat) : Dev :=
  let n := (d.port i).seq
  let (d, pid) := d.enrol (courseOf i) i n
  let w := (d.time.distWall - age * 2 ^ 24)
  let sec := w / (2 ^ 24 * 1000000000)
  let x : Desc :=
    { pid := pid, ledger := courseOf i, aseq := n, admIf := i, tag := d.epochs.curTag, mortar := crc32c covered,
      mlen := covered.length, course := d.physical (courseOf i), admTime := d.now / 128,
      tstamp := sec % 4 * 2 ^ 30 + w / 2 ^ 24 % 1000000000 }
  let d := d.setPort i fun p => { p with seq := (n + 1) % 2 ^ 48 }
  let d := { d with epochs := { d.epochs with
    first := if Map.has d.epochs.first i then d.epochs.first else Map.put d.epochs.first i n } }
  let c := d.physical (courseOf i)
  if !d.isOn (4 + c) then ((d.endCopy x (.dropped 0xA2)).bump (portBase i + 0x200)).bump (portBase i + 0x208) (covered.length + 4) else
  let d := { d with staging := Map.upd d.staging c [] fun l => l ++ [Staged.mk x covered] }
  (d.bump (portBase i + 0x200)).bump (portBase i + 0x208) (covered.length + 4)

/-- R705: the outcome of a received frame that the receiver takes. -/
def receive (d : Dev) (i : Nat) (f : RxFrame) : Dev :=
  let p := d.port i
  if !f.taken then d
  else if f.malformed then d.dropFrame i 0x04
  else if f.overrun then d.dropFrame i 0x0F
  else if f.fecBad then d.dropFrame i 0x0D
  else if f.reassembly then d.dropFrame i 0x0C
  else
    let n := f.bytes.length
    let covered := f.bytes.take (n - 4)
    if fcs covered ≠ f.bytes.drop (n - 4) then d.dropFrame i 0x01
    else if n < 64 then d.dropFrame i 0x02
    else if n > d.fld (portBase i + 8) 13 0 then d.dropFrame i 0x03
    else
      let alt := d.fld (portBase i + 8) 31 16
      let tags := tpids alt covered 3 12
      if !tagsOk alt tags then d.dropFrame i 0x05
      else
        let at_ := 12 + 4 * tags.length
        let etype := field covered at_ 2
        let da := field covered 0 6
        let sa := field covered 6 6
        if etype = 0x8808 then
          let op := field covered (at_ + 2) 2
          if op = 0x0101 && da = 0x0180C2000001 && n = 64 + 4 * tags.length then d.consumePfc i (covered.drop (at_ + 2))
          else if op = 0x0001 then d.dropFrame i 0x0A
          else d.dropFrame i 0x0B
        else if !p.active || d.given i then d.dropFrame i 0x07
        else if sa / 2 ^ 40 % 2 = 1 then d.dropFrame i 0x0E
        else
          let vid := if tags.isEmpty then 0 else field covered 14 2 % 4096
          if i < 48 && d.flag (portBase i) 7 && !d.bound i sa vid then d.dropFrame i 0x08
          else
            let (ok, d) := match controlClass da etype with
              | none => (true, d)
              | some c => d.controlCredit i c
            if !ok then d.dropFrame i 0x09
            else if p.st ≠ .admitted then d.dropFrame i 0x06
            else d.admitFrame i covered f.age

/-! ### Lanes (R66, R83) -/

/-- The physical lane that drives ball group `x` of a lane die (R65). -/
def laneAt (d : Dev) (die x : Nat) : Nat := Map.getD d.laneMap (die * 128 + x) x

/-- The interface that a lane serves in the mode its port is in. -/
def laneIf (d : Dev) (die x : Nat) : Option (Nat × Nat) :=
  (laneOwner die x).map fun (i, l) => if i ≥ 64 && l ≥ 4 && d.breakout (i - 64) then (i + 16, l - 4) else (i, l)

/-- A lane's own state changed. -/
def setLane (d : Dev) (die l : Nat) (f : Lane → Lane) : Dev :=
  { d with lanes := Map.upd d.lanes (die * 128 + l) {} f }

/-- R83: a lane's 1,000 ms window ends with its corrected symbols and uncorrectable codewords. -/
def fecWindow (d : Dev) (die x corr unc : Nat) : Dev :=
  let l := d.laneAt die x
  let base := 0x280000 + die * 0x10000 + l * 0x100
  let d := (d.bump (base + 0x10) corr).bump (base + 0x18) unc
  let i := (d.laneIf die x).map (·.1)
  let det := portDetail (i.getD 0xFF) 0 (die * 128 + l)
  let note (d : Dev) (b : Nat) : Dev := match i with
    | some i => d.event (portBase i + 0x20) b
    | none => d
  let d := if corr > 2 ^ d.fld (base + 4) 12 8 then note (d.raise (srcLane die l) 0x1020 det) 4 else d
  if unc > d.fld (base + 4) 7 0 then
    (note (d.raise (srcLane die l) 0x1021 det) 5).setLane die l fun y => { y with testing := true }
  else d

/-- R83: the lane's near-end test passes: the fault is the partner's, and a bay excludes the lane and trains again. -/
def excludeLane (d : Dev) (die x : Nat) : Dev :=
  match d.laneIf die x with
  | none => d
  | some (i, l) =>
    if i ≥ 48 then d
    else
      let d := d.setPort i fun p => { p with excluded := p.excluded ||| 2 ^ l }
      let p := d.port i
      if p.st = .admitted || p.st = .quarantined then (d.train i).event (portBase i + 0x20) 0
      else if p.st = .training then d.train i
      else d

/-! ### Preemption (R86) -/

/-- A verify frame sent; a STANDBY interface sends idles only (R68). -/
def verifySend (d : Dev) (i : Nat) : Dev :=
  let p := d.port i
  if !p.verifying || p.verifyTries ≥ 3 || !p.active || !(p.st == .admitted || p.st == .quarantined) then d
  else
    let d := d.setPort i fun p => { p with verifyTries := p.verifyTries + 1 }
    { d with out := d.out ++ [.verify i] }

/-- The end of the verify procedure. -/
def verifyResult (d : Dev) (i : Nat) (ok : Bool) : Dev :=
  let p := d.port i
  if !p.verifying then d
  else if ok then d.setPort i fun p => { p with verifying := false, preActive := true }
  else if p.verifyTries < 3 then d
  else (d.setPort i fun p => { p with verifying := false, preActive := false }).raise (srcIf i) 0x1040 (portDetail i 0 0)

end Dev

/-! ### Commands -/

/-- FRAME_RECEIVED (R705). -/
def execFrameReceived (i : Fin 96) (frame : RxFrame) (s : State) : Result := s.actIf i (·.receive i frame)

/-- PFC_PAUSE_EXPIRY (R315). -/
def execPfcPauseExpiry (i : Fin 96) (prio : Fin 8) (s : State) : Result := s.actIf i (·.pauseExpiry i prio)

/-- PRESENCE_CHANGE (R70): the debounced presence of an interface. -/
def execPresenceChange (i : Fin 96) (present : Bool) (s : State) : Result := s.actIf i (·.presence i present)

/-- AUTONEG_RESOLVED (R74): the partner's modes, bit per SPEED code. -/
def execAutonegResolved (i : Fin 96) (partner : Nat) (s : State) : Result := s.actIf i (·.autoneg i partner)

/-- LINK_UP (R69). -/
def execLinkUp (i : Fin 96) (s : State) : Result := s.actIf i (·.linkUp i)

/-- TRAIN_ATTEMPT_TIMEOUT (R74). -/
def execTrainAttemptTimeout (i : Fin 96) (s : State) : Result := s.actIf i (·.trainTimeout i)

/-- RETRY_GAP_END (R74). -/
def execRetryGapEnd (i : Fin 96) (s : State) : Result := s.actIf i (·.retryGapEnd i)

/-- LOCK_LOST_TIMEOUT (R69). -/
def execLockLostTimeout (i : Fin 96) (s : State) : Result := s.actIf i (·.lockLost i)

/-- PFC_WATCHDOG_TRIP (R78). -/
def execPfcWatchdogTrip (i : Fin 96) (prio : Fin 8) (s : State) : Result := s.actIf i (·.watchdogTrip i prio)

/-- PFC_RECOVER_END (R78). -/
def execPfcRecoverEnd (i : Fin 96) (prio : Fin 8) (s : State) : Result := s.actIf i (·.recoverEnd i prio)

/-- PFC_TX_REFRESH (R300). -/
def execPfcTxRefresh (i : Fin 96) (s : State) : Result := s.actIf i (·.pfcRefresh i)

/-- QUAR_WINDOW_END (R80). -/
def execQuarWindowEnd (i : Fin 96) (s : State) : Result := s.actIf i (·.quarWindow i)

/-- FEC_WINDOW_END (R83): lane die, ball group, and the window's corrected symbols and uncorrectable codewords. -/
def execFecWindowEnd (die : Fin 4) (group : Fin 82) (corr unc : Nat) (s : State) : Result :=
  s.act (·.fecWindow die group corr unc)

/-- PREEMPT_VERIFY_SEND (R86). -/
def execPreemptVerifySend (i : Fin 96) (s : State) : Result := s.actIf i (·.verifySend i)

/-- PREEMPT_VERIFY_RESULT (R86). -/
def execPreemptVerifyResult (i : Fin 96) (ok : Bool) (s : State) : Result := s.actIf i (·.verifyResult i ok)

end Sys2Proof.Machine
end

