-- ==== Sys2Proof/Machine/WearBase.lean ====
section
/-! DEFINITION. Chapter 21, what makes a unit WORN: unit states (R624), wear counts (R622), and the start of a replacement
(R625, R626). -/

namespace Sys2Proof.Machine

/-- Key of a unit: its source of R598, and its macro or pseudo-channel. -/
def unitKey (src index : Nat) : Nat := src * 2 ^ 16 + index % 2 ^ 16

/-- Source of a unit's key. -/
def keySrc (k : Nat) : Nat := k / 2 ^ 16

/-- The kind of R622 that a source's own unit belongs to; 15 for none. -/
def kindOf (src : Nat) : Nat :=
  let i := src % 0x1000
  match src / 0x1000 with
  | 2 => if i % 128 = 127 then 9 else 3
  | 3 => 0
  | 4 => 2
  | 7 => 1
  | 8 => 5
  | 9 => if i < 2 then 6 else if i < 4 then 5 else 4
  | 12 => if i = 1 || i = 2 then 8 else 15
  | _ => 15

/-- The kind and key of the unit that a fault counts against (R622). Of kind 9 are the action memory, the route memory and the
schedulers of a die, with their figures: they stand beside the macros of their source, at indices that no macro has. -/
def wearTarget (src code : Nat) (detail : List Nat) : Nat × Nat :=
  let addr := detail.getD 1 0 * 2 ^ 32 + detail.getD 2 0
  if code = 0x5002 then (9, unitKey src (if src / 0x1000 = 2 then 0 else 0xFF01))
  else if code = 0x4050 then (9, unitKey src 0xFF02)
  else if code = 0x7001 || code = 0x7020 then (9, unitKey src 0xFF03)
  else if code = 0xC023 then (8, unitKey (0xC001 + src % 2) 0)
  else
    let k := kindOf src
    if k = 5 then (5, unitKey (srcHalf (src % 2)) 0)
    else if k = 4 || k = 6 then (k, unitKey src (Config.macroOf (src % 0x1000) addr))
    else (k, unitKey src 0)

namespace Dev

/-- The wear of a unit. -/
def wearUnit (d : Dev) (k : Nat) : WearUnit := Map.getD d.wear.units k {}

/-- That wear changed. -/
def setWear (d : Dev) (k : Nat) (f : WearUnit → WearUnit) : Dev :=
  { d with wear := { d.wear with units := Map.upd d.wear.units k {} f } }

/-- The moves and notes of chapter 21 changed. -/
def setWearing (d : Dev) (f : Wear → Wear) : Dev := { d with wear := f d.wear }

/-- STATE of a unit by the codes of R624. -/
def unitState (d : Dev) (k : Nat) : Nat :=
  let src := keySrc k
  let i := src % 0x1000
  let spareAtBirth : Bool := match src / 0x1000 with
    | 2 => 82 ≤ i % 128 && i % 128 < 88
    | 3 => 16 ≤ i
    | 9 => i < 2 && 32 ≤ k % 2 ^ 16
    | _ => false
  match src / 0x1000 with
  | 4 => d.bankState i
  | 7 => match (d.eng (i / 16) (i % 16)).st.getD (if i % 16 = 8 then 4 else 0) with
    | 4 => 1
    | 5 => 3
    | 7 => 3
    | 6 => 4
    | _ => 0
  | 12 =>
    if i ≠ 1 && i ≠ 2 then 0
    else match (d.wearUnit k).st with
    | some s => s
    | none => if i = d.stw.active + 1 then 0 else 1
  | _ => (d.wearUnit k).st.getD (b2n spareAtBirth)

/-- Powered hours of AON (R642). -/
def hoursOn (d : Dev) : Nat := d.cnt 0x60100

/-- Fault 0xC065, with the kind in DETAIL (R643). -/
def noSpare (d : Dev) (kind k : Nat) : Dev := d.raise (keySrc k) 0xC065 [kind]

/-- A ledger page follows a change of state (R638): pages that wait to be written. -/
def ledgerChange (d : Dev) : Dev := d.setWearing fun w => { w with pages := w.pages + 1 }

/-- A spare of a kind brought in at this powered hour (R639). -/
def spend (d : Dev) (kind : Nat) : Dev := d.setWearing fun w => { w with spent := w.spent ++ [(kind, d.hoursOn)] }

/-- A Fjarair lane number of a physical lane (R65): ball groups 80 and 81 of each die. -/
def fjOfLane (d : Dev) (i : Nat) : Option Nat :=
  ((List.range 2).find? fun k => d.laneAt (i / 128) (80 + k) = i % 128).map fun k => 2 * (i / 128) + k

/-- R625: whether a WORN unit of a kind is replaced without a command. -/
def autoMove (d : Dev) (kind k : Nat) : Bool :=
  let alone := kind ≠ 0 && (kind ≠ 3 || (d.fjOfLane (keySrc k % 0x1000)).isSome)
  d.flag 0x60000 0 && (d.flag 0x60000 1 || alone)

/-- R161: a spare chosen for a bank that is WORN. -/
def bankMove (d : Dev) (b : Nat) : Dev :=
  if ((d.spareBank (b < 34)).filter fun s => d.bankState s = 2).isSome then d
  else match d.spareBank (b < 34) with
    | some s => d.setBank s fun x => { x with st := some 2 }
    | none => (d.raise (srcBank b) 0x3011).noSpare 2 (unitKey (srcBank b) 0)

/-- A WORN unit's replacement begins (R625), or it waits its turn (R626). A steward's is the caller's. -/
def startMove (d : Dev) (kind k : Nat) : Dev :=
  let i := keySrc k % 0x1000
  match kind with
  | 1 => d.setEng (i / 16) (i % 16) fun e => { e with intr := Map.put e.intr 0 d.now }
  | 2 => d.bankMove i
  | 0 => d.setWearing fun w => if w.waits.contains (0, k) then w else { w with waits := w.waits ++ [(0, k)] }
  | 3 => d.setWearing fun w => if w.waits.contains (3, k) then w else { w with waits := w.waits ++ [(3, k)] }
  | 6 => d.setWearing fun w => if w.waits.contains (6, k) then w else { w with waits := w.waits ++ [(6, k)] }
  | _ => d

/-- A unit has become WORN: counted, and written to the ledger (R624, R642). -/
def wornNoted (d : Dev) : Dev := ((d.event 0x6000C 0).bump 0x60108).ledgerChange

/-- A unit's state becomes WORN, without its move (R624). -/
def markWorn (d : Dev) (kind k : Nat) : Dev :=
  let i := keySrc k % 0x1000
  let d := match kind with
    | 1 => d.setEng (i / 16) (i % 16) fun e => { e with st := some (if d.unitState k = 1 then 7 else 5) }
    | 2 => d.setBank i fun x => { x with st := some 3 }
    | _ => d.setWear k fun u => { u with st := some 3 }
  d.wornNoted

/-- A unit becomes WORN by `code`; its move starts under AUTO, where it served and its kind has spares (R621 to R625). -/
def becomeWorn (d : Dev) (kind k code : Nat) : Dev :=
  let st := d.unitState k
  if st ≥ 3 then d
  else
    let d := (d.raise (keySrc k) code).markWorn kind k
    if kind = 4 || kind = 5 || kind = 9 then d.noSpare kind k
    else if kind = 8 then (if st = 0 then d else { d with stw := { d.stw with spare := 2 } })
    else if st = 0 && d.autoMove kind k then d.startMove kind k
    else d

/-- R622: a fault counted against its unit; whether the unit becomes WORN by it. -/
def countWear (d : Dev) (src code : Nat) (detail : List Nat) : Dev :=
  let (kind, k) := wearTarget src code detail
  if kind > 9 then d
  else
    let limit := d.fld (0x60040 + 4 * kind) 15 0
    let span := d.fld (0x60040 + 4 * kind) 31 16 * 3600000000000
    let ts := ((d.wearUnit k).faults.filter fun t => d.now < t + span) ++ [d.now]
    let d := d.setWear k fun u => { u with faults := ts }
    if limit ≠ 0 && ts.length > limit then d.becomeWorn kind k 0xC061 else d

/-! ### Moves of chapter 21 in progress -/

/-- Interfaces of a course by name (R15). -/
def courseIfs (d : Dev) (n : Nat) : List Nat := ifaces.filter fun i => courseOf i = n && d.inMode i

/-- Interfaces that a move takes out of service. -/
def moveIfs (d : Dev) (m : Move) : List Nat :=
  let i := keySrc m.unit % 0x1000
  if m.kind = 0 then (match d.nameOf i with | some n => d.courseIfs n | none => [])
  else
    match (List.range 82).find? fun x => d.laneAt (i / 128) x = i % 128 with
    | none => []
    | some x =>
      match laneOwner (i / 128) x with
      | none => []
      | some (f, _) => if f ≥ 64 && d.breakout (f - 64) then [f, f + 16] else [f]

/-- No move in progress, as WEAR_STATUS shows it. -/
def moveGone (d : Dev) : Dev :=
  let d := d.setWearing fun w => { w with move := none }
  ((d.setFld 0x60008 31 28 15).setFld 0x60008 27 24 0).setFld 0x60008 15 0 0

/-- A move abandoned (R629): the withdrawn interfaces return where they were, and the spare is SPARE again or, having failed,
WORN. -/
def abandonMove (d : Dev) (spareFailed : Bool) (status : Nat) : Dev :=
  match d.wear.move with
  | none => d
  | some m =>
    let d := if m.step ≥ 3 then (d.moveIfs m).foldl (fun d i => d.returnIf i) d else d
    let d := d.setWear m.spare fun u => { u with st := some (if spareFailed then 3 else 1) }
    let d := if spareFailed then (d.raise (keySrc m.spare) 0xC063).wornNoted else d
    let d := d.sendCtrl .moveEnd
    (d.closeIf m.ticket status 0 1 []).moveGone

/-- R626: a deferral, recorded once. -/
def defer (d : Dev) (w : Nat × Nat) : Dev :=
  if d.wear.noted.contains w then d
  else
    let d := (d.event 0x6000C 2).bump 0x60118
    let d := (d.setWearing fun x => { x with noted := x.noted ++ [w] }).raise (keySrc w.2) 0xC062
    d.setFld 0x60008 23 16 (min 255 d.wear.noted.length)

/-- R627: the partner's MOVE. Where it crosses this device's own, Side B defers its move until MOVE_END. -/
def moveHeard (d : Dev) : Dev :=
  match d.wear.move with
  | none => d.setPair fun p => { p with peerMove := true }
  | some m =>
    if m.step ≠ 1 || d.side ≠ 1 then d
    else
      let d := d.setWear m.spare fun u => { u with st := some 1 }
      let d := (d.setWearing fun w => { w with waits := (m.kind, m.unit) :: w.waits }).moveGone
      (d.defer (m.kind, m.unit)).setPair fun p => { p with peerMove := true }

/-! ### Temperature and time (R640) -/

/-- The temperature-time product brought up to date at the readings in force, and the new readings of the eight regions: the core
dies, LD0 to LD3, the HBM stacks. -/
def heatUp (d : Dev) (west east : Int) : Dev :=
  let w := d.wear
  let dt := d.now - w.heatAt
  let add (r : Nat) : Nat := w.heat.getD r 0 + (match w.heatT[r]? with | some t => dt * Config.aging t / 1000000000 | none => 0)
  let temp (r : Nat) : Int := if r = 0 then west else if r = 1 then east else Config.regionTemp r west east
  d.setWearing fun w => { w with heat := (List.range 8).map add, heatT := (List.range 8).map temp, heatAt := d.now }

end Dev

end Sys2Proof.Machine
end

