-- ==== Sys2Proof/Machine/Pair.lean ====
section
/-! DEFINITION. Chapter 18: roles, the receiver of the Fjarair link, pair states and formation, the records of the partner,
detection and takeover, planned handover, and cross-forwarded copies. -/

namespace Sys2Proof.Machine

/-- The source of the pair's faults (R598). -/
def srcPair : Nat := 0xA000

/-- R252: a packet descriptor read from its words. -/
def Desc.ofWords (w : List Nat) : Desc :=
  let f (k hi lo : Nat) : Nat := bits (word w k) hi lo
  let opt (k hi lo : Nat) : Option Nat := if (word w k).testBit 31 then some (f k hi lo) else none
  { aseq := f 1 31 16 * 2 ^ 32 + f 0 31 0, admIf := f 1 15 8, kind := f 1 7 6, tag := f 1 5 5, pass := f 1 4 2,
    admChecked := (word w 1).testBit 1, copy := (word w 1).testBit 0, mortar := f 2 31 0, mlen := f 3 31 18, msrc := f 3 17 16,
    mpatch := f 3 15 12, course := f 3 11 7, lastAct := if (word w 3).testBit 6 then some (f 7 16 0) else none,
    tstamp := f 4 31 0, tsTag := f 5 31 16, tsOp := f 5 15 14, ptpOff := f 5 13 4, tsUdp := (word w 5).testBit 3,
    queue := f 6 31 16, color := f 6 15 14, l3Kind := f 6 13 12, l3Off := f 6 11 2, edit := opt 7 30 17, ctx := opt 8 23 0,
    policer := opt 9 30 13 }

namespace Dev

/-! ### Sides and roles (R546 to R550, R560) -/

/-- Whether an interface is homed to this side (R560). -/
def home (d : Dev) (i : Nat) : Bool := b2n ((d.reg (0x700020 + 4 * (i / 32))).testBit (i % 32)) = d.side

/-- ACTIVE taken for the interfaces that `p` holds of (R559, R568); a device that does not drive alive takes none (R550). -/
def takeRoles (d : Dev) (p : Nat → Bool) : Dev :=
  if d.selfAlive then ifaces.foldl (fun d i => if p i then d.setRole i true else d) d else d

/-- HB_MISS heartbeat intervals and 1.0 µs, in ns (R555). -/
def hbLoss (d : Dev) : Nat := clampNat 1 9 (d.fld 0x700000 23 16) * 1000 + 1000

/-- RAILS: 2 alive, 1 not alive, 0 and 3 invalid (R549). -/
def rails (d : Dev) : Nat := d.fld 0x700004 27 26

/-- R703: whether the partner holds the ACTIVE role for an interface. -/
def partnerServes (d : Dev) (i : Nat) : Bool :=
  (d.pairState = 1 || d.pairState = 2) && d.rails = 2 && d.pair.heartAt.any (fun t => d.now ≤ t + d.hbLoss)
    && d.pair.peerRoles.testBit i

/-- Pair STATE set; SYNCED is cleared by SEVERED and ALONE (R558). -/
def setPairState (d : Dev) (v : Nat) : Dev :=
  let d := d.setFld 0x700004 30 28 v
  if v = 0 || v = 3 then d.clrBit 0x700004 15 else d

/-- PAIRED entered: the two devices are synchronised in both directions. -/
def paired (d : Dev) : Dev :=
  ((d.setPairState 2).setBit 0x700004 15).setPair fun p => { p with feeding := false, pairing := false }

/-! ### Roles that move by plan (R525, R571) -/

/-- Three words of a bitmap of interfaces (R524). -/
def roleWords (n : Nat) : List Nat := [n % 2 ^ 32, n / 2 ^ 32 % 2 ^ 32, n / 2 ^ 64 % 2 ^ 32]

/-- The bitmap of interfaces. -/
def bitmap (l : List Nat) : Nat := l.foldl (fun n i => n + 2 ^ i) 0

/-- A hand of R571 set or gone. -/
def setHand (d : Dev) (i : Nat) (h : Option Hand) : Dev :=
  d.setPair fun p => { p with hands := match h with
    | some h => Map.put p.hands i h
    | none => Map.erase p.hands i }

/-- G sends OFFER (step 1). -/
def startGive (d : Dev) (i : Nat) : Dev := (d.setHand i (some { step := 1, give := true })).sendCtrl (.offer i)

/-- R asks G. -/
def startTake (d : Dev) (i : Nat) : Dev := (d.setHand i (some { step := 0, give := false })).sendCtrl (.ask i)

/-- PAIR_ROLE_SET's next interface, or its end: the interfaces moved and refused are its result (R525). -/
def roleNext (d : Dev) : Dev :=
  match d.pair.roleAsk with
  | none => d
  | some a =>
    match a.todo with
    | i :: _ => if a.give then d.startGive i else d.startTake i
    | [] =>
      let d := d.setPair fun p => { p with roleAsk := none }
      d.closeTicket (a.mbx, a.num) (if a.refused.isEmpty then 0 else 0x0802) 0 2
        (roleWords (bitmap a.moved) ++ roleWords (bitmap a.refused))

/-- An interface's exchange has ended, moved or not. -/
def handDone (d : Dev) (i : Nat) (moved : Bool) : Dev :=
  match d.pair.roleAsk with
  | none => d
  | some a =>
    if a.todo.head? ≠ some i then d
    else
      let a := { a with todo := a.todo.drop 1, moved := if moved then a.moved ++ [i] else a.moved,
                        refused := if moved then a.refused else a.refused ++ [i] }
      (d.setPair fun p => { p with roleAsk := some a }).roleNext

/-- The exchanges that the loss of the link or the partner ends; `all` ends drains too (R571). -/
def endHands (d : Dev) (all : Bool) : Dev :=
  let keep (h : Hand) : Bool := !all && h.give && h.step = 2
  let d := d.setPair fun p =>
    let hs := p.hands.filter fun e => keep e.2
    { p with hands := hs, roleAsk := p.roleAsk.map fun a => { a with todo := a.todo.filter fun i => Map.has hs i } }
  if (d.pair.roleAsk.any fun a => a.todo.isEmpty) then d.roleNext else d

/-! ### Mark sets and credits sent (R561, R562) -/

/-- SPEED of an IFACE record. -/
def speedCode (g : Nat) : Nat := if g ≥ 800 then 3 else if g ≥ 400 then 2 else if g ≥ 200 then 1 else 0

/-- The IFACE record of an interface. -/
def ifaceRec (d : Dev) (i : Nat) : PairRec :=
  let next := (d.port i).seq
  let open_ := d.accts.filter fun e => e.2.iface = i && !e.2.counted
  let back (n : Nat) : Nat := (next + 2 ^ 48 - n) % 2 ^ 48
  let span := open_.foldl (fun m e => max m (back e.2.aseq)) 0
  .iface i next ((next + 2 ^ 48 - span) % 2 ^ 48) (min (2 ^ 24 - 1) (span - open_.length))
    ((d.port i).st == .quarantined) (speedCode (d.port i).speed)

/-- A mark set. -/
def markSet (d : Dev) : List PairRec :=
  .markTime d.now 0 ::
    (List.range 16).map (fun c =>
      let l := d.ledger c
      let m (n : Nat) : Nat := n % 2 ^ 64
      .course c (m l.admitted) (m l.departed) (m (l.dropped.foldl (fun n e => n + e.2) 0)))
    ++ (ifaces.filter fun i => (d.port i).active).map d.ifaceRec

/-- A mark set sent; PAIRED under the second row of R558 once the partner's has come too. -/
def markSend (d : Dev) : Dev :=
  if !d.fjLinked then d
  else
    let d := d.ledgersChecked
    let d := (d.sendSeq 2 (.data d.markSet)).setPair fun p => { p with markOut := true }
    if d.pair.pairing && d.pair.markAt.isSome then d.paired else d

/-- Credit of a bucket in whole bytes. -/
def credit (b : Bucket) : Int := b.credit / creditUnit

/-- The POL record of a policer. -/
def polRec (d : Dev) (n : Nat) : PairRec := .pol n (credit (d.policer n).peak) (credit (d.policer n).com)

/-- The QUEUE record of a queue. -/
def queueRec (d : Dev) (q : Nat) : PairRec :=
  .queue q (credit (d.queue q).dep) (credit (d.queue q).peak) (credit (d.queue q).com)

/-- Records in frames of at most `n`; `fuel` frames. -/
def framesOf (n : Nat) : Nat → List PairRec → List FjBody
  | 0, _ => []
  | fuel + 1, l => if l.isEmpty then [] else .data (l.take n) :: framesOf n fuel (l.drop n)

/-- Records sent in whole frames at a priority. -/
def sendRecs (d : Dev) (prio n : Nat) (l : List PairRec) : Dev := (framesOf n l.length l).foldl (fun d b => d.sendSeq prio b) d

/-- CREDIT_RECORD_SEND: each policer and queue whose credit has changed since the last. -/
def creditSend (d : Dev) : Dev :=
  if !d.fjLinked || !d.mirrors then d
  else
    let t0 := d.pair.credAt
    let new (b : Bucket) : Bool := b.t ≥ t0
    let ps := d.sched.policers.filter fun e => new e.2.peak || new e.2.com
    let qs := d.sched.queues.filter fun e => e.1 < 55296 && (new e.2.dep || new e.2.peak || new e.2.com)
    ((d.sendRecs 4 341 (ps.map fun e => d.polRec e.1)).sendRecs 4 256 (qs.map fun e => d.queueRec e.1)).setPair
      fun p => { p with credAt := d.creditNow }

/-! ### The link comes up (R551, R553, R558, R559) -/

/-- Every valid context of the store. -/
def allCtxs (d : Dev) : List Nat :=
  (Map.keys d.store ++ d.slices.flatMap fun s => s.2.sets.flatMap fun e => e.2.filterMap fun w =>
    match w with
    | .line i _ _ => some i
    | .pend _ _ _ => none).foldl addOnce [] |>.filter fun i => (d.ctx i).valid

/-- R559: the resynchronisation of a partner that joins. -/
def feed (d : Dev) : Dev :=
  let d := (d.setPair fun p => { p with feeding := true }).sendSeq 3 (.data [.syncStart])
  let (bad, good) := d.allCtxs.partition d.ctxBad
  let d := bad.foldl (fun d i => (d.raise (srcMem (i % 2)) 0xC022 (memDetail (i % 2) (i * 128))).bump (0x38030 + 0x40 * (i % 2))) d
  let d := d.sendRecs 3 42 (good.map fun i => .ctxSet (d.ctx i).toWords)
  let d := d.sendRecs 4 341 ((List.range 262144).map d.polRec)
  (d.sendRecs 4 256 ((List.range 55296).map d.queueRec)).sendSeq 4 (.data [.syncDone])

/-- R558, R559: what the roles of the two devices at link up lead to. -/
def formPair (d : Dev) : Dev :=
  let own := d.roles
  let d := if d.pair.peerRoles ≠ 0 then d.setPairState 1 else d
  if own ≠ 0 then d.feed
  else if d.pair.peerRoles = 0 then (d.setPair fun p => { p with pairing := true }).takeRoles d.home
  else d

/-- The link comes up once HELLO has been accepted and sent and enough lanes are up. -/
def tryLink (d : Dev) : Dev :=
  let up := ((List.range 8).filter d.fjUp).length
  if !d.fjLinked && d.pair.helloIn && d.pair.helloOut && clampNat 1 8 (d.fld 0x700000 7 4) ≤ up then
    let d := (d.setBit 0x700004 24).setPair fun p =>
      { p with toSend := [], sent := [], ahead := [], aheadAt := none, txSeq := 0, rxSeq := 0, rounds := 0, ackedAt := d.now,
               marks := [], markAt := none, markOut := false, feeding := false, pairing := false,
               upSince := p.upSince || p.firstAt.isSome }
    (d.event 0x700008 2).formPair
  else d

/-- A copy of the transmit queue that the link did not carry. -/
def lostCopy (d : Dev) (w : Waiting) : Dev := (d.bump 0x700138).endWaiting w 0xB1

/-- The link's state discarded: records unsent or unacknowledged, and copies under 0xB1 (R558, R572). -/
def dropLink (d : Dev) : Dev :=
  let lost := d.pair.flying.map (·.2) ++ d.pair.xq
  let d := (d.clrBit 0x700004 24).setPair fun p =>
    { p with toSend := [], sent := [], ahead := [], aheadAt := none, xq := [], flying := [], feeding := false, pairing := false,
             helloIn := false, helloOut := false }
  lost.foldl lostCopy d

/-- The link goes down: SEVERED while the partner's rails read alive. -/
def fjDown (d : Dev) : Dev :=
  if !d.fjLinked then d
  else
    let d := d.dropLink.endHands false
    if d.rails = 2 && (d.pairState = 1 || d.pairState = 2) then
      ((d.setPairState 3).raise srcPair 0xA003).event 0x700008 1
    else d

/-! ### This device's rails (R550) -/

/-- The device drives not alive for a reason: every interface leaves ACTIVE. -/
def goMute (d : Dev) (why : Nat) : Dev :=
  let d := (d.setPair fun p => { p with mute := addOnce p.mute why }).clrBit 0x700004 14
  ifaces.foldl (fun d i => d.setRole i false) d

/-- A reason ends; with the last one the device drives alive again. -/
def unmute (d : Dev) (why : Nat) : Dev :=
  let d := d.setPair fun p => { p with mute := without p.mute why }
  if d.pair.mute.isEmpty && !d.selfAlive then
    let d := d.setBit 0x700004 14
    if d.fjLinked && d.pair.pairing && d.roles = 0 && d.pair.peerRoles = 0 then d.takeRoles d.home else d
  else d

/-! ### Detection and takeover (R567 to R570) -/

/-- The entries of a report for an interface of the last mark set (R570). -/
def reportRanges (i : Nat) (m : IfaceMark) (dt : Nat) : List (List Nat) :=
  let entry (open_ : Bool) (first n ended : Nat) : List Nat :=
    let last := (first + n + 2 ^ 48 - 1) % 2 ^ 48
    [b2n open_ * 2 ^ 31 + i, last / 2 ^ 32 * 2 ^ 16 + first / 2 ^ 32, first % 2 ^ 32, last % 2 ^ 32, ended, 0]
  let rate := 14881 * 2 ^ m.speed
  let n := (rate * dt + 99999) / 100000
  let span := (m.next + 2 ^ 48 - m.conf) % 2 ^ 48
  (if span ≠ 0 then [entry false m.conf span m.ended] else []) ++ [entry true m.next n 0]

/-- R570: the takeover report, the eight most recent kept, newest first. -/
def report (d : Dev) (cause : Nat) : Dev :=
  let dt := d.now - d.pair.markAt.getD d.now
  let rs := (ifaces.filter fun i => d.pair.peerRoles.testBit i).flatMap fun i =>
    match Map.get? d.pair.marks i with
    | some m => reportRanges i m dt
    | none => []
  let d := d.setPair fun p => { p with reports := (⟨d.now, cause, min (2 ^ 24 - 1) (dt / 1000), rs⟩ :: p.reports).take 8 }
  d.setFld 0x700004 3 0 d.pair.reports.length

/-- Step 3 of R568: shadow timers armed, and those past their deadline fired. -/
def promoteTimers (d : Dev) : Dev :=
  d.sets.foldl (fun d e =>
    let due := e.2.timers.filter fun t => t.2.shadow && t.2.deadline ≤ d.now
    let d := d.setSet e.1 fun x => { x with timers := x.timers.map fun t => (t.1, { t.2 with shadow := false }) }
    due.foldl (fun d t => d.timerFire e.1 t.1) d) d

/-- Step 2 of R568 for one interface. -/
def takeOver (d : Dev) (i : Nat) : Dev :=
  let d := d.setRole i true
  if i < 48 && (Map.get? d.pair.marks i).any (·.quar) then
    let d := d.setPort i fun p => { p with quarPending := true, holdFrom := d.now }
    if (d.port i).st == .admitted then d.enterState i .quarantined else d
  else d

/-- Whether a failure is one of a partner that this device has known since the last failure: its rails have read alive, or frames
of it have come. `prev` is RAILS before. -/
def knownPeer (d : Dev) (prev : Nat) : Bool :=
  d.pairState ≠ 0 || d.pair.peerRoles ≠ 0 || prev = 2 || (prev ≠ 1 && d.pair.heardAt.isSome)

/-- R568: the takeover after a failure of the partner; in Dormant the wake latch sees the rails instead (R567). -/
def partnerFail (d : Dev) (prev cause : Nat) : Dev :=
  if d.pwrState = 3 || !d.knownPeer prev then d
  else
    let planned := d.pair.absent
    let peer := d.pair.peerRoles
    let d := ((d.dropLink.endHands true).setPairState 0).event 0x700008 0
    let d := if planned then d else d.raise srcPair 0xA010
    let d := if d.flag 0x700000 3 then
        ((ifaces.foldl (fun d i => if peer.testBit i && d.selfAlive then d.takeOver i else d) d).promoteTimers).bump 0x700140
      else d
    let d := if planned then d else d.report cause
    let d := d.setPair fun p => { p with absent := false, peerRoles := 0, peerState := 0, heartAt := none, heardAt := none, clash := 0, peerMove := false }
    if d.wear.move.any (·.step < 6) then d.abandonMove false 0x0903 else d

/-- Whether no valid frame has come for the time of heartbeat loss (R555). -/
def lost (d : Dev) : Bool := d.pair.heardAt.all fun t => d.now ≥ t + d.hbLoss

/-- R549, R567: a decided change of the partner's rails; an armed INJ_RAIL makes it read invalid (R574). -/
def railChange (d : Dev) (p n : Bool) : Dev :=
  let inj := d.flag 0x70000C 0
  let d := if inj then d.clrBit 0x70000C 0 else d
  let n := if inj then p else n
  let prev := d.rails
  let code := b2n p * 2 + b2n n
  let d := (d.setFld 0x700004 27 26 code).setFld 0x700004 25 25 (b2n (code = 2))
  if code = 2 then d.setPair fun x => { x with absent := false }
  else if code = 1 then d.partnerFail prev 0
  else
    let d := if inj then (d.raiseInj srcPair 0xA001).event 0x700008 6 else d
    if d.lost then d.partnerFail prev 1
    else if inj then d
    else (d.raise srcPair 0xA001).event 0x700008 6

/-- R555, R567: heartbeat loss, judged once. -/
def heartbeatLost (d : Dev) : Dev :=
  if !d.lost || d.pair.heardAt.isNone || d.pair.lossSeen then d
  else
    let d := d.setPair fun p => { p with lossSeen := true }
    if d.rails = 2 then d.fjDown
    else if d.rails = 1 then d
    else d.partnerFail d.rails 1

/-- R559: SOLO_WAIT after the first commit with the link down. -/
def soloWait (d : Dev) : Dev :=
  let wait := max 1 (d.fld 0x700000 15 8) * 1000000
  if d.fjLinked || d.pair.upSince || d.pairState ≠ 0 || d.roles ≠ 0 || d.pair.peerRoles ≠ 0 then d
  else match d.pair.firstAt with
    | none => d
    | some t => if d.now < t + wait then d else if d.rails = 2 then d.takeRoles d.home else d.takeRoles fun _ => true

/-! ### The partner's records applied (R562 to R564) -/

/-- A context changed by a record: CONFLICT where its slot is locked. -/
def setFromPeer (d : Dev) (i : Nat) (f : Ctx → Ctx) : Dev :=
  d.setCtx i fun c => let c := f c; if c.lock.isSome then { c with conflict := true } else c

/-- The context of a key; none where it is absent. -/
def keyCtx (d : Dev) (tpl : Nat) (key : List Byte) : Option Nat :=
  if d.placeBad tpl key then none else match d.placeFor tpl key with
  | .error (some i) => some i
  | .error none => none
  | .ok _ => none

/-- An entry of a COMMIT record in set memory or timers. -/
def commitEntry (d : Dev) (s : Nat) (e : Nat × Nat × Nat) : Dev :=
  let (k, a, v) := e
  if k ≤ 1 && a % 2 ^ 20 + a / 2 ^ 20 > setMemSize then d else
  match k with
  | 0 => d.applyEntry s 0 none (.st (a % 2 ^ 20) (a / 2 ^ 20) v)
  | 1 => d.applyEntry s 0 none (.addc (a % 2 ^ 20) (a / 2 ^ 20) v)
  | 2 => d.armTimer s (a % 2 ^ 12) (a / 2 ^ 12) (v / 2 ^ 36) (v / 2 ^ 32 % 16) (v % 2 ^ 32) true
  | _ => d.setSet s fun x => { x with timers := Map.erase x.timers a }

/-- One record applied. -/
def applyRec (d : Dev) (r : PairRec) : Dev :=
  let d := d.bump 0x700120
  match r with
  | .markTime _ delay =>
    let d := d.setPair fun p => { p with marks := [], peerLedgers := [], markAt := some (d.now - delay - 1000) }
    if d.pair.pairing && d.pair.markOut then d.paired else d
  | .course c a b x => if c ≥ 16 then d else d.setPair fun p => { p with peerLedgers := Map.put p.peerLedgers c (a, b, x) }
  | .iface i next conf ended quar speed =>
    d.setPair fun p => { p with marks := Map.put p.marks i ⟨next, conf, ended, quar, speed⟩ }
  | .ctxSet w =>
    let (tpl, key) := keyOfWords w
    match d.keyCtx tpl key with
    | some i => d.setFromPeer i fun c => c.write false w
    | none => (d.ctxCreate (({} : Ctx).write true w)).1
  | .ctxFree tpl key =>
    match d.keyCtx tpl key with
    | some i => (d.ctxFree i (d.ctx i).gen).1
    | none => d
  | .ctxTouch tpl key =>
    match d.keyCtx tpl key with
    | some i => d.setFromPeer i fun c => { c with aged := false, stale := false }
    | none => d
  | .commit s l => if s < 64 && d.isOn (38 + s) then l.foldl (fun d e => d.commitEntry s e) d else d
  | .tfire s t => if s ≥ 64 then d else d.setSet s fun x => { x with timers := x.timers.filter fun e => !(e.1 = t && e.2.shadow) }
  | .pol n peak com =>
    let b (c : Int) : Bucket := ⟨c * creditUnit, d.creditNow⟩
    if n < 262144 then d.setPolicer n fun x => { x with peak := b peak, com := b com } else d
  | .queue q dep peak com =>
    let b (c : Int) : Bucket := ⟨c * creditUnit, d.creditNow⟩
    if q < 55296 then d.setQueue q fun x => { x with dep := b dep, peak := b peak, com := b com } else d
  | .syncStart => d
  | .syncDone => if d.pairState = 1 then d.paired.event 0x700008 3 else d

/-- The records of a frame applied in order; none of them is mirrored back. -/
def applyRecs (d : Dev) (l : List PairRec) : Dev :=
  let d := d.setPair fun p => { p with quiet := true }
  (l.foldl applyRec d).setPair fun p => { p with quiet := false }

/-! ### CTRL frames (R567, R571, R627) -/

/-- Whether the device could take the role of an interface that is offered (step 2). -/
def mayTake (d : Dev) (i : Nat) : Bool :=
  d.pairState = 2 && d.flag 0x700004 15 && (d.port i).st == .admitted && !(d.port i).active && d.selfAlive

/-- DRAIN in ns. -/
def drainTime (d : Dev) : Nat := clampNat 1 1000 (d.fld 0x700014 9 0) * 1000

/-- What a CTRL frame does. -/
def applyCtrl (d : Dev) : Ctrl → Dev
  | .absent => d.setPair fun p => { p with absent := true }
  | .ask i => if d.pairState = 2 && (d.port i).active && !Map.has d.pair.hands i then d.startGive i else d.sendCtrl (.refuse i)
  | .offer i =>
    if d.mayTake i then (d.setHand i (some { step := 1, give := false })).sendCtrl (.accept i)
    else
      let d := d.sendCtrl (.refuse i)
      if (Map.get? d.pair.hands i).any (!·.give) then (d.setHand i none).handDone i false else d
  | .accept i =>
    if (Map.get? d.pair.hands i).any fun h => h.give && h.step = 1 then
      let d := (d.setHand i (some { step := 2, give := true, end_ := d.now + d.drainTime })).ledgersChecked
      (d.sendSeq 2 (.data d.markSet)).sendCtrl (.switch i)
    else d
  | .refuse i =>
    if (Map.get? d.pair.hands i).any fun h => h.step ≤ 1 then (d.setHand i none).handDone i false else d
  | .switch i =>
    if (Map.get? d.pair.hands i).any fun h => !h.give && h.step = 1 then
      ((d.setRole i true).setHand i (some { step := 2, give := false })).handDone i true
    else d
  | .move => d.moveHeard
  | .moveEnd => d.setPair fun p => { p with peerMove := false }

/-- Step 5 of R571: the giver's drain ends. -/
def handDrained (d : Dev) (i : Nat) : Dev :=
  if (Map.get? d.pair.hands i).any fun h => h.give && h.step = 2 && d.now ≥ h.end_ then
    (((d.setRole i false).setHand i none).event 0x700008 5).handDone i true
  else d

/-! ### Cross-forwarded copies (R572, R573) -/

/-- The copy at the head of the transmit queue sent in an XFER frame. -/
def xferSend (d : Dev) : Dev :=
  if !d.fjLinked || !d.pair.toSend.isEmpty || d.pair.sent.length ≥ 4096 then d
  else match d.pair.xq with
    | [] => d
    | w :: l =>
      let d := d.setPair fun p => { p with xq := l }
      match d.chain? w.desc.chain w.desc.gen with
      | none => d.endWaiting w 0x64
      | some c =>
        let d := d.setPair fun p => { p with flying := Map.put p.flying p.txSeq w }
        (d.sendNow (.xfer w.desc.toWords c.bytes)).bump 0x700128

/-- A copy received: it enters step 8 on its queue as a packet originated into the course of its egress interface. -/
def xferIn (d : Dev) (words : List Nat) (bytes : List Byte) : Dev :=
  let x := Desc.ofWords words
  let q := x.queue
  let i := d.ifOfQueue q
  let name := courseOf i
  let (d, pid) := (d.bump 0x700130).enrol name
  let x := { x with pid := pid, ledger := name, tag := d.epochs.curTag, mlen := bytes.length, admTime := d.now / 128 }
  if 55296 ≤ q || !(d.port i).active then (d.bump 0x700138).endCopy x (.dropped 0xB2)
  else
    let a : Arrival := { desc := x, bytes := bytes, written := bytes, pass := { desc := x } }
    (d.placeCopy (d.physical name) a { checked := x.admChecked, bad := false } x q []).1

/-! ### Receipt (R552 to R555) -/

/-- What the ACK of one of our frames brings: a copy has departed, or a mark set's lag is known (R566, R572). -/
def acked (d : Dev) (f : Nat × FjBody) : Dev :=
  let d := match Map.get? d.pair.flying f.1 with
    | some w =>
      ((d.setPair fun p => { p with flying := Map.erase p.flying f.1 }).release w.desc.chain w.desc.gen).endCopy w.desc .departed
    | none => d
  match f.2 with
  | .data (.markTime m _ :: _) =>
    let lag := d.now - m
    let us := min 65535 (lag / 1000)
    let d := (d.setReg 0x700010 (max us (d.fld 0x700010 31 16) <<< 16 + us)).setPair fun p => { p with lagCmd := max p.lagCmd us }
    if lag > 200000 then (d.raise srcPair 0xA004).event 0x700008 4 else d
  | _ => d

/-- R554: frames that an ACK covers leave the retransmit buffer. -/
def ackTo (d : Dev) (a : Nat) : Dev :=
  match d.pair.sent with
  | [] => d
  | f :: _ =>
    let n := (a + 2 ^ 32 - f.1) % 2 ^ 32
    if n = 0 || n > d.pair.sent.length then d
    else
      let done := d.pair.sent.take n
      let d := d.setPair fun p => { p with sent := p.sent.drop n, rounds := 0, ackedAt := d.now }
      (done.foldl acked d).drainSend

/-- A frame sent again. -/
def resend (d : Dev) (f : Nat × FjBody) : Dev := (d.emit f.1 (d.stamped f.2)).bump 0x700110

/-- What a sequenced frame does once it is in order. -/
def deliver (d : Dev) : FjBody → Dev
  | .data l => d.applyRecs l
  | .xfer w b => d.xferIn w b
  | .ctrl c => d.applyCtrl c
  | _ => d

/-- Held frames taken while they are in order. -/
def takeAhead : Nat → Dev → Dev
  | 0, d => d
  | fuel + 1, d =>
    match d.pair.ahead.find? fun f => f.1 = d.pair.rxSeq with
    | none => d.setPair fun p => { p with aheadAt := if p.ahead.isEmpty then none else some d.now }
    | some f =>
      let d := d.setPair fun p => { p with ahead := p.ahead.filter (·.1 ≠ f.1), rxSeq := (p.rxSeq + 1) % 2 ^ 32 }
      takeAhead fuel (d.deliver f.2)

/-- R554: a sequenced frame: taken in order, held ahead of a gap, or a duplicate. -/
def takeSeq (d : Dev) (seq : Nat) (b : FjBody) : Dev :=
  let n := (seq + 2 ^ 32 - d.pair.rxSeq) % 2 ^ 32
  if n = 0 then
    let d := (d.setPair fun p => { p with rxSeq := (p.rxSeq + 1) % 2 ^ 32 }).deliver b
    if d.pair.ahead.isEmpty then d else takeAhead (d.pair.ahead.length + 1) d
  else if n < 2 ^ 31 && d.pair.ahead.length < 512 && !d.pair.ahead.any (·.1 = seq) then
    d.setPair fun p => { p with ahead := p.ahead ++ [(seq, b)], aheadAt := some (p.aheadAt.getD d.now) }
  else d

/-- R553: a HELLO judged; until the first commit none is answered (R663). -/
def hearHello (d : Dev) (side part step seed state roles : Nat) : Dev :=
  if d.fjLinked || d.pair.firstAt.isNone then d
  else if side = d.side || part ≠ 0x4800 || step ≠ 0xB0 || seed ≠ d.reg 0x100D00 then
    (d.raise srcPair 0xA002).event 0x700008 7
  else (d.setPair fun p => { p with helloIn := true, peerRoles := roles, peerState := state }).tryLink

/-- R555, R558, R569: a HEARTBEAT: the partner's state and roles, and the conflict of roles. -/
def hearHeartbeat (d : Dev) (state roles : Nat) : Dev :=
  let d := d.setPair fun p =>
    { p with peerState := state, peerRoles := roles, heartAt := some d.now,
             hands := p.hands.filter fun h => h.2.give || h.2.step ≠ 2 || roles.testBit h.1 }
  let d := if d.pair.feeding && state = 2 && d.fjLinked && d.pairState ≠ 1 then d.paired else d
  let both := ifaces.filter fun i => (d.port i).active && roles.testBit i && !Map.has d.pair.hands i
  let new := both.any fun i => !d.pair.clash.testBit i
  let d := d.setPair fun p => { p with clash := bitmap both }
  let d := if new then (d.raise srcPair 0xA005).event 0x700008 8 else d
  if d.side = 1 then both.foldl (fun d i => d.setRole i false) d else d

/-- R552, R554: a frame as it arrives on a lane that is up; an armed INJ_FRAME inverts its check. -/
def hear (d : Dev) (f : Fjarair) : Dev :=
  let inj := d.flag 0x70000C 1
  if !d.fjUp f.lane then d
  else if inj || !f.good then
    let src := srcLane (f.lane / 2) (d.laneAt (f.lane / 2) (80 + f.lane % 2))
    ((if inj then d.clrBit 0x70000C 1 else d).raiseAs src 0xA020 [] inj true).bump 0x700118
  else
    let d := (d.bump 0x700108).setPair fun p => { p with heardAt := some d.now, lossSeen := false }
    let d := if d.fjLinked then d.ackTo f.ack else d
    match f.body with
    | .hello part step seed state _ roles => d.hearHello f.side part step seed state roles
    | .heartbeat state roles => d.hearHeartbeat state roles
    | .ack => d
    | .nak => if d.fjLinked then d.pair.sent.foldl resend d else d
    | b => if d.fjLinked then d.takeSeq f.seq b else d

/-- A gap of 2.0 µs: NAK names the missing SEQ. -/
def gapTimeout (d : Dev) : Dev :=
  if d.fjLinked && d.pair.aheadAt.any (fun t => d.now ≥ t + 2000) then
    (d.setPair fun p => { p with ahead := [], aheadAt := none }).emit 0 .nak
  else d

/-- An ACK stalled for 5.0 µs: the oldest frame again; eight rounds take the link down. -/
def ackStalled (d : Dev) : Dev :=
  match d.pair.sent with
  | [] => d
  | f :: _ =>
    if !d.fjLinked || d.now < d.pair.ackedAt + 5000 then d
    else
      let d := d.setPair fun p => { p with rounds := p.rounds + 1, ackedAt := d.now }
      let d := d.resend f
      if d.pair.rounds ≥ 8 then (d.raise srcPair 0xA021).fjDown else d

/-- A lane of the link comes up or goes down. -/
def fjLane (d : Dev) (k : Nat) (up : Bool) : Dev :=
  if up then (d.setBit 0x700004 (16 + k)).tryLink
  else
    let d := d.clrBit 0x700004 (16 + k)
    if ((List.range 8).filter d.fjUp).length < clampNat 1 8 (d.fld 0x700000 7 4) then d.fjDown else d

/-- HELLO on every lane that is up, while the link is down, from the first commit on (R663). -/
def helloSend (d : Dev) : Dev :=
  if d.fjLinked || d.pair.firstAt.isNone then d
  else
    let ks := (List.range 8).filter d.fjUp
    let b : FjBody := .hello 0x4800 0xB0 (d.reg 0x100D00) d.pairState (d.flag 0x700004 15) d.roles
    let d := ks.foldl (fun d k => d.emitOn k 0 b) d
    if ks.isEmpty then d else (d.setPair fun p => { p with helloOut := true }).tryLink

end Dev

/-- Whether a frame begins with a record of a kind. -/
def firstRec (f : Fjarair) (p : PairRec → Bool) : Bool := match f.body with
  | .data (r :: _) => p r
  | _ => false

/-- A frame of a command's own kind received. -/
def hearIf (ok : Bool) (f : Fjarair) (s : State) : Result := s.act fun d => if ok then d.hear f else d

/-- PEER_RAIL_CHANGE (R567): the partner's P and N as two equal samples decide them. -/
def execPeerRailChange (p n : Bool) (s : State) : Result := s.act (·.railChange p n)

/-- HEARTBEAT_LOSS (R555). -/
def execHeartbeatLoss (s : State) : Result := s.act Dev.heartbeatLost

/-- SELF_DOWN_WRITE (R550): a write of SELF_DOWN. -/
def execSelfDownWrite (down : Bool) (s : State) : Result :=
  s.host fun d => let d := d.setFld 0x700000 2 2 (b2n down); if down then d.goMute 4 else d.unmute 4

/-- FJARAIR_LANE_UP (R551). -/
def execFjarairLaneUp (lane : Fin 8) (s : State) : Result := s.act (·.fjLane lane true)

/-- FJARAIR_LANE_DOWN (R551). -/
def execFjarairLaneDown (lane : Fin 8) (s : State) : Result := s.act (·.fjLane lane false)

/-- HELLO_SEND (R553). -/
def execHelloSend (s : State) : Result := s.act Dev.helloSend

/-- HELLO (R553). -/
def execHello (frame : Fjarair) (s : State) : Result :=
  hearIf (match frame.body with | .hello _ _ _ _ _ _ => true | _ => false) frame s

/-- HEARTBEAT_SEND (R555): on one lane that is up. -/
def execHeartbeatSend (s : State) : Result := s.act fun d => d.emit 0 (.heartbeat d.pairState d.roles)

/-- HEARTBEAT (R555). -/
def execHeartbeat (frame : Fjarair) (s : State) : Result :=
  hearIf (match frame.body with | .heartbeat _ _ => true | _ => false) frame s

/-- ACK_FRAME (R554). -/
def execAckFrame (frame : Fjarair) (s : State) : Result := hearIf (frame.body == .ack) frame s

/-- ACK_SEND (R554): a device with nothing to send. -/
def execAckSend (s : State) : Result := s.act fun d => if d.fjLinked then d.emit 0 .ack else d

/-- NAK_FRAME (R554). -/
def execNakFrame (frame : Fjarair) (s : State) : Result := hearIf (frame.body == .nak) frame s

/-- REORDER_GAP_TIMEOUT (R554). -/
def execReorderGapTimeout (s : State) : Result := s.act Dev.gapTimeout

/-- RETRANSMIT_TIMEOUT (R554). -/
def execRetransmitTimeout (s : State) : Result := s.act Dev.ackStalled

/-- MARK_SET_SEND (R562). -/
def execMarkSetSend (s : State) : Result := s.act Dev.markSend

/-- CREDIT_RECORD_SEND (R561). -/
def execCreditRecordSend (s : State) : Result := s.act Dev.creditSend

/-- MARK_TIME (R562). -/
def execMarkTime (frame : Fjarair) (s : State) : Result :=
  hearIf (firstRec frame fun r => match r with | .markTime _ _ => true | _ => false) frame s

/-- COURSE_RECORD (R562). -/
def execCourseRecord (frame : Fjarair) (s : State) : Result :=
  hearIf (firstRec frame fun r => match r with | .course _ _ _ _ => true | _ => false) frame s

/-- IFACE_RECORD (R562). -/
def execIfaceRecord (frame : Fjarair) (s : State) : Result :=
  hearIf (firstRec frame fun r => match r with | .iface _ _ _ _ _ _ => true | _ => false) frame s

/-- CTX_SET (R563). -/
def execCtxSet (frame : Fjarair) (s : State) : Result :=
  hearIf (firstRec frame fun r => match r with | .ctxSet _ => true | _ => false) frame s

/-- CTX_FREE_RECORD (R563). -/
def execCtxFreeRecord (frame : Fjarair) (s : State) : Result :=
  hearIf (firstRec frame fun r => match r with | .ctxFree _ _ => true | _ => false) frame s

/-- CTX_TOUCH (R563). -/
def execCtxTouch (frame : Fjarair) (s : State) : Result :=
  hearIf (firstRec frame fun r => match r with | .ctxTouch _ _ => true | _ => false) frame s

/-- COMMIT_RECORD (R564). -/
def execCommitRecord (frame : Fjarair) (s : State) : Result :=
  hearIf (firstRec frame fun r => match r with | .commit _ _ => true | _ => false) frame s

/-- TFIRE (R564). -/
def execTfire (frame : Fjarair) (s : State) : Result :=
  hearIf (firstRec frame fun r => match r with | .tfire _ _ => true | _ => false) frame s

/-- POL_RECORD (R561). -/
def execPolRecord (frame : Fjarair) (s : State) : Result :=
  hearIf (firstRec frame fun r => match r with | .pol _ _ _ => true | _ => false) frame s

/-- QUEUE_RECORD (R561). -/
def execQueueRecord (frame : Fjarair) (s : State) : Result :=
  hearIf (firstRec frame fun r => match r with | .queue _ _ _ _ => true | _ => false) frame s

/-- SYNC_START (R559). -/
def execSyncStart (frame : Fjarair) (s : State) : Result := hearIf (firstRec frame (· == .syncStart)) frame s

/-- SYNC_DONE (R558). -/
def execSyncDone (frame : Fjarair) (s : State) : Result := hearIf (firstRec frame (· == .syncDone)) frame s

/-- SOLO_WAIT_EXPIRY (R559). -/
def execSoloWaitExpiry (s : State) : Result := s.act Dev.soloWait

/-- CTRL_ABSENT (R567). -/
def execCtrlAbsent (frame : Fjarair) (s : State) : Result := hearIf (frame.body == .ctrl .absent) frame s

/-- CTRL_OFFER (R571). -/
def execCtrlOffer (frame : Fjarair) (s : State) : Result :=
  hearIf (match frame.body with | .ctrl (.offer i) => isIface i | _ => false) frame s

/-- CTRL_ACCEPT (R571). -/
def execCtrlAccept (frame : Fjarair) (s : State) : Result :=
  hearIf (match frame.body with | .ctrl (.accept i) => isIface i | _ => false) frame s

/-- CTRL_REFUSE (R571). -/
def execCtrlRefuse (frame : Fjarair) (s : State) : Result :=
  hearIf (match frame.body with | .ctrl (.refuse i) => isIface i | _ => false) frame s

/-- CTRL_SWITCH (R571). -/
def execCtrlSwitch (frame : Fjarair) (s : State) : Result :=
  hearIf (match frame.body with | .ctrl (.switch i) => isIface i | _ => false) frame s

/-- CTRL_TAKE_ASK (R571). -/
def execCtrlTakeAsk (frame : Fjarair) (s : State) : Result :=
  hearIf (match frame.body with | .ctrl (.ask i) => isIface i | _ => false) frame s

/-- HANDOVER_DRAIN_END (R571): the interface given. -/
def execHandoverDrainEnd (i : Fin 96) (s : State) : Result := s.actIf i (·.handDrained i)

/-- CTRL_MOVE (R627). -/
def execCtrlMove (frame : Fjarair) (s : State) : Result := hearIf (frame.body == .ctrl .move) frame s

/-- CTRL_MOVE_END (R627). -/
def execCtrlMoveEnd (frame : Fjarair) (s : State) : Result := hearIf (frame.body == .ctrl .moveEnd) frame s

/-- XFER_SEND (R572). -/
def execXferSend (s : State) : Result := s.act Dev.xferSend

/-- XFER_FRAME (R573). -/
def execXferFrame (frame : Fjarair) (s : State) : Result :=
  hearIf (match frame.body with | .xfer _ _ => true | _ => false) frame s

end Sys2Proof.Machine
end

