-- ==== Sys2Proof/Machine/Passes.lean ====
section
/-! DEFINITION. Steps 4 to 8 of R18: which packet a course slot takes (R21), the parse stage, the lookups of R183,
packets parked as context misses (R197 to R200), INLINE scans and their rejoining, and the admission-check window. -/

namespace Sys2Proof.Machine

/-- A pass that nothing disturbs. -/
def noUpset : Upsets := ⟨none, false, false, false, false, false, [], .none, none, none⟩

namespace Dev

/-! ### The parse stage (chapter 5) -/

/-- Counters and events of a walk (R138). -/
def countWalk (d : Dev) (c : Nat) (p : Parse) : Dev :=
  let base := crsBase c
  let d := d.bump (base + 0x820)
  let d := if p.trunc.isSome then (d.bump (base + 0x828)).event (base + 0x80C) 0 else d
  let d := if p.short then d.bump (base + 0x830) else d
  let d := if p.lenconf.isSome then d.bump (base + 0x838) else d
  if p.csum then d.bump (base + 0x840) else d

/-- The walk of a pass from a node; a start node beyond the graph drops it (R112). -/
def walkPass (d : Dev) (c : Nat) (x : Desc) (bytes : List Byte) (node : Nat) (up : Upsets) : Dev × Except Nat Parse :=
  let g := (d.slot x.tag).graph
  if node ≥ bits (word g.hdr 0) 20 10 then (d.raise (srcCourse c) 0x2005, .error 0x18)
  else
    let base := crsBase c
    let name := (d.nameOf c).getD c
    let inj := d.flag (base + 0x810) 0
    let d := if inj then d.clrBit (base + 0x810) 0 else d
    let depth := clampNat 1 24 (bits (d.epochReg x.tag (crsBase name + 0x800)) 4 0)
    let p := parseFrom g depth bytes node (if inj then some (0, true) else up.node)
    let d := d.countWalk c p
    let d := match p.fin with
      | .nodeError m => (d.raiseAs (srcCourse c) (if m then 0x2002 else 0x2003) [] (m && inj) true).event (base + 0x80C) 1
      | .limit => d
      | .accept => d
      | .drop _ => d
      | .service _ => d
    (d, .ok p)

/-- The key of a pass's fragment, with its port (R131). -/
def keyOf (x : Desc) (p : Parse) : FragKey :=
  match p.fragKey with
  | some k => { k with port := portIndex x.admIf }
  | none => ⟨0, 0, 0, 0, 0, 0, 0⟩

/-! ### Lookups (R183) -/

/-- Lookups of orders 2 to 6 of a pass; the context's is made before. -/
def otherLookups (d : Dev) (c : Nat) (x : Desc) (p : Parse) (prof : Nat) (up : Upsets) (look : Look) : Dev × Look :=
  let name := (d.nameOf c).getD c
  let fv := p.fv
  let bd := field fv (bits prof 55 49) 2 % 2 ^ 14
  let (d, look) :=
    if !prof.testBit 60 then (d, look) else
    let (d, r) := d.l2Dest c (bd * 2 ^ 48 + field fv (bits prof 48 42) 6) up.l2
    (d, { look with l2 := if r.isSome then 1 else 2, l2If := r.getD 0 })
  let (d, look) :=
    if prof.testBit 60 && prof.testBit 59 && x.kind = 0 && isIface x.admIf && (d.port x.admIf).active then
      let (d, r) := d.l2Source c (bd * 2 ^ 48 + field fv (bits prof 41 35) 6) x.admIf
      (d, { look with src := r })
    else (d, look)
  let v6 := prof.testBit 56
  let vrf := field fv (bits prof 34 28) 2 % 4096
  let n := if v6 then 16 else 4
  let (d, look) :=
    if prof.testBit 58 then
      let (d, r) := d.routeLookup c x.tag v6 vrf (field fv (bits prof 27 21) n) up.dst
      (d, { look with rtDst := r })
    else (d, look)
  let (d, look) :=
    if prof.testBit 57 then
      let (d, r) := d.routeLookup c x.tag v6 vrf (field fv (bits prof 20 14) n) up.src
      (d, { look with rtSrc := r })
    else (d, look)
  let (d, gs) := d.searchGroup name x.tag p.endNode fv (metadata x p) up.control
  (d, { look with groups := gs })

/-- A found context as an outcome (R185, R189). -/
def foundCtx (d : Dev) (x : Desc) (idx : Nat) (look : Look) : Dev × Look :=
  let d := d.hitCtx idx (x.kind = 0) x.mlen
  let c := d.ctx idx
  (d, { look with ctx := some (idx, c.gen), ctxOut := if d.isCurrent x.tag c then .current else .reval })

/-! ### Dropping in step 6, the automata and the action -/

/-- A pass dropped during step 6: a first fragment's entry becomes DROP (R133). -/
def dropSix (d : Dev) (c : Nat) (p : Pass) (r : Nat) : Dev :=
  let d := if p.parse.fragFirst then d.fragVerdict c (keyOf p.desc p.parse) true else d
  d.dropPass p r

/-- Steps 7 and 8 of a pass. -/
def finishPass (d : Dev) (c : Nat) (p : Pass) (bytes : List Byte) (up : Upsets) : Dev :=
  let (d, a) := d.actionStage c p bytes up.action up.matrix
  d.carryOut c p bytes a up.action up.written

/-- Order 7 of R183: the automata selector, and a scan where it calls for one (R167, R171). -/
def automataStage (d : Dev) (c : Nat) (p : Pass) (bytes : List Byte) (up : Upsets) : Dev :=
  let u := (d.nameOf c).getD 0
  match d.autoSel p.look with
  | none => d.finishPass c p bytes up
  | some (sel, own) =>
    match d.judgeScan u p sel own bytes with
    | (d, .go o) => d.finishPass c { p with look := { p.look with auto := o } } bytes up
    | (d, .wait s) =>
      match d.waitChain c p 6 bytes with
      | (d, .error r) => d.dropSix c p r
      | (d, .ok p) => d.setAu u fun a => { a with queue := a.queue ++ [{ s with pass := p }] }

/-- R197, R199: a pass parks as a context miss. -/
def park (d : Dev) (c : Nat) (p : Pass) (bytes : List Byte) : Dev :=
  let base := crsBase c
  let d := d.bump (base + 0xC88)
  let q := (d.course c).missq
  let ceil := d.fld (crsBase ((d.nameOf c).getD c) + 0xC00) 25 13
  let same (o : Pass) : Bool :=
    if p.desc.kind = 0 then o.desc.kind = 0 && o.desc.admIf = p.desc.admIf else o.desc.kind ≠ 0
  if q.length ≥ 4096 || (ceil ≠ 0 && (q.filter same).length ≥ ceil) then
    ((d.bump (base + 0xCF0)).event (base + 0xC14) 4).dropSix c p 0x41
  else
    match d.waitChain c p 5 bytes with
    | (d, .error r) => d.dropSix c p r
    | (d, .ok p) => d.setCourse c fun s => { s with missq := s.missq ++ [p] }

/-- Step 6 of a classified pass. -/
def lookups (d : Dev) (c : Nat) (p : Pass) (bytes : List Byte) (up : Upsets) : Dev :=
  let x := p.desc
  let pol := (d.slot x.tag).policy
  let prof := pol.profiles.getD (Map.getD pol.profMap p.parse.endNode 0) 0
  if !prof.testBit 63 then
    let (d, look) := d.otherLookups c x p.parse prof up p.look
    d.automataStage c { p with look := look } bytes up
  else
    let tpl := bits prof 62 61
    let key := buildKey 40 (pol.keys.getD tpl []) p.parse.fv (metadata x p.parse)
    let look := { p.look with key := some (tpl, key), hash := d.ctxHash tpl key }
    let base := crsBase c
    match d.sliceLookup tpl key up.ctx with
    | (d, .hit idx) =>
      let (d, look) := (d.bump (base + 0xC80)).foundCtx x idx look
      let (d, look) := d.otherLookups c x p.parse prof up look
      d.automataStage c { p with look := look } bytes up
    | (d, .pend) =>
      let (d, look) := (d.bump (base + 0xC98)).otherLookups c x p.parse prof up { look with ctxOut := .nonePend }
      d.automataStage c { p with look := look } bytes up
    | (d, .miss) =>
      let (d, look) := d.otherLookups c x p.parse prof up look
      d.park c { p with look := look } bytes

/-! ### One pass (R18, R21) -/

/-- Steps 4 and 5 of a pass that a slot takes: the walk, what it leads to, and the fragment rules. `used` says that the
fragment table serves this pass (R132). -/
def takePass (d : Dev) (c : Nat) (p : Pass) (bytes : List Byte) (node : Nat) (used : Bool) (up : Upsets) : Dev :=
  let x := { p.desc with course := c }
  let p := { p with desc := x }
  match d.walkPass c x bytes node up with
  | (d, .error r) => d.dropPass p r
  | (d, .ok r) =>
    let g := (d.slot x.tag).graph
    let key := keyOf x r
    let used := used && d.fragCtl c 31 31 = 1
    let start (d : Dev) (state : Nat) : Dev := if used && r.fragFirst then d.fragCreate c g r key state else d
    let p := { p with parse := r }
    match resolve g r with
    | .drop n => (start d 3).dropPass p n
    | .service cls => (start d 1).finishPass c { p with parse := { r with svc := some cls } } bytes up
    | .classify => (start d 1).lookups c p bytes up
    | .later =>
      let d := if used && up.frag && (d.fragFind c key).isSome then
          (d.setCourse c fun s => { s with frags := s.frags.filter fun e => e.key ≠ key }).raise (srcCourse c) 0x2004
        else d
      match d.fragLookup c used r key with
      | .drop n => d.dropPass p n
      | .hold => d.holdFrag c p key bytes
      | .go none => d.lookups c p bytes up
      | .go (some l) =>
        let off := bits (word g.hdr 3) 31 25
        let r := { r with fv := patch r.fv off l, written := r.written ||| (2 ^ l.length - 1) <<< off, inherit_ := true }
        d.lookups c { p with parse := r } bytes up

/-- The root of a first pass (R112). -/
def rootOf (d : Dev) (x : Desc) : Nat :=
  let h := (d.slot x.tag).graph.hdr
  if x.admIf < 48 then bits (word h 0) 9 0 else bits (word h 1) 9 0

/-- R300: course credit is withheld while either half is RED or BLACK. -/
def creditHeld (d : Dev) : Bool := d.west.level ≥ 2 || d.east.level ≥ 2

/-- R21: a slot of a course takes the first packet in staging, else, unless credit is withheld, the first recirculated pass,
else the first injected packet. -/
def coursePass (d : Dev) (c : Nat) (up : Upsets) : Dev :=
  if !(d.servingCourses.contains c) || d.faults.isolated.contains (srcCourse c) then d else
  match Map.getD d.staging c [] with
  | s :: rest =>
    let d := { d with staging := Map.putD d.staging c [] rest }
    d.takePass c { desc := s.desc } s.bytes (d.rootOf s.desc) true up
  | [] =>
    if d.creditHeld then d else
    match (d.course c).recirc with
    | r :: rest =>
      let d := d.setCourse c fun s => { s with recirc := rest }
      let p : Pass := { desc := r.desc, chained := true }
      d.takePass c p (d.passBytes p) (if r.released then d.rootOf r.desc else r.node) r.released up
    | [] =>
      match (d.course c).inject with
      | [] => d
      | i :: rest =>
        let d := d.setCourse c fun s => { s with inject := rest }
        let x := if i.ret then i.desc else { i.desc with tag := d.epochs.curTag }
        let p : Pass := { desc := x, chained := true }
        let root := bits (word (d.slot x.tag).graph.hdr 1) 19 10
        d.takePass c p (d.passBytes p) (if i.node = 0 then root else i.node) false up

/-! ### Context misses answered (R197 to R200) -/

/-- What a read of a chain of contexts comes to. -/
inductive Answer where
  | found (idx : Nat)
  | none (pend : Bool)
  | tooLong
  | error
deriving DecidableEq, Repr

/-- A parked pass rejoins with its answer; `lead` is the packet whose lookup read the chain. -/
def rejoin (d : Dev) (c : Nat) (p : Pass) (a : Answer) (lead : Bool) (up : Upsets) : Dev :=
  let bytes := d.passBytes p
  let base := crsBase c
  match a with
  | .found i =>
    let (d, look) := d.foundCtx p.desc i p.look
    d.automataStage c { p with look := look } bytes up
  | .none pend =>
    let o := if lead || !pend then CtxOut.noneFirst else CtxOut.nonePend
    (d.bump (base + 0xC98)).automataStage c { p with look := { p.look with ctxOut := o } } bytes up
  | .tooLong => d.automataStage c { p with look := { p.look with ctxOut := .chainLong } } bytes up
  | .error => d.automataStage c { p with look := { p.look with ctxOut := .error } } bytes up

/-- The keeper answers the key of the pass at a place of a course's miss queue: `bad` is an uncorrectable store read.
Every packet parked for the key, in any course, rejoins in order of admission sequence number. -/
def missReturn (d : Dev) (c i : Nat) (bad : Bool) (ups : List Upsets) : Dev :=
  match ((d.course c).missq[i]?).bind fun p => p.look.key.map fun k => (p, k) with
  | none => d
  | some (p0, tpl, key) =>
    let home := d.ctxHome tpl key
    let n := home % 16
    let (o, reads) := d.walkChain tpl key d.chainMax home
    let poisoned := (d.chainSlots reads home).any d.ctxBad
    let d := d.bump (crsBase c + 0xC90) reads
    let life := d.fld (crsBase n + 0xC00) 9 0 * 1000
    let (d, a) : Dev × Answer :=
      if bad || poisoned then
        (if poisoned then d else d.storeBad home, .error)
      else match o with
      | .found j => (d.insertWay n (cacheSet home) (.line j (d.ctx j) none), .found j)
      | .tooLong => (d.raiseWear (srcCourse (d.physical n)) 0x4002, .tooLong)
      | .ended =>
        if life = 0 then (d, .none false)
        else (d.insertWay n (cacheSet home) (.pend tpl key (d.now + life)), .none true)
    let mine (p : Pass) : Bool := p.look.key = some (tpl, key) && p.look.ctxOut = .notMade
    let all := (List.range 18).flatMap fun k => ((d.course k).missq.filter mine).map fun p => (k, p)
    let sorted := all.foldr (fun e r =>
      (r.takeWhile fun o => o.2.desc.aseq < e.2.desc.aseq) ++ e :: (r.dropWhile fun o => o.2.desc.aseq < e.2.desc.aseq)) []
    let d := (List.range 18).foldl (fun d k =>
      if (d.course k).missq.any mine then d.setCourse k fun s => { s with missq := s.missq.filter fun p => !mine p } else d) d
    sorted.zipIdx.foldl (fun d e => d.rejoin e.1.1 e.1.2 a (e.1.2 = p0) (ups.getD e.2 noUpset)) d

/-! ### Scans (R171, R176) -/

/-- A running scan ends; an INLINE packet rejoins its pass, and frees that waited for the flow are made. -/
def scanComplete (d : Dev) (u i : Nat) (upset : ScanUpset) (fetches : Nat) (up : Upsets) : Dev :=
  match (d.au u).running[i]? with
  | none => d
  | some s =>
    let (d, o) := d.scanEnd u s upset fetches
    let d := (d.setAu u fun a => { a with running := a.running.eraseIdx i }).freesDue
    if !s.inline then d else
    let p := { s.pass with look := { s.pass.look with auto := o } }
    d.finishPass p.desc.course p (d.passBytes p) up

/-- R176: a unit that leaves service gives its waiting INLINE packets OVERLOAD_ACT under 0x34, and skips its TAP scans. -/
def auLeaves (d : Dev) (u : Nat) : Dev :=
  let q := (d.au u).queue
  let d := d.setAu u fun a => { a with queue := [] }
  q.foldl (fun d s =>
    if s.inline then
      let (d, o) := d.overload u (d.patternSet s.pass.desc.tag (bits s.sel 7 0)) s.pass.look 0x34
      let p := { s.pass with look := { s.pass.look with auto := o } }
      d.finishPass p.desc.course p (d.passBytes p) noUpset
    else d.tapSkip u s.pass.look) d

/-! ### The window of R107 -/

/-- A multiple of 1,000 ms of the interval view has passed since the count of a course last restarted. -/
def mortarWindow (d : Dev) (c : Nat) : Dev :=
  let s := d.course c
  if d.now / 1000000000 = s.missAt then d
  else d.setCourse c fun s => { s with missWin := 0, missOut := false, missAt := d.now / 1000000000 }

end Dev

/-- COURSE_PASS (R18): physical course, and what the pass meets in error. -/
def execCoursePass (course : Fin 18) (up : Upsets) (s : State) : Result := s.act (·.coursePass course up)

/-- CONTEXT_MISS_RETURN (R197): physical course, place in its miss queue, whether the store read is uncorrectable, and what
each packet that rejoins meets in error. -/
def execContextMissReturn (course : Fin 18) (i : Nat) (bad : Bool) (ups : List Upsets) (s : State) : Result :=
  s.act (·.missReturn course i bad ups)

/-- SCAN_COMPLETE (R171): unit, place among its running scans, what the scan met in error, the records fetched beyond the
cache, and what the packet meets after it. -/
def execScanComplete (unit : Fin 16) (i : Nat) (upset : ScanUpset) (fetches : Nat) (up : Upsets) (s : State) : Result :=
  s.act (·.scanComplete unit i upset fetches up)

/-- MORTAR_WINDOW_END (R107). -/
def execMortarWindowEnd (course : Fin 18) (s : State) : Result := s.act (·.mortarWindow course)

end Sys2Proof.Machine
end

