-- ==== Sys2Proof/Machine/Drains.lean ====
section
/-! DEFINITION. Power domains (R425 to R434): what is in flight against a domain, how a drain begins, ends and is cancelled, and
what a domain loses. -/

namespace Sys2Proof.Machine

namespace Dev

/-- That state of the caller changed. -/
def setPower (d : Dev) (f : Power → Power) : Dev := { d with power := f d.power }

/-- A course's packets that wait: staged frames, and the hold, miss, recirculation and injection queues. -/
def courseWaits (d : Dev) (c : Nat) : Nat :=
  let s := d.course c
  (Map.getD d.staging c []).length + s.hold.length + s.missq.length + s.recirc.length + s.inject.length

/-- Interfaces of a lane die. -/
def dieIfs (n : Nat) : List Nat := ifaces.filter fun i => dieOf i = n

/-- INFLIGHT of R441: work in progress against a domain. -/
def inflight (d : Dev) (k : Nat) : Nat :=
  if k = 1 then (d.chans.filter fun c => c.2.inj.isSome || c.2.recs.isSome).length + (d.mbxs.filter fun m => m.2.st = 1 || m.2.st = 2).length
  else if 4 ≤ k && k < 22 then d.courseWaits (k - 4)
  else if 22 ≤ k && k < 38 then (d.au (k - 22)).running.length
  else if 38 ≤ k && k < 102 then ((d.set (k - 38)).engines.filter fun e => e.2.item.isSome).length
  else if k = 104 || k = 105 then (d.half (k - 104)).chains.length
  else if 106 ≤ k && k < 110 then ((dieIfs (k - 106)).filter fun i => Map.has d.sched.sending i).length
  else 0

/-- DRAIN_MAX in ns. -/
def drainMax (d : Dev) : Nat := max 1 (d.fld 0x50000 19 10) * 1000

/-- Step 1 of R431 for a domain that is ON; a second request joins the drain, and OFF wins over RETAIN (R434). -/
def startDrain (d : Dev) (k dest max : Nat) : Dev :=
  match d.dom k with
  | .on =>
    let d := (d.setDom k .draining).setPower fun p => { p with drains := Map.put p.drains k ⟨dest, d.now, max⟩ }
    let d := d.stagingMeets k
    if 38 ≤ k && k < 102 then (List.range 128).foldl (fun d q => d.refuseIfDown (55296 + 128 * (k - 38) + q)) d
    else if 22 ≤ k && k < 38 then d.auLeaves (k - 22)
    else d
  | .draining =>
    d.setPower fun p => { p with drains := Map.adjust p.drains k fun r => { r with dest := Nat.max r.dest dest, max := min r.max max } }
  | .retain => if dest = 3 then d.setDom k .off else d
  | .off => d

/-- The packets that wait in a course, dropped under a reason. -/
def endCourse (d : Dev) (c r : Nat) : Dev :=
  let s := d.course c
  let staged := Map.getD d.staging c []
  let d := ({ d with staging := Map.erase d.staging c } : Dev).setCourse c fun s =>
    { s with hold := [], missq := [], recirc := [], inject := [] }
  let d := staged.foldl (fun d x => d.endCopy x.desc (.dropped r)) d
  let d := s.hold.foldl (fun d h => d.dropPass h.pass r) d
  let d := s.missq.foldl (fun d p => d.dropPass p r) d
  let xs := s.recirc.map (·.desc) ++ s.inject.map (·.desc)
  xs.foldl (fun d x => d.dropPass { desc := x, chained := true } r) d

/-- The scans that run in a unit: INLINE packets take OVERLOAD_ACT under 0x34 (R176). -/
def endUnit (d : Dev) (u : Nat) : Dev :=
  let l := (d.au u).running
  let d := (d.setAu u fun a => { a with running := [] }).freesDue
  l.foldl (fun d s =>
    if s.inline then
      let (d, o) := d.overload u (d.patternSet s.pass.desc.tag (bits s.sel 7 0)) s.pass.look 0x34
      let p := { s.pass with look := { s.pass.look with auto := o } }
      d.finishPass p.desc.course p (d.passBytes p) noUpset
    else d.tapSkip u s.pass.look) d

/-- R309: every copy whose chain lies in a half ended under 0xA1, and the half with every in-service brick free. -/
def endHalf (d : Dev) (h : Nat) : Dev :=
  let here (x : Desc) : Bool := halfAddr x.chain = h
  let ifs := ifaces.filter fun i => (Map.get? d.sched.sending i).any fun w => here w.desc
  let d := ifs.foldl (fun d i => d.cutSending i) d
  let ws := d.sched.queues.flatMap fun e => if halfOfQueue e.1 = h then e.2.items else []
  let d := d.sched.queues.foldl (fun d e =>
    if halfOfQueue e.1 = h then d.setQueue e.1 fun x => { x with items := [], awake := false } else d) d
  let xs := (d.pair.xq ++ d.pair.flying.map (·.2)).filter fun w => here w.desc
  let d := d.setPair fun p => { p with xq := p.xq.filter fun w => !here w.desc, flying := p.flying.filter fun w => !here w.2.desc }
  let hs := (d.sched.held.map (·.2)).filter fun w => here w.desc
  let d := { d with sched := { d.sched with held := d.sched.held.filter fun w => !here w.2.desc } }
  let d := (ws ++ xs ++ hs).foldl (fun d w => d.endWaiting w 0xA1) d
  let d := d.setHalf h fun x =>
    let gone := x.retiring.foldl addOnce x.retired
    { x with chains := [], orphans := [], fresh := 0, retired := gone, retiring := [],
             returned := ((List.range (min gone.length 13312)).map (655360 + ·)).filter fun b => !gone.contains b }
  d.judge h

/-- R494: the mailboxes as SYS drains. -/
def mbxDown (d : Dev) (m : Nat) : Dev :=
  let x := d.mbx m
  let d := match x.run with
    | some r => d.complete m r 6 0 0 [] false
    | none => if x.st = 1 then d.complete m (d.readReq m) 6 0 0 [] false else d
  let d := (d.mbx m).tickets.foldl (fun d t => d.closeTicket (m, t.num) 6 0 t.phase []) d
  let lost := (d.mbx m).held.length
  let d := { d with wear := { d.wear with events := d.wear.events ++ (if lost = 0 then [] else [[m, lost]]) } }
  (d.setMbx m fun x => { x with st := 0, rsp := [], tickets := [], held := [], passes := 0, late := false, stalled := false }).mbxRegs m

/-- A DMA channel without power: its registers at reset. -/
def chanDown (d : Dev) (c : Nat) : Dev :=
  ([0x00, 0x04, 0x08, 0x0C, 0x10, 0x14, 0x18, 0x1C, 0x20, 0x24, 0x28, 0x2C, 0x30, 0x34, 0x38, 0x3C, 0x40].foldl
    (fun (d : Dev) o => d.setReg (dmaBase c + o) (resetOf (dmaBase c + o))) d).setChan c fun _ => {}

/-- R674: the debug level falls to `n`. At 0 and 1 what debug has halted goes on, and every breakpoint is cleared; at 2 those with
MID 1 are. -/
def lowerDebug (d : Dev) (n : Nat) : Dev :=
  let d := d.setFld 0x220 31 30 n
  if n > 1 then
    { d with dbg := { d.dbg with bps := d.dbg.bps.filter fun b => 0x40 ≤ b.1 || !b.2.toNat.testBit 30 } }
  else
    let go (e : Engine) : Engine :=
      { e with halted := false, intr := Map.erase e.intr 1, dbg := if e.halted && e.item.isSome then 2 else 0 }
    { d with sets := d.sets.map fun s => (s.1, { s.2 with engines := s.2.engines.map fun e => (e.1, go e.2) }),
             stw := { d.stw with halted := [], swap := d.stw.swap.map fun (w : Swap) => { w with halt := false } },
             dbg := { d.dbg with bps := [] } }

/-- R609, R610: the host queue lost with SYS; its MAJOR and CRITICAL records go to the event log, and RECOVERIES restart. -/
def queueDown (d : Dev) : Dev :=
  let worst := d.faults.queue.filter fun (r : Rec) => 2 ≤ r.sev
  let d := { d with wear := { d.wear with events := d.wear.events ++ worst.map fun (r : Rec) => [r.seq, r.code, r.src] } }
  { d with faults := { d.faults with queue := [], srcs := d.faults.srcs.map fun e => (e.1, { e.2 with recoveries := 0 }), handling := d.faults.handling.filter fun (h : Handling) => h.react ≠ 0, nextSeq := 1 } }

/-- SYS without power: its mailboxes and channels are idle, the PCIe link is down, and the debug port is locked. -/
def sysDown (d : Dev) : Dev :=
  let d := (List.range 8).foldl mbxDown d
  let d := (List.range 64).foldl chanDown (((d.setFld 0x208 31 24 0).clrBit 0x208 0).stopAll)
  let d := (d.lowerDebug 0).queueDown
  { d with unmasked := [], msixPend := [], dbg := { d.dbg with nonces := [], verify := none, ir := 2, drives := false, started := false } }

/-- Step 3 of R431, item by item (R432): the work in progress ended, and how many items. -/
def endWork (d : Dev) (k : Nat) : Dev × Nat :=
  let n := d.inflight k
  let d :=
    if 4 ≤ k && k < 22 then d.endCourse (k - 4) 0xA1
    else if 22 ≤ k && k < 38 then d.endUnit (k - 22)
    else if 38 ≤ k && k < 102 then
      (List.range 9).foldl (fun d p => if (d.eng (k - 38) p).item.isSome then d.killItem (k - 38) p 0x20 else d) d
    else if k = 104 || k = 105 then d.endHalf (k - 104)
    else if 106 ≤ k && k < 110 then (dieIfs (k - 106)).foldl (fun d i => d.cutSending i) d
    else d
  (d, n)

/-- What a domain loses as its power switches open (R425, R433). -/
def losePower (d : Dev) (k dest : Nat) : Dev :=
  let d := if 4 ≤ k && k < 22 then d.clrBit (0x100010 + 0x8000 * (k - 4)) 31 else d
  let fresh (d : Dev) (m : Nat) : Dev := { d with mems := Map.upd d.mems m {} fun x => { x with hints := [], repeats := [] } }
  if k = 1 then fresh d.sysDown 18
  else if 106 ≤ k && k < 110 then
    fresh ((((dieIfs (k - 106)).foldl (fun d i => d.leaveService i) d).fjLane (2 * (k - 106)) false).fjLane (2 * (k - 106) + 1) false) (k - 87)
  else if dest ≠ 3 then d
  else if 4 ≤ k && k < 22 then d.setCourse (k - 4) fun _ => {}
  else if 22 ≤ k && k < 38 then d.setAu (k - 22) fun a => { a with running := [], queue := [], spend := 0, inlineNow := 0, inlinePrev := 0 }
  else if 38 ≤ k && k < 102 then d.setSet (k - 38) fun x => { x with mem := [], poison := [], timers := [], lastCls := [] }
  else d

/-- The tickets of a domain's PWR_DOMAIN_SET closed with the state reached and the items ended (R523). -/
def closeAsks (d : Dev) (k fails : Nat) : Dev :=
  let mine := d.power.asks.filter fun a => a.2.2 = k
  let d := d.setPower fun p => { p with asks := p.asks.filter fun a => a.2.2 ≠ k }
  let code := match d.dom k with
    | .on => 0
    | .retain => 1
    | .draining => 2
    | .off => 3
  mine.foldl (fun d a => d.closeTicket (a.1, a.2.1) 0 0 2 [code, fails]) d

/-- Steps 3 to 6 of R431: a drain ends. -/
def endDrain (d : Dev) (k : Nat) : Dev :=
  match Map.get? d.power.drains k with
  | none => d
  | some r =>
    let (d, n) := d.endWork k
    let d := if n = 0 then d else (d.bump 0x50308 n).event 0x5001C 3
    let d := (d.bump 0x50300).setPower fun p => { p with drains := Map.erase p.drains k }
    ((d.losePower k r.dest).setDom k (if r.dest = 1 then .retain else .off)).closeAsks k n

/-- A request for ON during step 2: the drain is cancelled (R434). -/
def cancelDrain (d : Dev) (k : Nat) : Dev :=
  if d.dom k = .draining then
    (((d.setPower fun p => { p with drains := Map.erase p.drains k }).setDom k .on).closeAsks k 0)
  else d

/-- R433: what a domain that comes ON does at once: timers past their deadline fire. -/
def comeOn (d : Dev) (k : Nat) : Dev :=
  let d := d.setDom k .on
  if 38 ≤ k && k < 102 then
    (((d.set (k - 38)).timers.filter fun t => t.2.deadline ≤ d.now).foldl (fun d t => d.timerFire (k - 38) t.1) d).closeAsks k 0
  else d.closeAsks k 0

end Dev

end Sys2Proof.Machine
end

