-- ==== Sys2Proof/Machine/Power.lean ====
section
/-! DEFINITION. The caller (chapter 14): heat, the power limit, VDD_CORE, grants, device states, Dormant and the return order. -/

namespace Sys2Proof.Machine

/-- R424: the tier cap of a class's grant. -/
def grantCap (cls tier : Nat) : Nat :=
  let row : List Nat := match cls with
    | 0 => [100, 100, 100, 50]
    | 1 => [100, 100, 100, 100]
    | 2 => [100, 100, 50, 25]
    | 3 => [100, 100, 50, 25]
    | 4 => [100, 75, 50, 25]
    | _ => [100, 50, 25, 0]
  row.getD tier 0

/-- R414: the lower bound of a tier. -/
def tierFrom : Nat → Int
  | 1 => 85
  | 2 => 95
  | 3 => 102
  | _ => 0

/-- R414: the tier that Tj reaches. -/
def tierOf (tj : Int) : Nat := if tj ≥ 102 then 3 else if tj ≥ 95 then 2 else if tj ≥ 85 then 1 else 0

/-- R414: the tier after a reading. -/
def nextTier (tier : Nat) (tj : Int) : Nat :=
  if tierOf tj > tier then tierOf tj
  else if tier > 0 && tj ≤ tierFrom tier - 2 then tier - 1
  else tier

/-- Twice the median of a die's eight readings: the sum of the two in the middle. -/
def twiceMedian (l : List Int) : Int :=
  let s := l.foldr (fun x r => r.takeWhile (· < x) ++ x :: r.dropWhile (· < x)) []
  s.getD 3 0 + s.getD 4 0

/-- R413: whether a reading is excluded by its die's readings. -/
def badReading (l : List Int) (x : Int) : Bool :=
  let m := twiceMedian l
  x < 0 || x > 150 || 2 * x - m > 20 || m - 2 * x > 20

/-- A temperature in 8 bits. -/
def degrees (t : Int) : Nat := (clampInt 0 255 t).toNat

namespace Dev

/-- Whether a device state change is in progress. -/
def changing (d : Dev) : Bool := d.flag 0x50018 27

/-- SHED of SCH_STATUS as tier and limit ask for it (R422). -/
def setShed (d : Dev) : Dev :=
  let on := d.power.tier = 3 || d.power.limShed
  let was := d.sched.shed
  let d := ({ d with sched := { d.sched with shed := on } } : Dev).setFld 0x300004 0 0 (b2n on)
  if on && !was then d.event 0x300008 4 else d

/-! ### Grants (R423, R424) -/

/-- MIN of a class. -/
def grantMin (d : Dev) (c : Nat) : Nat := d.fld (0x50040 + 4 * c) 7 0

/-- The grants in force worked out. -/
def setGrants (d : Dev) : Dev :=
  (List.range 6).foldl (fun d c =>
    d.setFld (0x50040 + 4 * c) 23 16 (min (grantCap c d.power.tier) (max (d.grantMin c) (d.power.grants.getD c 100)))) d

/-- cut_grant: whether a grant above its MIN was found. -/
def cutGrant (d : Dev) : Dev × Bool :=
  match [5, 4, 3, 2, 1, 0].find? fun c => d.power.grants.getD c 100 > d.grantMin c with
  | none => (d, false)
  | some c => (d.setPower fun p => { p with grants := p.grants.set c (p.grants.getD c 100 - 10) }, true)

/-- restore_grant: the last class in the order that lies below 100. -/
def restoreGrant (d : Dev) : Dev :=
  match [0, 1, 2, 3, 4, 5].find? fun c => d.power.grants.getD c 100 < 100 with
  | none => d
  | some c => d.setPower fun p => { p with grants := p.grants.set c (min 100 (p.grants.getD c 100 + 10)) }

/-! ### VDD_CORE (R418, R419) -/

/-- TARGET of PWR_VSTATUS. -/
def vTarget (d : Dev) : Nat := d.fld 0x50008 29 20

/-- Whether a voltage command has not settled. -/
def vMoving (d : Dev) : Bool := d.flag 0x50008 31

/-- avs_target: a Target Rail Voltage command; a fall brings the guarantee down at once. -/
def avsTarget (d : Dev) (v : Nat) : Dev :=
  if v = d.vTarget then d
  else
    let d := ({ d with out := d.out ++ [.avs 0 v] } : Dev).bump 0x50310
    let d := ((d.setFld 0x50008 29 20 v).setBit 0x50008 31).setPower fun p => { p with cmdAt := d.now, late := false }
    if v ≤ d.fld 0x50008 9 0 then d.setFld 0x50008 9 0 v else d

/-- Fault 0x9001. -/
def avsFault (d : Dev) (inj : Bool) : Dev := (d.raiseAs 0 0x9001 [] inj false).event 0x5001C 4

/-- R418: a transaction answered well or not; an armed INJ_AVS spoils three responses (R441). Whether it was good. -/
def avsAnswer (d : Dev) (ok read : Bool) : Dev × Bool :=
  let inj := d.flag 0x50020 1
  if ok && !inj then
    let d := (d.setBit 0x50008 30).setPower fun p => { p with avsFails := 0, avsDown := p.avsDown && !read }
    (if read && !d.vMoving then d.setFld 0x50008 9 0 d.vTarget else d, true)
  else
    let d := (d.clrBit 0x50008 30).setPower fun p => { p with avsFails := p.avsFails + 1 }
    if d.power.avsFails < 3 then (d, false)
    else
      let d := if inj then d.clrBit 0x50020 1 else d
      (((d.avsFault inj).setFld 0x50008 9 0 680).setPower fun p => { p with avsFails := 0, avsDown := true }, false)

/-- R419: the rail has settled. -/
def railSettled (d : Dev) : Dev :=
  if !d.vMoving then d
  else
    let d := d.clrBit 0x50008 31
    if d.power.avsDown then d else d.setFld 0x50008 9 0 d.vTarget

/-- R419: 20 µs after a command without settling. -/
def railLate (d : Dev) : Dev :=
  if d.vMoving && !d.power.late && d.now ≥ d.power.cmdAt + 20000 then
    (d.setPower fun p => { p with late := true }).avsFault false
  else d

/-! ### The decision (R416, R420 to R422) -/

/-- The limit in force in W (R416). -/
def powerLimit (d : Dev) : Nat :=
  let or720 (n : Nat) : Nat := if n = 0 then 720 else min 720 n
  min (or720 (d.fld 0x5000C 9 0)) (or720 (d.fld 0x5000C 25 16))

/-- The power measure's sample of a decision, kept for 100 µs, and POWER. -/
def samplePower (d : Dev) (mv : Nat) : Dev :=
  let w := mv * d.power.amps + d.fld 0x50010 9 0 * 1000000
  let l := (w :: d.power.samples).take 10
  let sum := l.foldl (· + ·) 0
  let avg := sum / l.length
  let whole := avg / 1000000
  let up := sum % (1000000 * l.length) ≠ 0 && Config.powerRoundsUp avg
  ((d.setPower fun p => { p with samples := l }).setFld 0x50010 21 12 (min 1023 (whole + b2n up))).setFld 0x50008 19 10 mv

/-- head in µW, times the number of samples (R420). -/
def head (d : Dev) : Int :=
  let l := d.power.samples
  ((d.powerLimit : Int) - d.fld 0x50000 7 0) * 1000000 * l.length - (l.foldl (· + ·) 0 : Nat)

/-- R420: whether a course raises a request at a decision; its context reads since the last are noted. -/
def raiseAsked (d : Dev) : Dev × Bool :=
  let cs := List.range 18
  let reads (c : Nat) : Nat := d.cnt (crsBase c + 0xC90)
  let asks (c : Nat) : Bool :=
    (d.course c).recirc.length + (d.course c).inject.length > 64 || reads c - Map.getD d.power.reads c 0 > 3125
  (d.setPower fun p => { p with reads := cs.foldl (fun m c => Map.putD m c 0 (reads c)) [] }, cs.any asks)

/-- Whether the caller holds 680 mV: in Keep and Dormant, unless a return to Full or Trim is in progress (R420, R437). -/
def holds680 (d : Dev) : Bool := 2 ≤ d.pwrState && !(d.changing && d.fld 0x50018 29 28 < 2)

/-- cap of R420. -/
def vCap (d : Dev) : Nat :=
  let vmax := clampNat 680 820 (d.fld 0x50004 29 20)
  let vrest := clampNat 680 820 (d.fld 0x50004 19 10)
  let c := if d.power.tier ≤ 1 then vmax else if d.power.tier = 2 then min vrest vmax else 680
  let c := if d.pwrState = 1 then min c (clampNat 680 820 (d.fld 0x50004 9 0)) else c
  if d.flag 0x50018 25 && d.flag 0x50000 20 then 680 else c

/-- R417: every grant at its MIN. -/
def brakeGrants (d : Dev) : Dev := d.setPower fun p => { p with grants := (List.range 6).map d.grantMin }

/-- LIMIT_UNMET and the limit's SHED as head now stands (R422). -/
def judgeLimit (d : Dev) : Dev :=
  let n : Int := d.power.samples.length
  let h := d.head
  let d := d.setPower fun p =>
    { p with overAt := if h < 0 then some (p.overAt.getD d.now) else none,
             room := if h > 10000000 * n then some (p.room.getD d.now) else none }
  let atMin := d.vTarget = 680 && (List.range 6).all fun c => d.fld (0x50040 + 4 * c) 23 16 ≤ d.grantMin c
  let d := if h ≥ 0 || !atMin then d.clrBit 0x50018 24 else d
  let d := if d.flag 0x50018 24 && d.flag 0x50000 21 then (d.setPower fun p => { p with limShed := true }).setShed else d
  if d.power.limShed && d.power.room.any (fun t => d.now ≥ t + 1000000) then
    (d.setPower fun p => { p with limShed := false }).setShed
  else d

/-- R420: the caller's decision; `mv` is the monitor's reading of VDD_CORE. -/
def decide_ (d : Dev) (mv : Nat) : Dev :=
  let d := (d.samplePower mv).judgeLimit
  let (d, asked) := d.raiseAsked
  let quiet := d.now - d.power.raised
  let d := if asked then d.setPower fun p => { p with raised := d.now } else d
  let v := d.vTarget
  let cap := d.vCap
  let rest := min (clampNat 680 820 (d.fld 0x50004 19 10)) cap
  let n : Int := d.power.samples.length
  let h := d.head
  let want : Nat :=
    if asked && h ≥ 0 then v + 10
    else if v < rest && h > 10000000 * n then v + 10
    else if v > rest && !asked && quiet ≥ 100000 then v - 10
    else v
  let (d, want) : Dev × Nat :=
    if h < 0 then
      match d.cutGrant with
      | (d, true) => (d, min want v)
      | (d, false) => (d, v - 10)
    else if h > 10000000 * n then (d.restoreGrant, want)
    else (d, want)
  let d := if d.flag 0x50018 25 && d.flag 0x50000 20 then d.brakeGrants else d
  let want := if d.vMoving || d.power.avsDown then min want v else want
  let d := d.setGrants
  d.avsTarget (if d.holds680 then 680 else max 680 (min want cap))

/-- R422: the limit unmet for 1 ms at the floor with every grant at its MIN. -/
def limitUnmet (d : Dev) : Dev :=
  let low (c : Nat) : Bool := d.fld (0x50040 + 4 * c) 23 16 ≤ d.grantMin c
  if d.vTarget = 680 && (List.range 6).all low && d.power.overAt.any (fun t => d.now ≥ t + 1000000) && !d.flag 0x50018 24 then
    let d := ((d.setBit 0x50018 24).raise 0 0x9004).event 0x5001C 2
    if d.flag 0x50000 21 then (d.setPower fun p => { p with limShed := true }).setShed else d
  else d

/-- R417: PWR_BRAKE_N changes. -/
def brake (d : Dev) (low : Bool) : Dev :=
  let was := d.flag 0x50018 25
  let d := d.setFld 0x50018 25 25 (b2n low)
  let d := if low && !was then d.event 0x5001C 7 else d
  if low && d.flag 0x50000 20 then (d.brakeGrants.setGrants).avsTarget 680 else d

/-! ### Heat (R413 to R415) -/

/-- Whether a domain is kept through an emergency drain: AON alone. The order puts completion records before SYS. -/
def emergencyOrder : List Nat :=
  (List.range 98).map (· + 4) ++ [102, 103, 104, 105, 110, 111] ++ [106, 107, 108, 109] ++ [1, 2, 3]

/-- R415, R656: what AON retains of the faults raised before a reset. -/
def keepFaults (d : Dev) : Dev :=
  let x := d.faults
  { d with faults := { x with kept := x.kept ++ x.pend.map fun (p : Pend) => { p with requeued := true },
                              again := x.again ++ x.queue.map fun (r : Rec) => { r with requeued := true },
                              pend := [], queue := [] } }

/-- R415, R645: the emergency drain, with the snapshot of R56 at the next LFO edge. -/
def emergency (d : Dev) : Dev :=
  let d := ((d.raise 0 0x9012).goMute 3).keepFaults
  let d := emergencyOrder.foldl (fun d k => ((d.startDrain k 3 0).endDrain k).setDom k .off) d
  ((d.clrBit 0x50018 27).setPower fun p => { p with tripLow := true, back := [], change := none, asks := [] }).setTime fun t =>
    { t with snapAsked := t.running }

/-- The milliseconds spent at T3 (R441). -/
def countT3 (d : Dev) : Dev :=
  match d.power.t3At with
  | none => d
  | some t =>
    let ns := d.power.t3Ns + (d.now - t)
    (d.bump 0x50318 (ns / 1000000)).setPower fun p => { p with t3At := some d.now, t3Ns := ns % 1000000 }

/-- A tier taken (R414). -/
def setTier (d : Dev) (t : Nat) : Dev :=
  if t = d.power.tier then d
  else
    let d := ((d.setPower fun p => { p with tier := t, t3At := if t = 3 then some d.now else none }).setFld 0x50014 7 6 t).event 0x5001C 0
    let d := if t = 3 then (d.raise 0 0x9010).event 0x5001C 1 else d
    d.setShed.setGrants

/-- R413 to R415: the sixteen sensors read, West first. -/
def readSensors (d : Dev) (all : List Int) : Dev :=
  let inj := d.flag 0x50020 0
  let d := if inj then d.clrBit 0x50020 0 else d
  let first := ((List.range 16).find? fun i => !d.power.shut.contains i).getD 0
  let die (h : Nat) : List Int := (all.drop (8 * h)).take 8
  let bad (i : Nat) : Bool := badReading (die (i / 8)) (all.getD i 0) || (inj && i = first)
  let shut := (List.range 16).filter bad
  let top (h : Nat) : Int :=
    let ok := (List.range 8).filter fun i => !bad (8 * h + i)
    if ok.isEmpty then 105 else ok.foldl (fun m i => max m (all.getD (8 * h + i) 0)) 0
  let tj := max (top 0) (top 1)
  let new := shut.filter fun i => !d.power.shut.contains i
  let d := new.foldl (fun (d : Dev) i => (d.raiseAs 0 0x9013 [] (inj && i = first) false).event 0x5001C 8) d
  let was := d.power.tj
  let d := d.setPower fun p =>
    { p with shut := shut, tj := tj, hot := if tj ≥ 108 then some (p.hot.getD (d.now, false)) else none }
  let d := d.heatUp (top 0) (top 1)
  let d := (d.setFld 0x50014 31 24 (degrees tj)).setFld 0x50014 23 16 (degrees (top 0))
  let d := ((d.setFld 0x50014 15 8 (degrees (top 1))).setFld 0x50014 5 0 shut.length).countT3
  let d := d.setTier (nextTier d.power.tier tj)
  if tj ≥ 115 && was < 115 && d.pwrState ≠ 3 then d.emergency else d

/-- R415: Tj at 108 °C or above for 100 µs. -/
def hotLong (d : Dev) : Dev :=
  match d.power.hot with
  | some (t, false) =>
    if d.now < t + 100000 || d.pwrState = 3 then d
    else (d.setPower fun p => { p with hot := some (t, true) }).raise 0 0x9011
  | _ => d

/-! ### Device states (R428 to R430, R437, R438) -/

/-- REQ of a domain. -/
def domReq (d : Dev) (k : Nat) : Nat := d.fld (0x50100 + 4 * k) 29 28

/-- Set and automata domains. -/
def unitDoms : List Nat := (List.range 80).map (· + 22)

/-- Modified lines of every slice written back (R438). -/
def writeBackAll (d : Dev) : Dev :=
  d.slices.foldl (fun d s => s.2.sets.foldl (fun d e =>
    let d := e.2.foldl (fun d w => match w with
      | .line i c (some _) => d.storeCtx i c
      | .line _ _ none => d
      | .pend _ _ _ => d) d
    d.setWays s.1 e.1 fun ws => ws.map fun w => match w with
      | .line i c _ => .line i c none
      | .pend t k u => .pend t k u) d) d

/-- A device state reached. -/
def reached (d : Dev) (st : Nat) : Dev :=
  let t := d.power.change
  let d := ((d.setFld 0x50018 31 30 st).clrBit 0x50018 27).setPower fun p => { p with change := none }
  d.closeIf t 0 0 2 [st]

/-- The next part of a change, as its drains, returns and snapshot allow (R436, R438). -/
def advance (d : Dev) : Dev :=
  let target := d.fld 0x50018 29 28
  if !d.changing || !d.power.drains.isEmpty || !d.power.back.isEmpty then d
  else if target ≠ 3 then
    if d.pwrState = 3 then ((d.reached 2).event 0x5001C 5).unmute 2 else d.reached target
  else if d.isOn 1 then
    if d.time.running then d.setTime fun t => { t with snapAsked := true } else d.startDrain 1 3 d.drainMax
  else
    let d := ((d.setDom 2 .retain).setDom 3 .retain).setPower fun p => { p with armed := true }
    (d.setFld 0x50018 31 30 3).clrBit 0x50018 27

/-- A change begun. -/
def beginChange (d : Dev) (target : Nat) (t : Option (Nat × Nat)) : Dev :=
  ((d.setFld 0x50018 29 28 target).setBit 0x50018 27).setPower fun p => { p with change := t }

/-- Domains that return, from step 1 of R437. -/
def startReturn (d : Dev) (l : List Nat) : Dev :=
  d.setPower fun p => { p with back := l, backStep := if l.isEmpty then 0 else 1, backAt := d.now }

/-- Entry to Full or Trim. -/
def enterRun (d : Dev) (target : Nat) (t : Option (Nat × Nat)) : Dev :=
  let d := d.beginChange target t
  let d := if target = 0 then
      unitDoms.foldl (fun d k => (d.setFld (0x50100 + 4 * k) 29 28 0).cancelDrain k) d
    else d
  let units := unitDoms.filter fun k => d.domReq k = 0
  let rest := if d.pwrState = 2 then ((List.range 18).filter fun c => d.nameOf c ≠ none).map (· + 4) ++ [102, 103, 104, 105, 110, 111] else []
  let need := (rest ++ (if d.pwrState = 2 || target = 0 then units else [])).filter fun k => !d.isOn k && d.dom k ≠ .draining
  let d := if d.pwrState = 2 then d.avsTarget (min (clampNat 680 820 (d.fld 0x50004 19 10)) d.vCap) else d
  (d.startReturn need).advance

/-- Entry to Keep. -/
def enterKeep (d : Dev) (t : Option (Nat × Nat)) : Dev :=
  let d := ifaces.foldl (fun d i => if d.inMode i then d.withdraw i else d) (d.beginChange 2 t)
  let max := d.drainMax
  let d := d.writeBackAll
  let d := (List.range 18).foldl (fun d c =>
    if d.dom (4 + c) = .on || d.dom (4 + c) = .draining then d.startDrain (4 + c) (if (d.nameOf c).isSome then 1 else 3) max else d) d
  let d := (List.range 16).foldl (fun d u => if d.dom (22 + u) = .off then d else d.startDrain (22 + u) 3 max) d
  let d := (List.range 64).foldl (fun d s => if d.isOn (38 + s) then d.startDrain (38 + s) 1 max else d) d
  ([102, 103, 104, 105, 110, 111].foldl (fun d k => if d.isOn k then d.startDrain k 1 max else d) d).advance

/-- Steps 1 and 2 of R436. -/
def enterDormant (d : Dev) : Dev :=
  let d := ((d.beginChange 3 none).sendCtrl .absent).goMute 2
  ([106, 107, 108, 109].foldl (fun d k => if d.isOn k then d.startDrain k 3 d.drainMax else d) d).advance

/-- PEND of PWR_WAKE. -/
def wakePend (d : Dev) : Nat := d.fld 0x50024 21 16

/-- The enabled sources that are active, as the wake latch sees them (R435). -/
def wakeNow (d : Dev) : Nat :=
  (b2n d.power.devWake + b2n d.power.smbWake * 2 + b2n d.power.alarm * 4 + b2n (d.rails = 1) * 8) &&& d.fld 0x50024 5 0

/-- R430: the first check that fails of PWR_STATE_SET. -/
def stateRefusal (d : Dev) (target : Nat) (force : Bool) : Option Nat :=
  let live (i : Nat) : Bool := d.inMode i && ((d.port i).st == .admitted || (d.port i).st == .quarantined) && !d.partnerServes i
  if d.changing then some 1
  else if target = 3 && d.pwrState ≠ 2 then some 0x0703
  else if target ≥ 2 && (d.epochs.pend = 1 || d.epochs.pend = 3 || d.courseMoves) then some 1
  else if target = 2 && ifaces.any live && !force then some 0x0701
  else if target = 3 && (d.wakeNow ≠ 0 || d.wakePend ≠ 0) then some 0x0702
  else none

/-- PWR_STATE_SET accepted. -/
def changeState (d : Dev) (target : Nat) (t : Option (Nat × Nat)) : Dev :=
  if target = d.pwrState then (d.beginChange target t).reached target
  else match target with
    | 2 => d.enterKeep t
    | 3 => d.enterDormant
    | _ => d.enterRun target t

/-- R430, R434: a request for a SET or AU domain in Trim; the status that refuses it. -/
def domainRefusal (d : Dev) (k req : Nat) : Option Nat :=
  if req = 2 then some 4
  else if d.pwrState ≠ 1 || k < 22 || 102 ≤ k || (req = 1 && k < 38) then some 0x0703
  else if d.changing || (!d.power.back.isEmpty && !d.power.back.contains k) then some 1
  else none

/-- PWR_DOMAIN_SET accepted. -/
def requestDomain (d : Dev) (k req : Nat) (t : Nat × Nat) : Dev :=
  let d := (d.setFld (0x50100 + 4 * k) 29 28 req).setPower fun p => { p with asks := p.asks ++ [(t.1, t.2, k)] }
  if req = 0 then
    match d.dom k with
    | .on => d.closeAsks k 0
    | .draining => d.cancelDrain k
    | _ => if d.power.back.contains k then d else d.startReturn [k]
  else
    match d.dom k with
    | .on => d.startDrain k req d.drainMax
    | .draining => d.startDrain k req d.drainMax
    | .retain => (if req = 3 then (d.losePower k 3).setDom k .off else d).closeAsks k 0
    | .off => d.closeAsks k 0

/-- A drain ends at its deadline, or once nothing is in flight; `k` is the domain (R431). -/
def drainRow (d : Dev) (k : Nat) (atDeadline : Bool) : Dev :=
  match Map.get? d.power.drains k with
  | none => d
  | some r =>
    if (if atDeadline then d.now < r.at_ + r.max else d.inflight k ≠ 0) then d else (d.endDrain k).advance

/-! ### The wake window and the return order (R435 to R437) -/

/-- The latch fires: the device returns to Keep. -/
def wakeFire (d : Dev) (cause : Nat) : Dev :=
  let d := ((d.setFld 0x50024 13 8 cause).bump 0x50320).setPower fun p => { p with armed := false }
  (d.beginChange 2 none).startReturn ([1, 2, 3] ++ [106, 107, 108, 109])

/-- R435, R436: a wake source's change: levels 0 and 2 follow `active`; an enabled edge is recorded while the device enters
Dormant and fires the latch once it is armed. -/
def wakeEvent (d : Dev) (src : Nat) (active : Bool) : Dev :=
  let d := d.setPower fun p =>
    { p with devWake := if src = 0 then active else p.devWake, alarm := if src = 2 then active else p.alarm }
  let edge := (src = 4 || src = 5) && active && d.flag 0x50024 src
  let entering := d.changing && d.fld 0x50018 29 28 = 3
  let d := if edge && entering then d.setBit 0x50024 (16 + src) else d
  if !d.power.armed then d
  else
    let now := d.wakeNow ||| (if edge then 2 ^ src else 0)
    if now = 0 then d else d.wakeFire (now ||| d.wakePend)

/-- R436 step 8: an active enabled level or a PEND bit fires the latch at arming. -/
def latchFire (d : Dev) : Dev :=
  let now := d.wakeNow ||| d.wakePend
  if d.power.armed && now ≠ 0 then d.wakeFire now else d

/-- R437: a step's ready signal. The rail settles in step 1, and after Dormant the time island loads in step 3. -/
def returnStep (d : Dev) : Dev :=
  let p := d.power
  if p.back.isEmpty || (p.backStep = 1 && d.vMoving) || (p.backStep ≥ 3 && !d.time.running) then d
  else if p.backStep < 4 then d.setPower fun p => { p with backStep := p.backStep + 1, backAt := d.now }
  else ((p.back.foldl comeOn d).startReturn []).advance

/-- R57, R58: the time island loads at an LFO edge; entries are marked STALE where the snapshot was lost. -/
def wakeLoad (d : Dev) (counter : Nat) : Dev :=
  if d.time.running || d.power.backStep < 3 then d
  else match d.time.snapshot with
    | some s => d.loadSnapshot s counter
    | none => d.loadLost.markStale

end Dev

/-- TIME_SNAPSHOT (R56): the LFO edge, with the sleep counter it captures; SYS then drains (R436). -/
def execTimeSnapshot (counter : BitVec 48) (s : State) : Result :=
  s.act fun d => if d.time.snapAsked && d.time.running then (d.snapshot counter.toNat).advance else d

/-- WAKE_TIME_LOAD (R57): the LFO edge, with the sleep counter. -/
def execWakeTimeLoad (counter : BitVec 48) (s : State) : Result := s.act (·.wakeLoad counter.toNat)

/-- SENSOR_READING (R413): the eight sensors of each die in °C, West first. -/
def execSensorReading (readings : Vector Int 16) (s : State) : Result := s.act (·.readSensors readings.toList)

/-- TJ_108_TIMEOUT (R415). -/
def execTj108Timeout (s : State) : Result := s.act Dev.hotLong

/-- CALLER_DECISION (R420): the monitor's reading of VDD_CORE in mV. -/
def execCallerDecision (mv : BitVec 10) (s : State) : Result := s.act (·.decide_ mv.toNat)

/-- AVS_CURRENT_READ (R416): the current in mA, and whether the response is good. -/
def execAvsCurrentRead (ma : BitVec 32) (ok : Bool) (s : State) : Result :=
  s.act fun d =>
    let (d, good) := d.avsAnswer ok false
    if good then d.setPower fun p => { p with amps := ma.toNat } else d

/-- AVS_TRANSACTION_DONE (R418): whether the response is good, and whether it answers a Target Rail Voltage read. -/
def execAvsTransactionDone (ok read : Bool) (s : State) : Result := s.act fun d => (d.avsAnswer ok read).1

/-- RAIL_SETTLED (R419). -/
def execRailSettled (s : State) : Result := s.act Dev.railSettled

/-- RAIL_SETTLE_TIMEOUT (R419). -/
def execRailSettleTimeout (s : State) : Result := s.act Dev.railLate

/-- VDD_UNDERVOLT (R419): below 665 mV for 1.0 µs. -/
def execVddUndervolt (s : State) : Result := s.act (·.raise 0 0x9002)

/-- VDD_OVERVOLT (R419): above 835 mV for 1.0 µs. -/
def execVddOvervolt (s : State) : Result := s.act (·.raise 0 0x9003)

/-- PWR_BRAKE_N_EDGE (R417). -/
def execPwrBrakeNEdge (low : Bool) (s : State) : Result := s.act (·.brake low)

/-- LIMIT_UNMET_TIMEOUT (R422). -/
def execLimitUnmetTimeout (s : State) : Result := s.act Dev.limitUnmet

/-- DRAIN_DEADLINE (R431): the draining domain. -/
def execDrainDeadline (dom : Fin 112) (s : State) : Result := s.act (·.drainRow dom true)

/-- DRAIN_INFLIGHT_ZERO (R431): the draining domain. -/
def execDrainInflightZero (dom : Fin 112) (s : State) : Result := s.act (·.drainRow dom false)

/-- RETURN_STEP_READY (R437). -/
def execReturnStepReady (s : State) : Result := s.act Dev.returnStep

/-- WAKE_SOURCE_EVENT (R435): the source, and whether its condition holds. -/
def execWakeSourceEvent (src : Fin 6) (active : Bool) (s : State) : Result := s.act (·.wakeEvent src active)

/-- WAKE_LATCH_FIRE (R437). -/
def execWakeLatchFire (s : State) : Result := s.act Dev.latchFire

end Sys2Proof.Machine
end

