-- ==== Sys2Proof/Machine/Stewards.lean ====
section
/-! DEFINITION. The two stewards (R491, R632 to R637, R679): the active role moves by plan or by loss, and what happens then to
open commands and to a move in progress. -/

namespace Sys2Proof.Machine

/-- Source of a steward, 0 West and 1 East. -/
def srcSteward (s : Nat) : Nat := 0xC001 + s

namespace Dev

/-- That state of the stewards changed. -/
def setStw (d : Dev) (f : Stewards → Stewards) : Dev := { d with stw := f d.stw }

/-- The role moves to the other steward (R491); `spare` is then the state of the one that gives it up. -/
def moveRole (d : Dev) (spare : Nat) : Dev :=
  let d := d.setStw fun s => { s with active := 1 - s.active, spare := spare, lostAt := none }
  let d := (List.range 8).foldl (fun d m => (d.setFld (mbxBase m + 8) 30 23 ((d.fld (mbxBase m + 8) 30 23 + 1) % 256)).mbxEvent m 5) d
  d.event 0x6000C 4

/-- State of a steward that gives the role up: LOADING, or WORN where it is. -/
def spareAfter (d : Dev) : Nat := if d.unitState (unitKey (srcSteward d.stw.active) 0) ≥ 3 then 2 else 1

/-- The planned change of R491, with no command interrupted. A steward whose halt debug asked for is halted (R679). -/
def plannedChange (d : Dev) (halt : Bool) : Dev :=
  let old := d.stw.active
  let d := d.moveRole d.spareAfter
  if halt then d.setStw fun s => { s with halted := addOnce s.halted old } else d

/-! ### Loss of the active steward (R491, R633) -/

/-- R491: an open ticket whose effect is PARTIAL and whose command is not resumable completes INTERRUPTED. -/
def interrupt (d : Dev) (m : Nat) (t : Ticket) : Dev :=
  if t.phase ≠ 1 || (op? t.req.opcode).any (·.resume) then d
  else
    let d := if t.req.opcode = 0x0305 then d.unplace else d
    let d := if t.req.opcode = 0x0802 then d.setPair fun p => { p with roleAsk := none } else d
    ((d.closeTicket (m, t.num) 0x0C 1 1 []).raise (0xD040 + m) 0xD042)

/-- The unplanned change: the spare reads the ledger, and open commands are resolved. -/
def takeLedger (d : Dev) : Dev :=
  let d := (d.moveRole d.spareAfter).event 0x6000C 5
  let d := d.raise (srcSteward (1 - d.stw.active)) 0xC066
  let d := (List.range 8).foldl (fun d m => (d.mbx m).tickets.foldl (fun d t => d.interrupt m t) d) d
  match d.wear.move with
  | some m => if m.step < 6 then d.abandonMove false 0x0C else d
  | none => d

/-- The active steward is lost: a READY spare takes the role; one that debug has halted is reset and loads (R679). -/
def stewardLost (d : Dev) : Dev :=
  if d.stw.lostAt.isSome then d
  else if d.stw.spare = 0 then d.takeLedger
  else d.setStw fun s => { s with lostAt := some d.now, halted := [] }

/-- A WORN active steward gives its role to a READY spare (R632). -/
def stewardWorn (d : Dev) : Dev :=
  if d.unitState (unitKey (srcSteward d.stw.active) 0) = 3 && d.stw.spare = 0 && d.flag 0x60000 0 && d.stw.lostAt.isNone then
    (d.plannedChange false).spend 8
  else d

end Dev

end Sys2Proof.Machine
end

