-- ==== Sys2Proof/Machine/Collect.lean ====
section
/-! DEFINITION. The fault collector (chapter 20): which record an error becomes, the host queue, the reactions, nesting,
and the way back to service. -/

namespace Sys2Proof.Machine

/-- The reaction that a code's chapter lists (R603): 0 LOG, 1 CONTAIN, 2 SQUELCH, 3 WITHDRAW. -/
def codeReact (code : Nat) : Nat :=
  if [0x3030, 0x5015, 0x8020, 0xC001, 0xC002].contains code then 1
  else if [0x9002, 0x9011, 0x9012, 0x9040, 0xC067].contains code then 3
  else 0

/-- SEV of a reaction (R603): 0 NOTE, 1 MINOR, 2 MAJOR, 3 CRITICAL. -/
def sevOf (react : Nat) (wear : Bool) : Nat := match react with
  | 0 => b2n wear
  | 1 => 2
  | _ => 3

/-- R606: the source of the unit that CONTAIN of a source acts on; none where it names no unit. 0 stands for the whole device;
`addr` is the address word of the record. -/
def containUnit (src addr : Nat) : Option Nat :=
  let i := src % 0x1000
  match src / 0x1000 with
  | 0 => some 0
  | 8 => some 0
  | 9 =>
    if i ≤ 5 || i = 14 || i = 15 || i = 18 then some 0
    else if i ≤ 11 then some (srcSet (32 * (i % 2) + Config.memOwner i addr % 32))
    else if i ≤ 13 then some (srcCourse (let c := Config.memOwner i addr % 9; if c = 8 then 16 + i % 2 else 8 * (i % 2) + c))
    else if i ≤ 17 then some (0xC001 + i % 2)
    else some (srcLane ((i - 19) % 4) 127)
  | 10 => none
  | 11 => none
  | 12 => if i = 1 || i = 2 then some src else some 0
  | 13 => if i < 64 then some src else none
  | 14 => none
  | 15 => none
  | _ => some src

/-- Whether a unit holds another source's unit: a set its engines, a lane die its lanes. -/
def unitHolds (u src : Nat) : Bool :=
  u = 0 || u = src || (u / 0x1000 = 6 && src / 0x1000 = 7 && src % 0x1000 / 16 = u % 0x1000)
    || (u / 0x1000 = 2 && u % 128 = 127 && src / 128 = u / 128)

/-- The domain that a source's checkers lie in (R426); none where it is always on. -/
def domOfSrc (src : Nat) : Option Nat :=
  let i := src % 0x1000
  match src / 0x1000 with
  | 1 => some (106 + dieOf i)
  | 2 => some (106 + i / 128)
  | 3 => some (4 + i)
  | 4 => some (if i < 34 then 102 else 103)
  | 5 => some (22 + i)
  | 6 => some (38 + i)
  | 7 => some (38 + i / 16)
  | 8 => some (104 + i)
  | 9 => if i < 2 then some (110 + i) else if i < 6 then some (104 + i % 2) else if 16 ≤ i && i < 18 then some (2 + i % 2)
         else if 19 ≤ i then some (106 + (i - 19)) else some 1
  | _ => none

/-- R602: the words of a record. -/
def Rec.toWords (r : Rec) : List Nat :=
  [r.seq,
   r.code <<< 16 + r.sev <<< 14 + r.react <<< 12 + b2n r.whileHandling <<< 11 + b2n r.injected <<< 10 + b2n r.requeued <<< 9
     + b2n r.overridden <<< 8 + r.srcState <<< 6 + r.coalesced,
   r.src <<< 16 + r.recoveries, r.earlier, r.mono / 2 ^ 32, r.mono % 2 ^ 32, r.sec, r.tim <<< 30 + r.ns]
   ++ (r.detail ++ List.replicate 8 0).take 8

namespace Dev

/-- That state of the collector changed. -/
def setFaults (d : Dev) (f : Faults → Faults) : Dev := { d with faults := f d.faults }

/-- A source. -/
def srcOf (d : Dev) (src : Nat) : Src := Map.getD d.faults.srcs src {}

/-- That source changed. -/
def setSrc (d : Dev) (src : Nat) (f : Src → Src) : Dev := d.setFaults fun x => { x with srcs := Map.upd x.srcs src {} f }

/-- QUIET in ns. -/
def quietNs (d : Dev) : Nat := clampNat 1 1000 (d.fld 0x3000C 9 0) * 1000000

/-- Recoveries of a source within the preceding 60 minutes (R611, IN_HOUR). -/
def inHour (d : Dev) (src : Nat) : Nat := ((d.srcOf src).times.filter fun t => d.now < t + 3600000000000).length

/-- The strongest reaction that a valid entry of FLT_REACT names for a code (R608, R616). -/
def override (d : Dev) (code : Nat) : Nat :=
  (List.range 64).foldl (fun n i =>
    let w := d.reg (0x30200 + 4 * i)
    if w.testBit 31 && bits w 15 0 = code then max n (bits w 29 28) else n) 0

/-! ### The host queue (R609) -/

/-- Vector 72, where IRQ_EN allows it. -/
def faultIrq (d : Dev) : Dev := if d.flag 0x30000 4 then d.signal 72 else d

/-- A record discarded, counted under its SEV. -/
def discard (d : Dev) (sev : Nat) : Dev := ((d.bump (0x30020 + 8 * sev)).event 0x30008 3).faultIrq

/-- A record queued to the host. -/
def queueFault (d : Dev) (r : Rec) : Dev :=
  let put (d : Dev) : Dev :=
    let d := (d.setFaults fun x => { x with queue := x.queue ++ [r] }).event 0x30008 0
    if r.sev ≥ d.fld 0x30000 1 0 then d.faultIrq else d
  let q := d.faults.queue
  if q.length < 256 then put d
  else
    let low := q.foldl (fun n x => min n x.sev) 3
    if low < r.sev then
      put ((d.setFaults fun x => { x with queue := x.queue.eraseIdx (x.queue.findIdx fun y => y.sev = low) }).discard low)
    else d.discard r.sev

/-! ### Reactions (R605, R606) -/

/-- The interfaces that SQUELCH of a unit that is no memory acts on. -/
def squelchIfs (d : Dev) (src : Nat) : List Nat :=
  let i := src % 0x1000
  let ofCourse (c : Nat) : List Nat := match d.nameOf c with
    | some n => d.courseIfs n
    | none => []
  match src / 0x1000 with
  | 1 => [i]
  | 2 => if i % 128 = 127 then dieIfs (i / 128) else d.moveIfs { kind := 3, unit := unitKey src 0, spare := 0, step := 0 }
  | 3 => ofCourse i
  | 4 => match d.logBank i with
    | some lb => d.courseIfs (lb / 4)
    | none => []
  | 5 => d.courseIfs i
  | 13 => if i < 64 then [] else ifaces
  | _ => ifaces

/-- The interfaces that SQUELCH of a source acts on: those of a memory are its owning unit's. -/
def squelched (d : Dev) (src addr : Nat) : List Nat :=
  if src / 0x1000 = 9 then
    match containUnit src addr with
    | some u => d.squelchIfs u
    | none => ifaces
  else d.squelchIfs src

/-- CONTAIN of a unit (R606); `rest` is what the descriptors of a halting channel spell. -/
def contain (d : Dev) (u : Nat) (rest : List (Fin 16 × BitVec 32)) : Dev :=
  let i := u % 0x1000
  let d := d.setFaults fun x => { x with isolated := addOnce x.isolated u }
  match u / 0x1000 with
  | 0 => d.goMute 1
  | 1 => d.withdraw i
  | 2 =>
    if i % 128 = 127 then
      (((d.squelchIfs u).foldl (fun d j => d.withdraw j) d).fjLane (2 * (i / 128)) false).fjLane (2 * (i / 128) + 1) false
    else
      let d := d.setLane (i / 128) (i % 128) fun l => { l with isolated := true }
      match d.fjOfLane i with
      | some k => d.fjLane k false
      | none => (d.squelchIfs u).foldl (fun d j => d.withdraw j) d
  | 3 => ((d.squelchIfs u).foldl (fun d j => d.withdraw j) d).endCourse i 0xC2
  | 4 => d.bankMove i
  | 5 => d.auLeaves i
  | 6 => d.containSet i
  | 7 => d.killItem (i / 16) (i % 16) 0x24
  | 12 => if i = d.stw.active + 1 then d.stewardLost else d.setStw fun s => { s with spare := 2 }
  | 13 => d.haltChan i (d.ringHead i) rest false
  | _ => d

/-- A reaction of a source applied. -/
def react (d : Dev) (src addr r : Nat) (rest : List (Fin 16 × BitVec 32)) : Dev :=
  match r with
  | 0 => d
  | 1 => match containUnit src addr with
    | some u => d.contain u rest
    | none => d
  | 2 => (d.squelched src addr).foldl (fun d i => d.withdraw i) d
  | _ => d.goMute 1

/-- R607: whether a source lies within the scope of a record being handled. -/
def inScope (d : Dev) (h : Handling) (src : Nat) : Bool := match h.react with
  | 0 => h.src = src
  | 1 => (containUnit h.src h.addr).any fun u => unitHolds u src || h.src = src
  | 2 => src / 0x1000 = 1 && (d.squelched h.src h.addr).contains (src % 0x1000)
  | _ => true

/-! ### The decision (R601 to R608) -/

/-- A LOG record is handled until the active steward has taken it, within 100 µs; whether it has by then is free. -/
def stillHandled (d : Dev) (h : Handling) : Bool :=
  h.react ≠ 0 || (d.now < h.at_ + 100000 && Config.freeValue (d.fresh + h.seq) % 2 = 1)

/-- Whether the unit that a fault counts against is WORN and still serves: its next failed check leads to CONTAIN (R30, R624). -/
def wornServes (d : Dev) (p : Pend) : Bool :=
  let (kind, k) := wearTarget p.src p.code p.detail
  kind ≤ 3 && d.unitState k = 3

/-- R180: a fault that counts toward the fault limit of its automata unit. -/
def auFault (d : Dev) (p : Pend) : Dev :=
  if p.injected || (p.code ≠ 0x3020 && p.code ≠ 0x3022) then d
  else
    let u := p.src % 0x1000
    let n := (d.au u).faults + 1
    if n > Config.auFaultLimit then (d.setAu u fun a => { a with faults := 0 }).raise (srcAu u) 0x3030
    else d.setAu u fun a => { a with faults := n }

/-- The steward's part of a record: wear counts and limits, which injected records do not enter (R612). -/
def steward (d : Dev) (p : Pend) : Dev :=
  if p.injected then d
  else ((if p.wear then d.countWear p.src p.code p.detail else d).auFault p).stewardWorn

/-- Errors of one source decided: `p` becomes a record, is queued, and its reaction applied. -/
def decideErr (d : Dev) (p : Pend) (rest : List (Fin 16 × BitVec 32)) : Dev :=
  let own := codeReact p.code
  let up := d.override p.code
  let safe := p.injected && d.flag 0x30000 7
  let raised := up > own
  let sev := sevOf (max own up) p.wear
  let base := max (max own up) (if p.wear && !p.injected && d.wornServes p then 1 else 0)
  let d := (d.setFaults fun x => { x with handling := x.handling.filter d.stillHandled }).used
  let near := d.faults.handling.reverse.find? fun h => d.inScope h p.src
  let addr := p.detail.getD 2 0
  let r0 := match near with
    | some h => max base h.react
    | none => base
  let from_ := match near with
    | some h => if h.react > base then (h.src, h.addr) else (p.src, addr)
    | none => (p.src, addr)
  let r := if safe || (r0 = 1 && (containUnit from_.1 from_.2).isNone) then 0 else r0
  let x := d.srcOf p.src
  let held := x.times.length ≥ 8 && d.inHour p.src ≥ 8
  let st := if r ≠ 0 && x.state = 0 then (if held then 2 else 1) else x.state
  let d := if r ≠ 0 && x.state = 0 && held then d.event 0x30008 2 else d
  let d := d.setSrc p.src fun x =>
    { x with state := st, lastError := d.now, react := max x.react r,
             quiet := if st = 0 then x.quiet else d.quietNs,
             injected := p.injected && (x.injected || x.state = 0) }
  let seq := d.faults.nextSeq
  let rec_ : Rec :=
    { seq := seq, code := p.code, sev := sev, react := r, whileHandling := near.isSome, injected := p.injected,
      requeued := p.requeued, overridden := raised && !safe, srcState := st, coalesced := p.coalesced, src := p.src,
      recoveries := x.recoveries, earlier := (near.map (·.seq)).getD 0, mono := p.mono, sec := p.sec, tim := p.tim,
      ns := p.ns, detail := p.detail }
  let d := d.setFaults fun x =>
    { x with nextSeq := if seq = 2 ^ 32 - 1 then 1 else seq + 1,
             handling := x.handling ++ [⟨seq, p.src, r, d.now, addr⟩] }
  let d := if p.code = 0xC001 then d.event 0x30008 1 else d
  ((d.queueFault rec_).react from_.1 from_.2 r rest).steward p

/-- FAULT_DECIDED: the collector samples a source's rails. A held error is decided, and acknowledged; the next then waits.
`broken` is a rail pair that reads 00 or 11. A source whose domain is not ON reads quiet (R599). -/
def faultDecided (d : Dev) (src : Nat) (broken : Bool) (rest : List (Fin 16 × BitVec 32)) : Dev :=
  if !d.isOn 1 || (domOfSrc src).any (fun k => !d.isOn k) then d
  else
    let d := match d.faults.pend.find? fun p => p.src = src with
      | some p =>
        let at_ := d.faults.pend.findIdx fun p => p.src = src
        (d.setFaults fun x => { x with pend := x.pend.eraseIdx at_ }).decideErr p rest
      | none => d
    if broken then
      let p : Pend :=
        { src := src, code := 0xC001, detail := [], injected := false, wear := false, requeued := false, coalesced := 0,
          mono := d.now, sec := d.wallSec % 2 ^ 32, tim := d.timCode, ns := d.wallNs }
      d.decideErr p rest
    else d

/-! ### The way back (R610 to R612) -/

/-- A source leaves FAULTED or HELD: what it is handling ends, and its unit returns to service (R607, R612). -/
def leaveFault (d : Dev) (src : Nat) : Dev :=
  let mine := d.faults.handling.filter fun h => h.src = src && h.react ≠ 0
  let d := d.setFaults fun x => { x with handling := x.handling.filter fun h => !(h.src = src && h.react ≠ 0) }
  let others := d.faults.handling.filter fun h => h.react ≠ 0
  let units := mine.filterMap fun h => if h.react = 1 then containUnit h.src h.addr else none
  let free := units.filter fun u => !(others.any fun h => h.react = 1 && containUnit h.src h.addr = some u)
  let d := d.setFaults fun x => { x with isolated := x.isolated.filter fun u => !free.contains u }
  let d := free.foldl (fun d u =>
    let i := u % 0x1000
    if u / 0x1000 = 6 then (if d.fld (setBase i + 4) 30 28 = 3 then d.setFld (setBase i + 4) 30 28 0 else d)
    else if u / 0x1000 = 2 && i % 128 ≠ 127 && d.unitState (unitKey u 0) ≠ 4 then
      d.setLane (i / 128) (i % 128) fun l => { l with isolated := false }
    else d) d
  let mute (h : Handling) : Bool := h.react = 3 || (h.react = 1 && containUnit h.src h.addr = some 0)
  if mine.any mute && !others.any mute then d.unmute 1 else d

/-- QUIET_EXPIRY: QUIET has passed with no error from a FAULTED source. -/
def quietExpiry (d : Dev) (src : Nat) : Dev :=
  let x := d.srcOf src
  if x.state ≠ 1 || d.now < x.lastError + x.quiet || (domOfSrc src).any (fun k => !d.isOn k) then d
  else
    let n := x.recoveries
    let d := d.setSrc src fun x =>
      { x with state := 0, react := 0, injected := false, recoveries := if x.injected then n else min 65535 (n + 1),
               times := if x.injected then x.times else (x.times ++ [d.now]).drop (x.times.length - 7) }
    d.leaveFault src

/-- FAULT_CLEAR (R528): whether the source was HELD. -/
def faultClear (d : Dev) (src : Nat) : Dev × Bool :=
  if (d.srcOf src).state ≠ 2 then (d, false)
  else ((d.setSrc src fun _ => { lastError := (d.srcOf src).lastError }).leaveFault src, true)

/-- FLT_INJ (R615): the pattern driven on a source's rails. -/
def fltInject (d : Dev) (src mode : Nat) : Dev :=
  if mode = 0 then d else d.raiseInj src (if mode = 1 then 0xC002 else 0xC001)

/-- FLT_POP. -/
def fltPop (d : Dev) : Dev := d.setFaults fun x => { x with queue := x.queue.drop 1 }

end Dev

/-- FAULT_DECIDED (R601): the source, whether its rails are broken, and what the descriptors of a channel that halts spell. -/
def execFaultDecided (src : BitVec 16) (broken : Bool) (rest : List (Fin 16 × BitVec 32)) (s : State) : Result :=
  s.act fun d => (d.faultDecided src.toNat broken rest).settle

/-- QUIET_EXPIRY (R610). -/
def execQuietExpiry (src : BitVec 16) (s : State) : Result := s.act (·.quietExpiry src.toNat)

/-- FLT_POP (R609). -/
def execFltPop (s : State) : Result := s.host Dev.fltPop

/-- FLT_INJ_ERROR (R615). -/
def execFltInjError (src : BitVec 16) (s : State) : Result := s.host (·.fltInject src.toNat 1)

/-- FLT_INJ_ZEROS (R615). -/
def execFltInjZeros (src : BitVec 16) (s : State) : Result := s.host (·.fltInject src.toNat 2)

/-- FLT_INJ_ONES (R615). -/
def execFltInjOnes (src : BitVec 16) (s : State) : Result := s.host (·.fltInject src.toNat 3)

end Sys2Proof.Machine
end

