-- ==== Sys2Proof/Machine/Resets.lean ====
section
/-! DEFINITION. Resets (R644, R645, R695, R698): what a cold and a warm reset leave, and the events that make them. -/

namespace Sys2Proof.Machine

namespace Dev

/-- Register fields that outlive a reset: levels of pins, and on the warm path what AON retains: the reset causes, the debug failures,
the wake latch and alarm, the SMBus limit and the caller's events. -/
def keptFields (warm : Bool) : List (Nat × Nat × Nat) :=
  [(0x50018, 25, 25), (0x700004, 27, 26)]
    ++ (if warm then [(0x218, 31, 0), (0x220, 28, 28), (0x220, 23, 16), (0x50024, 31, 0), (0x50028, 31, 0), (0x5002C, 31, 0),
                      (0x5000C, 25, 16), (0x5001C, 31, 0)] else [])

/-- The block at reset: OTP, flash and the levels of pins stand; on the warm path AON and the time island do too (R645). -/
def restart (d : Dev) (warm : Bool) : Dev :=
  let b := d.boot
  let e : Dev :=
    { regs := if warm then d.regs.filter fun r => 0x40000 ≤ r.1 && r.1 < 0x50000 else []
      fresh := d.fresh, out := d.out, tileKeys := d.tileKeys
      ports := (ifaces.filter fun i => (d.port i).present).map fun i => (i, { present := true })
      power := { devWake := d.power.devWake, smbWake := d.power.smbWake, tripLow := warm && d.power.tripLow }
      boot := { keys := b.keys, fwSvn := b.fwSvn, serial := b.serial, slotA := b.slotA, slotB := b.slotB, ledger := b.ledger,
                failsA := if warm then b.failsA else 0, failsB := if warm then b.failsB else 0, straps := if warm then b.straps else 0 }
      faults := if warm then { kept := d.faults.kept, again := d.faults.again } else {}
      time := if warm then d.time else {}
      dbg := if warm then { lockEnd := d.dbg.lockEnd } else {} }
  (keptFields warm).foldl (fun e f => e.setFld f.1 f.2.1 f.2.2 (d.fld f.1 f.2.1 f.2.2)) e

/-- R645: a warm reset. -/
def warmPath (d : Dev) : Dev :=
  let d := (d.goMute 0).keepFaults
  let d := emergencyOrder.foldl (fun d k => (d.startDrain k 3 0).endDrain k) d
  let d := d.keepFaults.restart true
  d.setFld 0x218 31 16 (satAdd 16 (d.fld 0x218 31 16) 1)

/-- A warm reset with its cause bit of GLB_RESET_CAUSE (R644). -/
def warmReset (d : Dev) (cause : Nat) : Dev := d.warmPath.setBit 0x218 cause

/-- POR_N low: the always-on domain is in reset too, and both PAIR_ALIVE rails fall to 0. -/
def porLow (d : Dev) : Dev :=
  let d := d.restart false
  { d with boot := { d.boot with por := true } }

/-- POR_N rises: the straps latch (R646). `flash` is what the board's flash devices hold, where they have been written from outside. -/
def porHigh (d : Dev) (straps : Nat) (flash : Option (FlashImage × FlashImage)) : Dev :=
  let d := d.restart false
  let b := { d.boot with straps := straps }
  { d with boot := match flash with
      | some f => { b with slotA := f.1, slotB := f.2 }
      | none => b }

/-- R634: no active steward for 10 ms. -/
def noSteward (d : Dev) : Dev :=
  match d.stw.lostAt with
  | some t => if d.now < t + 10000000 then d else (d.raise 0xC000 0xC067).warmReset 4
  | none => d

/-- Bound of a step of R437 in ns. -/
def stepBound (n : Nat) : Nat := if n = 1 then 200000 else if n = 2 then 500000 else 1000000

/-- R440: a step of the return order without its ready signal. -/
def returnLate (d : Dev) : Dev :=
  if d.power.back.isEmpty || d.now < d.power.backAt + stepBound d.power.backStep then d
  else
    let d := (d.raise 0 0x9030).event 0x5001C 6
    (d.setPower fun p => { p with back := [], backStep := 0 }).warmReset 3

/-- R695: VDD_AON out of range. `others` says that another rail fell out of its range too; the straps latch again. -/
def brownOut (d : Dev) (others : Bool) (straps : Nat) : Dev :=
  if others || d.pwrState ≠ 3 then d.porLow
  else
    let d := { d with boot := { d.boot with straps := straps, failsA := 0, failsB := 0 } }
    let d := d.setFaults fun x => { x with kept := [], again := [] }
    let d := d.setTime fun t => { t with snapshot := none }
    let d := [0x218, 0x50024, 0x50028, 0x5002C].foldl (fun (d : Dev) a => d.setReg a (resetOf a)) d
    d.wakeFire 0

/-- R698: power lost without the order of R697. A rail lost during Dormant takes what the domains retain; the return is a start-up. -/
def powerLoss (d : Dev) : RailLoss → Dev
  | .all => d.porLow
  | .one r => if d.pwrState = 3 then d.warmReset 1 else d.raise 0 0x9040 [r.toNat]

end Dev

/-- POWER_ON_RESET (R644, R646): the straps, PAIR_SIDE in bit 0, COMPAT_FLOAT, BOOT_PREF and TEST_MODE, and what the board's flash
devices hold where they have been written from outside. -/
def execPowerOnReset (straps : BitVec 4) (flash : Option (FlashImage × FlashImage)) (s : State) : Result :=
  s.act (·.porHigh straps.toNat flash)

/-- POR_N_ASSERTED (R695). -/
def execPorNAsserted (s : State) : Result := s.act Dev.porLow

/-- DEVICE_RESET (R645): DEV_RST_N low for 1.0 µs. -/
def execDeviceReset (s : State) : Result := s.act fun d => if d.boot.por then d else d.warmReset 1

/-- NO_STEWARD_TIMEOUT (R634). -/
def execNoStewardTimeout (s : State) : Result := s.act Dev.noSteward

/-- RETURN_READY_TIMEOUT (R440). -/
def execReturnReadyTimeout (s : State) : Result := s.act Dev.returnLate

/-- RAIL_OUT_OF_RANGE (R695): the rail. -/
def execRailOutOfRange (rail : BitVec 8) (s : State) : Result := s.act (·.raise 0 0x9040 [rail.toNat])

/-- AON_BROWN_OUT (R695): whether another rail fell out of its range, and the straps as they latch again. -/
def execAonBrownOut (others : Bool) (straps : BitVec 4) (s : State) : Result := s.act (·.brownOut others straps.toNat)

/-- POWER_LOSS (R698). -/
def execPowerLoss (loss : RailLoss) (s : State) : Result := s.act (·.powerLoss loss)

end Sys2Proof.Machine
end

