-- ==== Sys2Proof/Machine/Storage.lean ====
section
/-! DEFINITION. Stored data (chapter 19): leaky buckets, scrubbers, repeat tables, retirement of rows and bricks, HBM row repair,
and the steward's fetch trap. -/

namespace Sys2Proof.Machine

namespace Dev

/-- Registers of a memory ID (R595). -/
def memBase (m : Nat) : Nat := 0x38000 + 0x40 * m

/-- A memory ID. -/
def mem (d : Dev) (m : Nat) : MemId := Map.getD d.mems m {}

/-- That memory changed. -/
def setMem (d : Dev) (m : Nat) (f : MemId → MemId) : Dev := { d with mems := Map.upd d.mems m {} f }

/-- One correction of a bucket, in the units of its level: a bucket leaks LEAK units in a ns. -/
def leakUnit : Nat := 60000000000

/-- R587: a correction counted. -/
def bucketAdd (d : Dev) (m : Nat) : Dev :=
  let b := memBase m
  let x := d.mem m
  let level := (x.level - d.fld b 15 1 * (d.creditNow - x.at_)) + leakUnit
  let d := d.bump (b + 0x10)
  let full := level ≥ max 1 (d.fld b 31 16) * leakUnit
  let d := d.setMem m fun x => { x with level := if full then 0 else level, at_ := d.creditNow }
  if full then (d.raise (srcMem m) 0xC010 (memDetail m 0)).event (b + 4) 0 else d

/-- R590: whether an error in a word is a repeat, by the word's own entry or by a poisoning in its row. -/
def isRepeat (d : Dev) (m a : Nat) : Bool :=
  let x := d.mem m
  x.repeats.any fun e => x.lapNo < e.2.1 && (e.1 = a || (e.2.2 && Config.rowOf m e.1 = Config.rowOf m a))

/-- R590: a word noted in the repeat table. -/
def repeatNote (d : Dev) (m a : Nat) (poisoned : Bool) : Dev :=
  let x := d.mem m
  let l := x.repeats.filter fun e => x.lapNo < e.2.1 && e.1 ≠ a
  let d := if l.length ≥ 32 then d.bump (memBase m + 0x28) else d
  let e := (a, x.lapNo + max 1 (d.fld 0x37F00 31 28), poisoned)
  d.setMem m fun x => { x with repeats := (if l.length ≥ 32 then l.drop 1 else l) ++ [e] }

/-- Fault 0xC030 and what goes with it. -/
def rowGone (d : Dev) (m a : Nat) : Dev :=
  ((((d.raiseWear (srcMem m) 0xC030 (memDetail m a)).event (memBase m + 4) 3).bump (memBase m + 0x20)).spend
    (if m < 2 then 7 else if m < 4 then 5 else 4)).ledgerChange

/-- R592, R593: the row or brick of a word is retired; a row of HBM waits for a repair slot. -/
def retireRow (d : Dev) (m a : Nat) : Dev :=
  let d := d.setMem m fun x => { x with repeats := x.repeats.filter fun e => Config.rowOf m e.1 ≠ Config.rowOf m a }
  if m < 2 then d.setMem m fun x => { x with rows := if x.rows.contains a then x.rows else x.rows ++ [a] }
  else if m < 4 then (d.condemn (m - 2) (a / 128)).rowGone m a
  else
    let k := Config.macroOf m a
    let n := Map.getD (d.mem m).gone k 0
    if n < 2 then (d.setMem m fun x => { x with gone := Map.put x.gone k (n + 1) }).rowGone m a
    else (d.raise (srcMem m) 0xC031 (memDetail m a)).event (memBase m + 4) 4

/-- A correction that a demand access made (R587, R589, R590): a read notes a hint, the merge of a partial write is a write-back
(R584). -/
def demandFix (d : Dev) (m a : Nat) (merge : Bool) : Dev :=
  let d := d.bucketAdd m
  if d.isRepeat m a then d.retireRow m a
  else if merge then d.repeatNote m a false
  else if (d.mem m).hints.length < 16 then d.setMem m fun x => { x with hints := x.hints ++ [a] } else d

/-- R579: what holds a poisoned word. -/
def poisonWord (d : Dev) : Stored → Dev
  | .other => d
  | .setWord s w => d.setSet s fun x => { x with poison := addOnce x.poison w }
  | .context i => { d with badCtx := addOnce d.badCtx i.toNat }
  | .chain a => d.setChain a fun c => { c with poison := true }

/-- What the scrubber makes of a word it reads, with an injection armed (R588, R595). `changed` says that another write came
between its read and its write (R589). -/
def scrubRead (d : Dev) (m a : Nat) (o : ScrubOutcome) (what : Stored) (changed : Bool) : Dev :=
  let inj := memBase m + 0x0C
  let unc := d.flag inj 1 && o ≠ .poisoned
  let corr := !unc && d.flag inj 0 && (o = .clean || o = .corrected)
  let d := if unc then d.clrBit inj 1 else if corr then d.clrBit inj 0 else d
  let bad (d : Dev) (injected : Bool) : Dev :=
    let d := if changed then d else d.poisonWord what
    let rep := d.isRepeat m a
    let d := d.raiseAs (srcMem m) 0xC020 (memDetail m a) injected true
    if rep && !injected then d.retireRow m a else d.repeatNote m a true
  if unc then bad d true
  else match o with
    | .poisoned => d
    | .uncorrectable => bad d false
    | .corrected =>
      if corr then bad d true
      else
        let d := d.bucketAdd m
        if d.isRepeat m a then d.retireRow m a else if changed then d else d.repeatNote m a false
    | .clean => if corr then d.bucketAdd m else d

/-- A lap of a scrubber ends, with what the stack's own ECC reports (R577, R588, R591). -/
def scrubLap (d : Dev) (m ondie : Nat) : Dev :=
  let b := memBase m
  let d := (List.range ondie).foldl (fun d _ => d.bucketAdd m) d
  let us := (d.now - (d.mem m).start) / 1000
  let d := (d.setReg (b + 8) (min us (2 ^ 32 - 1))).bump (b + 0x38)
  let d := d.setMem m fun x => { x with lapNo := x.lapNo + 1, start := d.now }
  if d.lapLong us then (d.raise (srcMem m) 0xC011 (memDetail m 0)).event (b + 4) 1 else d

/-- SCRUB_WORD: the demand corrections since the last, then the word at the head of the hints or in the walk. -/
def scrubWord (d : Dev) (m a : Nat) (o : ScrubOutcome) (what : Stored) (changed : Bool) (demand : List (Nat × Bool)) (lap : Option Nat) : Dev :=
  if (domOfSrc (srcMem m)).any (fun k => !d.isOn k) then d
  else
    let d := demand.foldl (fun d w => d.demandFix m w.1 w.2) d
    if !d.flag (memBase m) 0 || m = 10 || m = 11 then d
    else
      let d := match (d.mem m).hints with
        | h :: rest => (d.setMem m fun x => { x with hints := rest }).scrubRead m h o what changed
        | [] => d.scrubRead m a o what changed
      match lap with
      | some n => d.scrubLap m (if m < 2 then n else 0)
      | none => d

/-- HBM_ROW_REPAIR (R593): the row that waits first, at most one a second; `spent` says that its bank group has no repair left,
and its pseudo-channel is then to be replaced (R631). -/
def hbmRepair (d : Dev) (m : Nat) (spent : Bool) : Dev :=
  let x := d.mem m
  match x.rows with
  | [] => d
  | a :: rest =>
    if !d.isOn (110 + m) || x.fixAt.any (fun t => d.now < t + 1000000000) then d
    else
      let d := d.setMem m fun x => { x with rows := rest, fixAt := some d.now }
      let n := Map.getD x.gone 0 0
      if spent || n ≥ Config.hbmRepairs then
        let d := (d.raise (srcMem m) 0xC032 (memDetail m a)).event (memBase m + 4) 4
        let k := unitKey (srcMem m) (Config.macroOf m a)
        if d.unitState k = 0 then
          let d := d.markWorn 6 k
          if d.autoMove 6 k then d.startMove 6 k else d
        else d
      else (d.setMem m fun x => { x with gone := Map.put x.gone 0 (n + 1) }).rowGone m a

/-- STEWARD_FETCH_TRAP (R583): a steward's fetch at an address meets an uncorrectable word; `good` says that the page checks when
it is fetched again. -/
def fetchTrap (d : Dev) (st a : Nat) (good : Bool) : Dev :=
  if !d.isOn (2 + st) || d.pwrState = 3 then d
  else
    let d := d.raiseWear (srcMem (16 + st)) 0xC023 (memDetail (16 + st) a)
    if st ≠ d.stw.active then d.setStw fun s => { s with spare := 2 }
    else if !good || d.stw.trapAt.any (fun t => d.now < t + 1000000) then (d.setStw fun s => { s with trapAt := none }).stewardLost
    else d.setStw fun s => { s with trapAt := some d.now }

end Dev

/-- SCRUB_WORD (R588): memory ID, the address of the walk, what is read there and what the word holds, whether another write came
between, the words that demand accesses have corrected since (true: in the merge of a partial write), and at a lap's end the stack's own count of corrections. -/
def execScrubWord (m : Fin 23) (a : Nat) (o : ScrubOutcome) (what : Stored) (changed : Bool) (demand : List (Nat × Bool))
    (lap : Option Nat)    (s : State) : Result :=
  s.act (·.scrubWord m a o what changed demand lap)

/-- HBM_ROW_REPAIR (R593). -/
def execHbmRowRepair (stack : Fin 2) (spent : Bool) (s : State) : Result := s.act (·.hbmRepair stack spent)

/-- STEWARD_FETCH_TRAP (R583). -/
def execStewardFetchTrap (st : Fin 2) (a : Nat) (good : Bool) (s : State) : Result := s.act (·.fetchTrap st a good)

end Sys2Proof.Machine
end

