-- ==== Sys2Proof/Machine/Wear.lean ====
section
/-! DEFINITION. Chapter 21: monitors (R620), moves of engines, banks, courses, lanes and pseudo-channels (R626 to R631), the ledger
pages and the projection of remaining life (R638 to R641). -/

namespace Sys2Proof.Machine

/-- T_b of R620 as a fraction, interpolated between the nearest corners. -/
def birthTime (k mon mv : Nat) (tj : Int) : Int × Int :=
  let b (v t : Nat) : Int := (Config.birth k mon (3 * v + t) : Nat)
  let v := clampInt 680 820 (mv : Nat)
  let t := clampInt 70 105 tj
  let vi := if v < 750 then 0 else 1
  let ti := if t < 85 then 0 else 1
  let v0 : Int := if vi = 0 then 680 else 750
  let t0 : Int := if ti = 0 then 70 else 85
  let dv : Int := 70
  let dt : Int := if ti = 0 then 15 else 20
  let x := v - v0
  let y := t - t0
  (b vi ti * (dv - x) * (dt - y) + b (vi + 1) ti * x * (dt - y) + b vi (ti + 1) * (dv - x) * y + b (vi + 1) (ti + 1) * x * y, dv * dt)

/-- DRIFT of a measured time in units of 0.01 % (R620). -/
def driftOf (k mon tm mv : Nat) (tj : Int) : Int :=
  let (n, den) := birthTime k mon mv tj
  let x := ((tm : Nat) * den - n) * 10000
  let q := x / n
  if x % n ≠ 0 && Config.driftRoundsUp (x * 1000000 / n) then q + 1 else q

/-- How many monitors a unit has (R619). -/
def monitorsOf (src : Nat) : Nat := match src / 0x1000 with
  | 2 => if src % 128 < 88 then 1 else 0
  | 3 => 4
  | 4 => 2
  | 7 => 1
  | 9 => 1
  | 12 => if src = 0xC001 || src = 0xC002 then 2 else 0
  | _ => 0

namespace Dev

/-! ### Measurements (R620, R621) -/

/-- A monitor measured: `tm` in ps at a VDD_CORE in mV and a reading in °C; `overlap` says that the millisecond overlapped a moving
rail or a change of tier, `bad` that the reading fails its check. -/
def measure (d : Dev) (src index mon tm mv : Nat) (tj : Int) (overlap bad : Bool) : Dev :=
  if !d.flag 0x60000 3 || mon ≥ monitorsOf src then d
  else
    let inj := d.flag 0x60010 0
    let d := if inj then d.clrBit 0x60010 0 else d
    if inj || bad then d.raiseAs src 0xC068 [] (inj && !bad) false
    else if overlap || d.vMoving || (domOfSrc src).any (fun k => !d.isOn k) then d
    else
      let k := unitKey src (if src / 0x1000 = 9 then index else 0)
      let kind := if src / 0x1000 = 9 && src % 0x1000 ≥ 2 then 4 else kindOf src
      let drift := driftOf k mon tm mv tj
      let overAt := drift > (max 1 (d.fld 0x60004 15 0) : Nat)
      let run := if overAt then Map.getD (d.wearUnit k).runs mon 0 + 1 else 0
      let d := d.setWear k fun u => { u with drifts := Map.put u.drifts mon drift, runs := Map.putD u.runs mon 0 run }
      if run ≥ max 1 (d.fld 0x60004 19 16) then (d.becomeWorn kind k 0xC060).stewardWorn else d

/-! ### Tickets of SPARE_BRING_IN (R530) -/

/-- The ticket of a unit's bring-in closed. -/
def closeAsk (d : Dev) (k status serves : Nat) : Dev :=
  let mine := d.wear.asks.filter fun a => a.2.2.2 = k
  let d := d.setWearing fun w => { w with asks := w.asks.filter fun a => a.2.2.2 ≠ k }
  mine.foldl (fun d a => d.closeTicket (a.1, a.2.1) status 0 (if status = 0 then 2 else 1) (if status = 0 then [serves] else [])) d

/-- A move completed (R642). -/
def moved (d : Dev) (kind old new : Nat) : Dev :=
  ((((d.event 0x6000C 1).bump 0x60110).spend kind).ledgerChange).closeAsk old 0 (keySrc new % 0x1000)

/-! ### Moves that need the partner (R626 to R630) -/

/-- The spares of a WORN unit in state SPARE, lowest first: a course's is its die's, a lane's are its lane die's. -/
def sparesOf (d : Dev) (kind k : Nat) : List Nat :=
  let i := keySrc k % 0x1000
  let all := if kind = 0 then (if i < 16 then [unitKey (srcCourse (16 + i / 8)) 0] else [])
    else if kind = 3 then (List.range 6).map fun n => unitKey (srcLane (i / 128) (82 + n)) 0
    else [unitKey (keySrc k) 32, unitKey (keySrc k) 33]
  all.filter fun s => d.unitState s = 1

/-- R626, R627, R637: whether a move that needs the partner may start. -/
def mayMove (d : Dev) (kind k : Nat) : Bool :=
  let i := keySrc k % 0x1000
  d.pwrState ≤ 1 && d.pairState = 2 && d.flag 0x700004 15 && d.wear.move.isNone && !d.pair.peerMove
    && d.epochs.pend ≠ 1 && d.epochs.pend ≠ 3 && d.isOn (if kind = 0 then 4 + i else 106 + i / 128)

/-- The units that wait for the partner's help, in order. -/
def partnerWaits (d : Dev) : List (Nat × Nat) :=
  d.wear.waits.filter fun w => w.1 = 0 || (w.1 = 3 && (d.fjOfLane (keySrc w.2 % 0x1000)).isNone)

/-- A unit waits no more. -/
def unwait (d : Dev) (w : Nat × Nat) : Dev :=
  let d := d.setWearing fun x => { x with waits := x.waits.filter (· ≠ w), noted := x.noted.filter (· ≠ w) }
  d.setFld 0x60008 23 16 (min 255 d.wear.noted.length)

/-- The step of the move in progress. -/
def toStep (d : Dev) (n : Nat) : Dev :=
  (d.setWearing fun w => { w with move := w.move.map fun m => { m with step := n } }).setFld 0x60008 27 24 n

/-- The first unit that waits starts its move, or is deferred; one without a spare left stays in service (R30). -/
def tryMove (d : Dev) : Dev :=
  match d.partnerWaits with
  | [] => d
  | w :: _ =>
    match d.sparesOf w.1 w.2 with
    | [] => ((d.unwait w).noSpare w.1 w.2).closeAsk w.2 0x0902 0
    | s :: _ =>
      if !d.mayMove w.1 w.2 then (if d.wear.move.isSome then d else d.defer w)
      else
        let m : Move := { kind := w.1, unit := w.2, spare := s, step := 1 }
        let d := (((d.unwait w).setWearing fun x => { x with move := some m }).setWear s fun u => { u with st := some 2 }).ledgerChange
        let d := ((d.setFld 0x60008 31 28 w.1).setFld 0x60008 27 24 1).setFld 0x60008 15 0 (keySrc w.2)
        d.sendCtrl .move

/-- Interfaces of the move that are ACTIVE here. -/
def activeOf (d : Dev) (m : Move) : List Nat := (d.moveIfs m).filter fun i => (d.port i).active

/-- Steps 1 and 2: the spare is ready, and the interfaces are given one at a time; one that the partner has refused ends it. -/
def moveGive (d : Dev) (m : Move) (ok : Bool) : Dev :=
  if m.step = 1 && !ok then
    let d := (d.abandonMove true 0x0C)
    if d.sparesOf m.kind m.unit = [] then d.closeAsk m.unit 0x0C 0 else d.startMove m.kind m.unit
  else
    let d := if m.step = 1 && m.kind = 0 then d.comeOn (4 + keySrc m.spare % 0x1000) else d
    let d := d.toStep 2
    if m.given.any fun i => Map.has d.pair.hands i then d
    else match d.activeOf m with
      | [] => ((d.moveIfs m).foldl (fun d i => d.withdraw i) d).toStep 3
      | i :: _ =>
        if m.given.contains i then (d.abandonMove false 0x0C).closeAsk m.unit 0x0C 0
        else (d.setWearing fun w => { w with move := w.move.map fun m => { m with given := m.given ++ [i] } }).startGive i

/-- Steps 4 to 7 of R628: the queues served to empty, held fragments dropped, the slice handed over, and the switch. `bad` says that
the old slice cannot be read (R201). -/
def courseSwitch (d : Dev) (m : Move) (bad : Bool) : Dev :=
  let old := keySrc m.unit % 0x1000
  let new := keySrc m.spare % 0x1000
  let s := d.course old
  if !s.recirc.isEmpty || !s.inject.isEmpty || !(Map.getD d.staging old []).isEmpty || !s.missq.isEmpty then d.toStep 4
  else
    let d := (s.hold.foldl (fun d h => d.dropPass h.pass 0x14) d).setCourse old fun s => { s with hold := [], frags := [] }
    match d.nameOf old with
    | none => d
    | some n =>
      let d := if bad then (d.raise (srcCourse old) 0x4012).event (crsBase old + 0xC14) 8 else d.writeBackAll
      let d := d.setSlice n fun s => { s with sets := [] }
      let d := { d with serving := Map.put d.serving n new }
      let d := (d.setWear m.spare fun u => { u with st := some 0 }).setWear m.unit fun u => { u with st := some 4 }
      ((d.losePower (4 + old) 3).setDom (4 + old) .off).toStep 7

/-- The lane switch of R65 and R66. -/
def laneSwitch (d : Dev) (unit spare : Nat) : Dev :=
  let i := keySrc unit % 0x1000
  let n := keySrc spare % 0x1000
  match (List.range 82).find? fun x => d.laneAt (i / 128) x = i % 128 with
  | none => d
  | some x =>
    let d := { d with laneMap := Map.put d.laneMap (i / 128 * 128 + x) (n % 128) }
    let d := (d.setWear spare fun u => { u with st := some 0 }).setWear unit fun u => { u with st := some 4 }
    d.setLane (i / 128) (i % 128) fun l => { l with isolated := true }

/-- The interfaces of a move, once its unit has moved. -/
def movedIfs (d : Dev) (m : Move) : List Nat := d.moveIfs { m with unit := m.spare }

/-- The move completes. -/
def moveDone (d : Dev) (m : Move) : Dev :=
  (((d.sendCtrl .moveEnd).closeIf m.ticket 0 0 2 []).moved m.kind m.unit m.spare).moveGone

/-- Steps 8 and 9: the interfaces return, the roles given are taken back one at a time once they are admitted, and the move ends. -/
def moveEnd (d : Dev) (m : Move) : Dev :=
  if m.step < 8 then ((d.movedIfs m).foldl (fun d i => d.returnIf i) d).toStep 8
  else if !d.flag 0x60000 2 || d.pairState ≠ 2 then d.moveDone m
  else if (d.movedIfs m).any fun i => Map.has d.pair.hands i then d
  else match m.given with
    | [] => d.moveDone m
    | i :: rest =>
      if (d.port i).st ≠ .admitted then d
      else
        let d := d.setWearing fun w => { w with move := w.move.map fun m => { m with given := rest } }
        (d.startTake i).toStep 9

/-- COURSE_MOVE and LANE_MOVE: the move's next step. -/
def moveStep (d : Dev) (kind : Nat) (ok bad : Bool) : Dev :=
  match d.wear.move with
  | none => if d.partnerWaits.head?.any fun w => w.1 = kind then d.tryMove else d
  | some m =>
    if m.kind ≠ kind then d
    else if m.step < 6 && d.pairState ≠ 2 then (d.abandonMove false 0x0903).closeAsk m.unit 0x0903 0
    else if m.step ≤ 2 then d.moveGive m ok
    else if m.step < 6 then (if kind = 0 then d.courseSwitch m bad else (d.laneSwitch m.unit m.spare).toStep 7)
    else d.moveEnd m

/-! ### Moves that do not -/

/-- R556: a WORN Fjarair lane moves to a spare lane of its die. -/
def fjLaneMove (d : Dev) (k : Nat) : Dev :=
  let die := k / 2
  let u := unitKey (srcLane die (d.laneAt die (80 + k % 2))) 0
  if !d.wear.waits.contains (3, u) then d
  else match d.sparesOf 3 u with
    | [] => ((d.unwait (3, u)).noSpare 3 u).closeAsk u 0x0902 0
    | s :: _ => ((((d.unwait (3, u)).fjLane k false).laneSwitch u s).event 0x700008 9).moved 3 u s

/-- R631: the first WORN pseudo-channel of a stack is replaced; `ok` says that the copy succeeds. -/
def pcMove (d : Dev) (m : Nat) (ok : Bool) : Dev :=
  match d.wear.waits.find? fun w => w.1 = 6 && keySrc w.2 = srcMem m with
  | none => d
  | some w =>
    if !d.isOn (110 + m) then d
    else match d.sparesOf 6 w.2 with
    | [] => (d.unwait w).noSpare 6 w.2
    | s :: _ =>
      if !ok then ((d.setWear s fun u => { u with st := some 3 }).raise (keySrc s) 0xC063).wornNoted
      else
        let d := (d.setWear s fun u => { u with st := some 0 }).setWear w.2 fun u => { u with st := some 4 }
        (d.unwait w).moved 6 w.2 s

/-- MOVE_RETRY. -/
def moveRetry (d : Dev) : Dev := if d.wear.move.isSome then d else d.tryMove

/-- ENGINE_MIGRATION, with the ticket of its bring-in. -/
def engineMove (d : Dev) (s p : Nat) (ok : Bool) : Dev :=
  let k := unitKey (srcEng s p) 0
  let spare := d.sparePos s
  let had := Map.has (d.eng s p).intr 0
  let d := d.engineMigration s p ok
  match spare with
  | none => if had && !Map.has (d.eng s p).intr 0 then (d.noSpare 1 k).closeAsk k 0x0902 0 else d
  | some q =>
    let d := if had && !ok && d.unitState (unitKey (srcEng s q) 0) = 3 then d.wornNoted else d
    if d.unitState k = 4 then (d.spend 1).ledgerChange.closeAsk k 0 q
    else if had && !Map.has (d.eng s p).intr 0 then d.closeAsk k 0x0C 0 else d

/-- BANK_REPLACE, with the ticket of its bring-in. -/
def bankSwap (d : Dev) (b : Nat) (verified : Bool) : Dev :=
  let k := unitKey (srcBank b) 0
  let was := d.bankState b
  let spare := (d.spareBank (b < 34)).getD b
  let d := d.bankReplace b verified
  let d := if was = 3 && spare ≠ b && d.bankState spare = 3 then d.wornNoted else d
  if was = 3 && d.bankState b = 4 then d.moved 2 k (unitKey (srcBank spare) 0)
  else if was = 3 && (d.spareBank (b < 34)).isNone then (d.noSpare 2 k).closeAsk k 0x0902 0
  else d

/-! ### Spares, the ledger and the projection (R529, R638 to R641) -/

/-- Units of a kind and instance of SPARE_STATUS, by key. -/
def unitsOf (kind inst : Nat) : List Nat := match kind with
  | 0 => ((List.range 8).map fun n => unitKey (srcCourse (8 * inst + n)) 0) ++ [unitKey (srcCourse (16 + inst)) 0]
  | 1 => (List.range 9).map fun p => unitKey (srcEng inst p) 0
  | 2 => (List.range 34).map fun n => unitKey (srcBank (34 * inst + n)) 0
  | 3 => (List.range 88).map fun n => unitKey (srcLane inst n) 0
  | 6 => (List.range 34).map fun n => unitKey (srcMem inst) n
  | 8 => [unitKey 0xC001 0, unitKey 0xC002 0]
  | _ => []

/-- Spare rows left of a memory ID (R592). -/
def rowsLeft (d : Dev) (m : Nat) : Nat := 2 * Config.macros m - (d.mem m).gone.foldl (fun n e => n + e.2) 0

/-- HBM repairs left of a stack. -/
def repairsLeft (d : Dev) (m : Nat) : Nat := Config.hbmRepairs - Map.getD (d.mem m).gone 0 0

/-- Memory IDs of a core die's SRAM. -/
def dieMems (die : Nat) : List Nat := [4, 6, 8, 10, 12, 14, 16].map (· + die)

/-- Spares left of a kind and instance (R529). -/
def sparesAt (d : Dev) (kind inst : Nat) : Nat := match kind with
  | 4 => (dieMems inst).foldl (fun n m => n + d.rowsLeft m) 0
  | 5 => sparesLeft (d.half inst)
  | 7 => d.repairsLeft inst
  | 8 => b2n (d.stw.spare ≤ 1)
  | _ => ((unitsOf kind inst).filter fun k => d.unitState k = 1).length

/-- Instances of a kind in SPARE_STATUS. -/
def instances (kind : Nat) : Nat := match kind with
  | 1 => 64
  | 3 => 4
  | 8 => 1
  | _ => 2

/-- The spares term of a kind in hours (R641). -/
def spareTerm (d : Dev) (kind : Nat) : Option Nat :=
  let c := (d.wear.spent.filter fun e => e.1 = kind && d.hoursOn < e.2 + 8760).length
  if c = 0 || d.hoursOn < 24 then none
  else some ((List.range (instances kind)).foldl (fun n i => n + d.sparesAt kind i) 0 * 8760 / c)

/-- The thermal term of a region in hours (R641): what is left of the rated life at the mean factor of the last 720 hours. -/
def heatTerm (d : Dev) (r : Nat) : Option Nat :=
  let n := min 720 d.wear.hours.length
  let u := d.wear.heat.getD r 0
  let then_ := (d.wear.hours.getD n []).getD r 0
  if n < 24 || u ≤ then_ then none else some ((350400 * 3600000000 - u) * n / (u - then_))

/-- WEAR_LIFE brought up to date. -/
def project (d : Dev) : Dev :=
  let terms := ((List.range 8).filterMap d.heatTerm) ++ ([0, 1, 2, 3, 4, 5, 6, 7, 8].filterMap d.spareTerm)
  match terms with
  | [] => d.setReg 0x60018 0
  | t :: ts =>
    let h := ts.foldl min t
    let m := h / 730 + b2n (h % 730 ≠ 0 && Config.monthsRoundUp h)
    d.setReg 0x60018 (2 ^ 31 + min 65535 m)

/-- R638, R639: what a page set says of the block as it stands. A move in progress is one that waits, and its spare is SPARE; runs of
drifts and counts of faults are in no section. -/
def pagesNow (d : Dev) : WearPages :=
  let off (p : Nat) (e : Engine) : Option Nat :=
    let st := if engState e p ≥ 4 then engState e p else 0
    if st = (if p = 8 then 4 else 0) then none else some st
  let w := d.wear
  { wear := { w with move := none, noted := [], asks := [], pages := 0,
                     waits := w.waits ++ (match w.move with | some m => [(m.kind, m.unit)] | none => []),
                     units := w.units.map fun u =>
                       (u.1, { st := if u.2.st = some 2 then some 1 else u.2.st, drifts := u.2.drifts }) }
    engs := d.sets.flatMap fun s => s.2.engines.filterMap fun e => (off e.1 e.2).map fun st => (16 * s.1 + e.1, st)
    banks := d.banks.filterMap fun b => b.2.st.map fun st => (b.1, if st = 2 then 1 else st)
    serving := d.serving, asmMap := d.asmMap, laneMap := d.laneMap
    rows := d.mems.map fun m => (m.1, m.2.gone)
    west := d.west.retired, east := d.east.retired, hours := d.hoursOn }

/-- R624, R661: units, assignments, rows and bricks as a page set has them. -/
def restorePages (d : Dev) (p : WearPages) : Dev :=
  let half (l : List Nat) : Half :=
    { retired := l, spareOut := l.length > 13312,
      returned := ((List.range (min l.length 13312)).map (655360 + ·)).filter fun b => !l.contains b }
  let d : Dev :=
    { d with wear := { p.wear with heatAt := d.now, heatT := [] }, serving := p.serving, asmMap := p.asmMap, laneMap := p.laneMap,
             banks := p.banks.map fun b => (b.1, { st := some b.2 }), mems := p.rows.map fun m => (m.1, { gone := m.2 }),
             west := half p.west, east := half p.east }
  let d := p.engs.foldl (fun d e => d.setEng (e.1 / 16) (e.1 % 16) fun x => { x with st := some e.2 }) d
  (((d.clearCnt 0x60100).bump 0x60100 p.hours).judge 0).judge 1

/-- LEDGER_PAGE_WRITE (R638): a page after an hour or a change; it waits while FLASH_PROGRAM holds the flash (R659). -/
def ledgerPage (d : Dev) (hourly ok : Bool) : Dev :=
  let busy := d.mbxs.any fun x => x.2.tickets.any fun t => t.req.opcode = 0x0B06
  if busy || (!hourly && d.wear.pages = 0) then d
  else
    let d := if hourly then
        let d := d.bump 0x60100
        let run := d.fld 0x50018 31 30 < 2
        (d.setWearing fun w => { w with hours := (w.heat :: w.hours).take 721, inFull := w.inFull + b2n run }).project
      else d.setWearing fun w => { w with pages := w.pages - 1 }
    if ok then
      let d := d.bump 0x60120
      { d with boot := { d.boot with ledger := d.pagesNow } }
    else (d.raise 0xC000 0xC064).event 0x6000C 3

/-! ### The stewards -/

/-- STEWARD_HEARTBEAT_LOSS (R633). -/
def heartbeatStops (d : Dev) : Dev := if d.stage ≥ 3 && d.isOn (2 + d.stw.active) then d.stewardLost else d

/-- What the role moves to in a planned change: STEWARD_SWAP completes (R532). -/
def swapDone (d : Dev) (s : Swap) (version : Nat) : Dev :=
  let d := (d.setStw fun x => { x with swap := none }).plannedChange s.halt
  d.closeIf s.ticket 0 0 2 [version]

/-- SPARE_IMAGE_LOADED (R635, R636): the spare has loaded an image; `signed` says that it checks, `accepts` that it accepts the
formats of step 3. While a move runs the swap waits up to 100 ms (R637); a spare whose swap comes to nothing loads the running
image. -/
def spareLoaded (d : Dev) (signed accepts : Bool) : Dev :=
  if d.stw.spare ≠ 1 || d.stw.halted.contains (1 - d.stw.active) then d
  else match d.stw.swap with
    | none =>
      if !signed then d.setStw fun s => { s with spare := 2 }
      else
        let d := d.setStw fun s => { s with spare := 0 }
        if d.stw.lostAt.isSome then d.takeLedger else d.stewardWorn
    | some s =>
      if !signed then (d.setStw fun x => { x with swap := none, spare := 1 }).closeIf s.ticket 8 0 1 []
      else if !accepts then (d.setStw fun x => { x with swap := none, spare := 1 }).closeIf s.ticket 0x0C 0x10 1 []
      else if d.wear.move.isSome then
        match s.since with
        | none => d.setStw fun x => { x with swap := some { s with since := some d.now } }
        | some t => if d.now < t + 100000000 then d else (d.setStw fun x => { x with swap := none, spare := 1 }).closeIf s.ticket 1 0 1 []
      else
        let img := if s.image = 1 then d.boot.slotA else if s.image = 2 then d.boot.slotB else d.boot.image
        ({ d with boot := { d.boot with image := img } } : Dev).swapDone s img.version

/-- R83: the lane's near-end test ends: it passes, and the fault is the partner's, or fails, and is the lane's (R93). -/
def laneTested (d : Dev) (die x : Nat) (passes : Bool) : Dev :=
  let l := d.laneAt die x
  if !(Map.getD d.lanes (die * 128 + l) {}).testing then d
  else
    let d := d.setLane die l fun y => { y with testing := false }
    if passes then d.excludeLane die x
    else d.countWear (srcLane die l) 0x1021 []

end Dev

/-- MONITOR_MEASUREMENT (R620): unit by source and index, monitor, measured time in ps, VDD_CORE in mV, reading in °C, and whether the
measurement is to be discarded for what it overlapped or for its check. -/
def execMonitorMeasurement (src index : BitVec 16) (mon : Fin 4) (tm mv : Nat) (tj : Int) (overlap bad : Bool) (s : State) : Result :=
  s.act (·.measure src.toNat index.toNat mon tm mv tj overlap bad)

/-- COURSE_MOVE (R628): the next step of the course move; `ok` says that the spare is ready, `bad` that the old slice cannot be read. -/
def execCourseMove (ok bad : Bool) (s : State) : Result := s.act fun d => (d.moveStep 0 ok bad).settle

/-- LANE_MOVE (R630): the next step of the lane move. -/
def execLaneMove (ok : Bool) (s : State) : Result := s.act fun d => (d.moveStep 3 ok false).settle

/-- FJARAIR_LANE_MOVE (R556). -/
def execFjarairLaneMove (lane : Fin 8) (s : State) : Result := s.act (·.fjLaneMove lane)

/-- PSEUDO_CHANNEL_MOVE (R631). -/
def execPseudoChannelMove (stack : Fin 2) (ok : Bool) (s : State) : Result := s.act (·.pcMove stack ok)

/-- MOVE_RETRY (R626). -/
def execMoveRetry (s : State) : Result := s.act Dev.moveRetry

/-- ENGINE_MIGRATION (R405): `ok` says that the spare's self-test passes. -/
def execEngineMigration (set : Fin 64) (pos : Fin 9) (ok : Bool) (s : State) : Result := s.act (·.engineMove set pos ok)

/-- BANK_REPLACE (R161): the WORN bank, and whether its spare verifies. -/
def execBankReplace (bank : Fin 68) (verified : Bool) (s : State) : Result := s.act (·.bankSwap bank verified)

/-- LEDGER_PAGE_WRITE (R638): after an hour or after a change, and whether the write succeeds. -/
def execLedgerPageWrite (hourly ok : Bool) (s : State) : Result := s.act (·.ledgerPage hourly ok)

/-- STEWARD_HEARTBEAT_LOSS (R633). -/
def execStewardHeartbeatLoss (s : State) : Result := s.act Dev.heartbeatStops

/-- SPARE_IMAGE_LOADED (R635): whether the image's signature checks and whether it accepts the state formats. -/
def execSpareImageLoaded (signed accepts : Bool) (s : State) : Result := s.act (·.spareLoaded signed accepts)

/-- STEWARD_ROLE_CHANGE (R491): `planned` of a WORN steward, or unplanned as it is lost. -/
def execStewardRoleChange (planned : Bool) (s : State) : Result :=
  s.act fun d => if planned then d.stewardWorn else d.heartbeatStops

/-- LANE_SELF_TEST_DONE (R83): lane die, ball group, and whether the near-end test passes. -/
def execLaneSelfTestDone (die : Fin 4) (group : Fin 82) (passes : Bool) (s : State) : Result := s.act (·.laneTested die group passes)

/-- INJ_MON (R642). -/
def execInjMon (s : State) : Result := s.host (·.setBit 0x60010 0)

end Sys2Proof.Machine
end

