-- ==== Sys2Proof/Machine/Boot.lean ====
section
/-! DEFINITION. Start-up (R646 to R663): OTP, the choice of an image, the steps of R648 and the first state. -/

namespace Sys2Proof.Machine

namespace Dev

/-- That state of start-up changed. -/
def setBoot (d : Dev) (f : Boot → Boot) : Dev := { d with boot := f d.boot }

/-- STAGE set, with the last step of R648 completed. -/
def toStage (d : Dev) (stage step : Nat) : Dev := (d.setFld 0x20C 31 29 stage).setBoot fun b => { b with step := step }

/-- The image of a slot, 0 A and 1 B. -/
def flashSlot (d : Dev) (s : Nat) : FlashImage := if s = 0 then d.boot.slotA else d.boot.slotB

/-- A failed-attempt count. -/
def fails (d : Dev) (s : Nat) : Nat := if s = 0 then d.boot.failsA else d.boot.failsB

/-- A failed-attempt count set (R655). -/
def setFails (d : Dev) (s n : Nat) : Dev :=
  d.setBoot fun b => if s = 0 then { b with failsA := n } else { b with failsB := n }

/-- R653: fields whose copies disagree take the more restrictive value. -/
def readOtp (d : Dev) (f : BootFacts) : Dev :=
  let svn := match f.svnCopy with
    | some n => max d.boot.fwSvn n
    | none => d.boot.fwSvn
  let n := b2n (f.otpBad ≠ 0) + b2n (svn ≠ d.boot.fwSvn) + b2n (f.tileBad ≠ 0)
  let d := d.setBoot fun b =>
    { b with fwSvn := svn, keys := b.keys.zipIdx.map fun k => if f.otpBad.getLsbD k.2 then { k.1 with revoked := true } else k.1 }
  let d := { d with tileKeys := d.tileKeys.zipIdx.map fun k => if f.tileBad.getLsbD k.2 then { k.1 with revoked := true } else k.1 }
  if n = 0 then d else d.raise 0xE000 0xE004

/-- R654: the number of the first check that refuses an image. -/
def imageRefused (d : Dev) (x : FlashImage) : Option Nat :=
  let k := d.boot.keys.getD x.keySlot {}
  if !x.good then some 1
  else if !k.use.testBit 0 || k.revoked then some 2
  else if x.svn < d.boot.fwSvn then some 3
  else if !x.signed then some 4
  else if !x.resident then some 5
  else none

/-- R655: the candidate slots, in the order in which they are tried. -/
def bootSlots (d : Dev) : List Nat :=
  let a := d.boot.slotA
  let b := d.boot.slotB
  let bFirst := d.boot.straps.testBit 2 || b.svn > a.svn || (b.svn = a.svn && b.version > a.version)
  (if bFirst then [1, 0] else [0, 1]).filter fun s => d.fails s < 2

/-- R655: the slots tried in turn; the one that passes. -/
def trySlots (d : Dev) : List Nat → Dev × Option Nat
  | [] => (d.raise 0xE000 0xE003, none)
  | s :: l =>
    let d := d.setFld 0x20C 28 28 s
    match d.imageRefused (d.flashSlot s) with
    | none => (d, some s)
    | some n => (d.raise 0xE000 0xE001 [s, n]).trySlots l

/-- R650, R57: step 5. The caller holds 680 mV, the references are seen, and the time island loads if it does not run. -/
def startClocks (d : Dev) (f : BootFacts) : Dev :=
  let d := d.avsTarget 680
  let d := d.setTime fun t =>
    let here (r : Nat) : Bool := if r = 0 then f.ref156 else f.ref10
    { t with ref156 := f.ref156, ref10 := f.ref10, active := if here t.active then t.active else if f.ref156 then 0 else 1 }
  if d.time.running || !(f.ref156 || f.ref10) then d
  else match d.time.snapshot with
    | some s => d.loadSnapshot s f.counter.toNat
    | none => d.loadLost

/-- R638: step 6. -/
def readLedger (d : Dev) (bad : Bool) : Dev :=
  if bad then ((d.setBoot fun b => { b with ledger := {} }).raise 0xC000 0xC064).event 0x6000C 3
  else
    let d := d.restorePages d.boot.ledger
    d.setWearing fun w => { w with powerOns := w.powerOns + b2n (d.fld 0x218 31 16 = 0) }

/-- R647: a West steward that the ledger has WORN gives the role to the East. -/
def westWorn (d : Dev) : Dev :=
  let worn (s : Nat) : Bool := d.unitState (unitKey (srcSteward s) 0) ≥ 3
  if d.stw.active = 0 && worn 0 && !worn 1 then d.plannedChange false else d

/-- R658: slots revoked and the minimum version raised, as the running image asks. -/
def obeyHeader (d : Dev) : Dev :=
  let x := d.boot.image
  let other := d.flashSlot (1 - d.fld 0x20C 28 28)
  let d := [0, 1, 2, 3].foldl (fun d i =>
    let usable := ((List.range 4).filter fun j => let k := d.boot.keys.getD j {}; k.use.testBit 0 && !k.revoked)
    if x.revoke.testBit i && i ≠ x.keySlot && usable ≠ [i] && !(d.boot.keys.getD i {}).revoked then
      (d.setBoot fun b => { b with keys := b.keys.modify i fun k => { k with revoked := true } }).raise 0xE000 0xE006 [i]
    else d) d
  let safe := match d.imageRefused other with
    | none => true
    | some n => n = 5
  if x.svnLock && safe && other.svn ≥ x.svn then d.setBoot fun b => { b with fwSvn := max b.fwSvn x.svn } else d

/-- R602, R656: a record made of an error that AON retained; its reaction is its code's. -/
def requeue (d : Dev) : Dev :=
  let old := d.faults.again ++ d.faults.kept.map fun (p : Pend) =>
    { seq := 0, code := p.code, sev := sevOf (codeReact p.code) p.wear, react := codeReact p.code, whileHandling := false,
      injected := p.injected, requeued := true, overridden := false, srcState := 0, coalesced := p.coalesced, src := p.src,
      recoveries := 0, earlier := 0, mono := p.mono, sec := p.sec, tim := p.tim, ns := p.ns, detail := p.detail }
  let d := d.setFaults fun x => { x with kept := [], again := [] }
  old.foldl (fun d (r : Rec) =>
    let n := d.faults.nextSeq
    (d.setFaults fun x => { x with nextSeq := n + 1 }).queueFault { r with seq := n }) d

/-- R428, R662: the first state, in Keep, with every interface WITHDRAWN. -/
def enterRunning (d : Dev) (ms : Nat) : Dev :=
  let on := [106, 107, 108, 109]
  let retain := ((List.range 18).filter fun c => d.nameOf c ≠ none).map (· + 4) ++ (List.range 64).map (· + 38)
    ++ [102, 103, 104, 105, 110, 111]
  let d := retain.foldl (fun d k => d.setDom k .retain) (on.foldl (fun d k => d.setDom k .on) d)
  let d := ifaces.foldl (fun d i => if d.inMode i then d.setPort i fun p => { p with st := .withdrawn, since := d.now } else d) d
  let d := (d.setFails (d.fld 0x20C 28 28) 0).obeyHeader
  ((d.setFld 0x21C 31 16 (min 65535 ms)).toStage 3 11).requeue

/-- Steps 5 to 11 of R648 on an image. -/
def bringUp (d : Dev) (s : Nat) (f : BootFacts) : Dev :=
  let x := d.flashSlot s
  let d := (((d.setBoot fun b => { b with image := x }).setFld 0x20C 27 26 x.keySlot).toStage 2 (min f.upTo 6)).startClocks f
  if f.upTo.val < 6 then d
  else
    let d := (d.readLedger f.ledgerBad).westWorn
    if !(f.ref156 || f.ref10) then (d.raise 0xB000 0xB001).toStage 4 6
    else if f.upTo.val < 9 then d.toStage 2 f.upTo
    else if !x.pages then ((d.raise 0xE000 0xE002).setFails s 2).warmReset 5
    else
      let spare := unitKey (srcSteward (1 - d.stw.active)) 0
      let d := d.setStw fun w =>
        { w with spare := if w.spare = 2 || d.unitState spare ≥ 3 then 2 else if f.spareOk then 0 else 1 }
      if f.upTo.val < 11 then d.toStage 2 f.upTo else d.enterRunning f.ms

/-- START_UP: from the release of DEV_RST_N to RUN, SAFE or TEST, or to the step that never completes. -/
def startUp (d : Dev) (f : BootFacts) : Dev :=
  if d.stage ≠ 0 || d.boot.step ≠ 0 || d.boot.por || d.power.tripLow then d
  else
    let d := [1, 2, 3].foldl (fun d k => d.setDom k .on) (d.setBoot fun b => { b with step := 2 })
    if f.upTo.val < 3 then d
    else
      let d := d.readOtp f
      if d.boot.straps.testBit 3 then d.toStage 5 3
      else
        let d := d.unmute 0
        if f.upTo.val = 3 then (d.setFld 0x20C 28 28 (d.bootSlots.headD 0)).toStage 1 3
        else
          match d.trySlots d.bootSlots with
          | (d, none) => d.toStage 4 4
          | (d, some s) => d.bringUp s f

/-- R656: the boot watchdog, while a slot is being booted; a step before the choice of a slot counts against none. -/
def watchdog (d : Dev) : Dev :=
  if d.stage ≥ 3 || d.boot.step < 2 then d
  else
    let s := d.fld 0x20C 28 28
    let d := if d.stage = 0 then d else d.setFails s (min 3 (d.fails s + 1))
    (d.raise 0xE000 0xE005).warmReset 5

end Dev

/-- START_UP (R648). -/
def execStartUp (facts : BootFacts) (s : State) : Result := s.act (·.startUp facts)

/-- ROM_SELF_CHECK_TIMEOUT (R647): the East steward will take the role at step 3. -/
def execRomSelfCheckTimeout (s : State) : Result :=
  s.act fun d => if d.stage = 0 && d.boot.step = 0 then d.setStw fun w => { w with active := 1, spare := 2 } else d

/-- BOOT_WATCHDOG (R656). -/
def execBootWatchdog (s : State) : Result := s.act Dev.watchdog

end Sys2Proof.Machine
end

