-- ==== Sys2Proof/Machine/ReadBack.lean ====
section
/-! DEFINITION. What a read of BAR0 returns: stored fields, and over them the read-only fields that other state determines; the
counters; the mailbox areas. -/

namespace Sys2Proof.Machine

/-- STATE of a domain as PWR_DOM codes it. -/
def DomState.code : DomState → Nat
  | .on => 0
  | .retain => 1
  | .draining => 2
  | .off => 3

/-- Fields that replace those stored: high bit, low bit, value. -/
abbrev Fields := List (Nat × Nat × Nat)

namespace Dev

/-! ### Blocks -/

/-- Valid contexts of the store, with those that only a cache slice holds yet. -/
def ctxUsed (d : Dev) : Nat :=
  let cached := d.slices.flatMap fun s => s.2.sets.flatMap fun e => e.2.filterMap fun w => match w with
    | .line i c _ => if c.valid then some i else none
    | .pend _ _ _ => none
  let stored := (d.store.filter fun e => (d.ctx e.1).valid).map (·.1)
  (cached.filter fun i => !Map.has d.store i).length + stored.length

/-- Whether debug has halted an engine or a steward. -/
def debugHalted (d : Dev) : Bool :=
  !d.stw.halted.isEmpty || d.sets.any fun s => s.2.engines.any fun e => engState e.2 e.1 = 3

/-- The global block (R2, R285, R665, R683). -/
def glbRead (d : Dev) (a : Nat) : Fields :=
  let e := d.epochs
  let old := d.slot d.otherTag
  let region (r : Nat) : Fields := [(28, 18, (d.regionTiles r).length), (17, 0, d.regionPages r)]
  let b := d.boot
  match a with
  | 0x000 => [(7, 4, Config.pkg), (0, 0, d.side)]
  | 0x100 => [(31, 16, (d.slot e.curTag).num), (0, 0, e.curTag)]
  | 0x104 => if e.draining then [(31, 16, old.num), (1, 1, 1), (0, 0, d.otherTag)] else []
  | 0x108 => [(31, 30, e.pend), (15, 0, if e.pend = 0 then 0 else e.base)]
  | 0x10C => [(31, 0, min (2 ^ 32 - 1) (d.drainCount 0))]
  | 0x110 => [(31, 0, min (2 ^ 32 - 1) (d.drainCount 1))]
  | 0x114 => region 0
  | 0x118 => region 1
  | 0x124 => [(31, 0, (Map.getD d.latch 0x124 0).toNat)]
  | 0x20C =>
    let revoked := b.keys.zipIdx.foldl (fun n k => n + b2n k.1.revoked * 2 ^ k.2) 0
    [(25, 22, revoked), (21, 18, b.straps), (17, 16, b.failsA), (15, 14, b.failsB), (6, 0, b.fwSvn)]
  | 0x220 => [(26, 26, b2n d.debugHalted)]
  | _ => []

/-- A mailbox's control registers (R495). -/
def mbxRead (d : Dev) (m o : Nat) : Fields :=
  let x := d.mbx m
  if o = 0x08 then [(22, 22, d.stw.active), (21, 13, x.held.length), (12, 6, x.tickets.length), (1, 0, x.st)] else []

/-- The collector (R616), the scrubbers (R595). -/
def fltRead (d : Dev) (o : Nat) : Fields :=
  let s := d.reg 0x30018 % 2 ^ 16
  if o = 0x04 then [(24, 16, d.faults.queue.length)]
  else if o = 0x1C then
    [(31, 30, (d.srcOf s).state), (29, 26, min 8 (d.inHour s)), (15, 0, (d.srcOf s).recoveries)]
  else if 0x100 ≤ o && o < 0x140 then
    match d.faults.queue.head? with
    | some r => [(31, 0, r.toWords.getD ((o - 0x100) / 4) 0)]
    | none => []
  else if 0x8000 ≤ o && o < 0x8000 + 23 * 0x40 && o % 0x40 = 4 then
    let m := (o - 0x8000) / 0x40
    [(23, 8, min 65535 (if m = 2 || m = 3 then d.repairsLeft m else d.rowsLeft m))]
  else []

/-- The time island (R43). -/
def timRead (d : Dev) (o : Nat) : Fields :=
  match o with
  | 0x04 => [(15, 8, d.time.lockCount), (3, 2, d.time.active), (1, 0, d.timCode)]
  | 0x08 => [(29, 0, d.time.wall / nsUnit % 1000000000)]
  | 0x24 => [(31, 0, d.errBound)]
  | 0x2C => [(31, 0, d.time.mono / nsUnit % 2 ^ 32)]
  | _ => []

/-- WEAR_UNIT (R642). -/
def wearRead (d : Dev) (o : Nat) : Fields :=
  if o ≠ 0x20 then []
  else
    let src := d.fld 0x6001C 31 16
    let k := unitKey src (d.fld 0x6001C 15 0)
    let span := d.fld (0x60040 + 4 * (kindOf src % 10)) 31 16 * 3600000000000
    let n := ((d.wearUnit k).faults.filter fun t => d.now < t + span).length
    let top := match (d.wearUnit k).drifts with
      | [] => 0
      | x :: l => l.foldl (fun m y => max m y.2) x.2
    [(31, 29, d.unitState k), (23, 16, min 255 n), (15, 0, ofSigned 16 (clampInt (-32768) 32767 top))]

/-- The registers of a physical course, and those of the course of the block's name. -/
def crsRead (d : Dev) (c o : Nat) : Fields :=
  let s := d.course c
  if o = 0x204 then [(10, 0, s.recirc.length)]
  else if o = 0x808 then [(27, 16, s.frags.length), (8, 0, s.hold.length)]
  else if o = 0xC10 then [(25, 13, s.notices.length), (12, 0, s.missq.length)]
  else if o = 0xC1C then [(18, 0, s.learned.length)]
  else if c < 16 && 0xC60 ≤ o && o < 0xC74 then
    let p := (o - 0xC60) / 4
    [(18, 0, d.l2Count (d.physical c) (if p < 3 then 3 * c + p else if p = 3 then 64 + c else 80 + c))]
  else if c = 0 && o = 0xD0C then [(24, 0, d.ctxUsed)]
  else []

/-- The lowest and highest lane registers, and the blocks of interfaces (R90, R92). -/
def prtRead (d : Dev) (a : Nat) : Fields :=
  if 0x280000 ≤ a then
    let die := (a - 0x280000) / 0x10000
    let x := (a - 0x280000) % 0x10000 / 0x100
    if die < 4 && x < 82 && a % 0x100 = 0 then [(6, 0, d.laneAt die x)] else []
  else
    let i := if a < 0x260000 then (a - 0x200000) / 0x2000
      else (if a % 0x2000 < 0x1000 then 64 else 80) + (a - 0x260000) / 0x2000
    let p := d.port i
    match a - portBase i with
    | 0x04 =>
      [(23, 16, p.excluded), (10, 10, b2n p.present), (9, 9, b2n p.quarPending), (8, 8, b2n p.preActive), (7, 7, b2n p.active),
       (6, 4, p.speed), (2, 0, p.st.code)]
    | 0x24 => [(31, 0, p.seq % 2 ^ 32)]
    | 0x28 => [(31, 0, (Map.getD d.latch a 0).toNat)]
    | _ => []

/-- The interface of a scheduler block. -/
def schIface (a : Nat) : Nat := (a - 0x301000) / 0x400

/-- The registers of an interface's scheduler and reel (R342, R367). -/
def schRead (d : Dev) (a : Nat) : Fields :=
  if a < 0x301000 then []
  else
    let i := schIface a
    let r := d.reels i
    let start : Nat := match r.pend with
      | some p => p.start
      | none => r.atNs
    match a - schBase i with
    | 0x14 => [(19, 0, d.cirSum i fun _ => true)]
    | 0x308 =>
      let fig := match r.cur with
        | some x => if d.reelMode i = 0 then 0 else figureAt x d.wallTotal
        | none => 0
      [(31, 30, d.reelMode i), (29, 29, b2n r.pend.isSome), (23, 16, d.gatesNow i), (10, 0, fig)]
    | 0x310 => [(31, 0, min (2 ^ 32 - 1) r.lateN)]
    | 0x314 => [(31, 0, (r.cur.map (·.tileId)).getD 0)]
    | 0x318 => [(31, 0, (r.pend.map (·.tileId)).getD 0)]
    | 0x31C => [(29, 0, start % 1000000000)]
    | 0x320 => [(31, 0, (Map.getD d.latch a 0).toNat)]
    | 0x324 => [(15, 0, (Map.getD d.latch a 0).toNat)]
    | 0x32C =>
      let q := d.fld (schBase i + 0x328) 10 0
      [(31, 0, if q < d.qcount i then (d.queue (qbase i + q)).holdOverrun else 0)]
    | _ => []

/-- A buffer half (R310). -/
def brkRead (d : Dev) (h o : Nat) : Fields :=
  let x := d.half h
  if o = 0x04 then [(27, 26, x.level), (20, 0, (max 0 (d.freeOf h)).toNat)]
  else if o = 0x24 then [(20, 0, inService x)]
  else if o = 0x28 then [(20, 0, sparesLeft x)]
  else if o = 0x2C then [(20, 0, x.retired.length)]
  else if o = 0x30 then [(20, 0, x.retiring.length)]
  else if o = 0x34 then [(31, 0, x.lap)]
  else if 0x80 ≤ o && o < 0xA0 then [(20, 0, usedOf x ((o - 0x80) / 4))]
  else if 0x100 ≤ o && o < 0x280 then [(20, 0, ifUsed x ((o - 0x100) / 4))]
  else []

/-- Banks, the bank map and the automata units (R177, R178). -/
def asmRead (d : Dev) (a : Nat) : Fields :=
  if a < 0x518000 then
    let b := (a - 0x500000) / 0x400
    if a % 0x400 = 4 then [(30, 28, d.bankState b), (11, 0, d.bankUsed b)] else []
  else if a < 0x518100 then [(6, 0, d.physBank ((a - 0x518000) / 4))]
  else if 0x580000 ≤ a then
    let u := (a - 0x580000) / 0x1000
    let st := if d.faults.isolated.contains (srcAu u) then 2 else b2n (d.isOn (22 + u))
    if a % 0x1000 = 4 then [(31, 30, st), (26, 16, (d.au u).queue.length)] else []
  else []

/-- STATE of an engine as SET_ENG shows it. -/
def engShown (d : Dev) (s p : Nat) : Nat :=
  let e := d.eng s p
  let st := engState e p
  if st = 0 && e.item.isSome then (if e.wait then 2 else 1) else if st = 7 then 5 else st

/-- Positions of a set in service: a WORN one serves until its spare does. -/
def inSvc (d : Dev) (s : Nat) : List Nat := (List.range 9).filter fun p => let st := engState (d.eng s p) p; st < 4 || st = 5

/-- A set (R410). -/
def setRead (d : Dev) (s o : Nat) : Fields :=
  let mask (l : List Nat) : Nat := l.foldl (fun n p => n + 2 ^ p) 0
  if o = 0x04 then
    let svc := d.inSvc s
    let st :=
      if d.fld (setBase s + 4) 30 28 = 3 then 3
      else match d.dom (38 + s) with
        | .draining => 1
        | .on => if !svc.isEmpty && svc.all fun p => d.engShown s p = 3 then 4 else 0
        | .off => 2
        | .retain => 2
    [(30, 28, st), (21, 18, ((List.range 9).find? fun p => d.engShown s p = 4).getD 15), (17, 9, mask svc),
     (8, 0, mask ((List.range 9).filter fun p => (d.eng s p).item.isSome))]
  else if 0x20 ≤ o && o < 0x44 then
    let p := (o - 0x20) / 4
    let e := d.eng s p
    [(31, 28, d.engShown s p), (27, 16, e.core.pc), (11, 8, e.journal.length), (7, 0, e.lastTrap)]
  else []

/-- The fields of a register that other state determines. -/
def derived (d : Dev) (a : Nat) : Fields :=
  if a < 0x10000 then d.glbRead a
  else if a < 0x20000 then d.mbxRead ((a - 0x10000) / 0x2000) (a % 0x1000)
  else if a < 0x30000 then
    let c := (a - 0x20000) / 0x400
    if a % 0x400 = 0x3C then [(24, 16, (d.chan c).held.length), (12, 0, (d.chan c).posted.length)] else []
  else if a < 0x40000 then d.fltRead (a - 0x30000)
  else if a < 0x50000 then d.timRead (a - 0x40000)
  else if a < 0x60000 then
    let k := (a - 0x50100) / 4
    if 0x50100 ≤ a && k < 112 then [(31, 30, (d.dom k).code), (15, 0, min 65535 (d.inflight k))]
    else if a = 0x50018 then [(26, 26, b2n (d.boot.straps.testBit 1))] else []
  else if a < 0x70000 then d.wearRead (a - 0x60000)
  else if a < 0x200000 then d.crsRead ((a - 0x100000) / 0x8000) (a % 0x8000)
  else if a < 0x300000 then d.prtRead a
  else if a < 0x400000 then d.schRead a
  else if a < 0x500000 then d.brkRead ((a - 0x400000) / 0x10000) (a % 0x10000)
  else if a < 0x600000 then d.asmRead a
  else if a < 0x700000 then d.setRead ((a - 0x600000) / 0x2000) (a % 0x2000)
  else if a = 0x700004 then [(3, 0, d.pair.reports.length)]
  else []

/-! ### Reads -/

/-- A word of a mailbox's request or response area (R476). -/
def areaWord (d : Dev) (a : Nat) : Option Nat :=
  let x := d.mbx ((a - 0x10000) / 0x2000)
  let o := a % 0x2000
  if a < 0x10000 || 0x20000 ≤ a || a % 4 ≠ 0 then none
  else if o < 0x1000 then some (Map.getD x.req (o / 4) 0).toNat
  else if o < 0x1040 then none
  else some (x.rsp.getD ((o - 0x1040) / 4) 0)

/-- The bits that a read of a register may return: those of its fields that are not write-only. -/
def readMask (r : RegDef) : Nat := r.fields.foldl (fun m f => if f.acc = .wo then m else m ||| f.mask) 0

/-- The value at an address of BAR0, with no side effect; an address without a register reads 0 (R4). -/
def peek (d : Dev) (a : Nat) : Nat :=
  match d.areaWord a with
  | some w => w
  | none =>
    match reg? a with
    | some r => ((d.derived a).foldl (fun w f => withBits w f.1 f.2.1 f.2.2) (d.reg a)) &&& readMask r
    | none =>
      match cnt? a with
      | some lo => if a = lo then d.cnt lo % 2 ^ 32 else (Map.getD d.latch a 0).toNat
      | none => 0

/-- The domain whose power an address needs (R447); none for what SYS and the always-on domain hold. The device-wide table
registers are written before the courses come on, so no course's domain holds them. -/
def domOfAddr (a : Nat) : Option Nat :=
  if a < 0x100000 then none
  else if 0x100D00 ≤ a && a < 0x100D10 then none
  else if a < 0x190000 then some (4 + (a - 0x100000) / 0x8000)
  else if a < 0x200000 then none
  else if a < 0x260000 then some (106 + dieOf ((a - 0x200000) / 0x2000))
  else if a < 0x280000 then some (106 + (a - 0x260000) / 0x2000 / 4)
  else if a < 0x2C0000 then some (106 + (a - 0x280000) / 0x10000)
  else if a < 0x301000 then none
  else if a < 0x319000 then
    let i := schIface a
    if isIface i then some (104 + halfOf i) else none
  else if a < 0x400000 then none
  else if a < 0x420000 then some (104 + (a - 0x400000) / 0x10000)
  else if a < 0x500000 then none
  else if a < 0x518000 then
    let b := (a - 0x500000) / 0x400
    if b < 34 then some 102 else if b < 68 then some 103 else none
  else if a < 0x580000 then none
  else if a < 0x590000 then some (22 + (a - 0x580000) / 0x1000)
  else if a < 0x600000 then none
  else if a < 0x680000 then some (38 + (a - 0x600000) / 0x2000)
  else none

/-- Whether an access meets a domain that is not ON. -/
def unpowered (d : Dev) (a : Nat) : Bool := (domOfAddr a).any fun k => !d.isOn k

/-- Fault 0xD002, from the PCIe endpoint. -/
def offAccess (d : Dev) : Dev := d.raise 0xD080 0xD002

/-- What a read stores for a later read: the high word of a counter, of a sequence number, of COMMIT_AT, of a reel's start
(R91, R92, R285, R367). -/
def latchHigh (d : Dev) (a : Nat) : Dev :=
  let put (d : Dev) (k v : Nat) : Dev := { d with latch := Map.putD d.latch k 0 (BitVec.ofNat 32 v) }
  if cnt? a = some a then put d (a + 4) (d.cnt a / 2 ^ 32)
  else if a = 0x120 then put d 0x124 (d.reg 0x124)
  else if 0x200000 ≤ a && a < 0x280000 && a % 0x1000 = 0x24 then
    let i := if a < 0x260000 then (a - 0x200000) / 0x2000
      else (if a % 0x2000 < 0x1000 then 64 else 80) + (a - 0x260000) / 0x2000
    put d (a + 4) ((d.port i).seq / 2 ^ 32)
  else if 0x301000 ≤ a && a < 0x319000 && a % 0x400 = 0x31C then
    let r := d.reels (schIface a)
    let sec := (match r.pend with | some p => p.start | none => r.atNs) / 1000000000
    put (put d (a + 4) (sec % 2 ^ 32)) (a + 8) (sec / 2 ^ 32)
  else d

/-- RC fields cleared by a read (R5). -/
def clearRead (d : Dev) (a : Nat) : Dev :=
  match reg? a with
  | none => d
  | some r =>
    let d := r.fields.foldl (fun (d : Dev) f => if f.acc = .rc then d.setFld a f.hi f.lo 0 else d) d
    if 0x301000 ≤ a && a < 0x319000 && a % 0x400 = 0x32C then
      let i := schIface a
      let q := d.fld (schBase i + 0x328) 10 0
      if q < d.qcount i then d.setQueue (qbase i + q) fun x => { x with holdOverrun := 0 } else d
    else d

/-- A host read of BAR0 (R4, R5, R447). -/
def hostRead (d : Dev) (a : Nat) : Dev :=
  if d.unpowered a then { d.offAccess with readData := 0 }
  else if a = 0x40008 then d.readTimNs
  else if a = 0x4002C then d.readMonoLo
  else
    let v := d.peek a
    let d := (d.latchHigh a).clearRead a
    { d with readData := BitVec.ofNat 32 v }

end Dev

end Sys2Proof.Machine
end

