-- ==== Sys2Proof/Machine/RegWrite.lean ====
section
/-! DEFINITION. What a write to BAR0 does (R3 to R9): each field under its access code and commit class, and what the chapters of the
blocks say of certain registers beside it; the rows of host accesses. -/

namespace Sys2Proof.Machine

namespace Dev

/-! ### Idle blocks and rejected writes (R7, R9) -/

/-- Whether the block of an address reports itself idle. -/
def blockIdle (d : Dev) (a : Nat) : Bool :=
  if a < 0x20000 then
    let m := (a - 0x10000) / 0x2000
    !d.flag (mbxBase m + 4) 3 || ((d.mbx m).tickets.isEmpty && (d.mbx m).held.isEmpty)
  else if a < 0x30000 then d.dmaIdle ((a - 0x20000) / 0x400)
  else if 0x100D00 ≤ a && a < 0x100D10 then d.ctxUsed = 0 && (List.range 18).all fun c => (d.course c).learned.isEmpty
  else if a < 0x200000 then
    let s := d.course (d.physical ((a - 0x100000) / 0x8000))
    s.frags.isEmpty && s.hold.isEmpty
  else if a < 0x280000 then
    let i := if a < 0x260000 then (a - 0x200000) / 0x2000
      else (if a % 0x2000 < 0x1000 then 64 else 80) + (a - 0x260000) / 0x2000
    (d.port i).st = .empty || (d.port i).st = .withdrawn
  else if a < 0x400000 then
    let p := d.port (schIface a)
    p.st = .empty || p.st = .withdrawn
  else if a < 0x600000 then
    let b := (a - 0x500000) / 0x400
    d.bankUsed b = 0 && d.bankState b ≠ 2
  else if a < 0x700000 then
    (List.range 9).all fun p => (d.eng ((a - 0x600000) / 0x2000) p).item.isNone
  else d.pairState = 0 && !d.fjLinked

/-- The register that holds CFG_REJECT of the block of an address. -/
def rejectAt (a : Nat) : Nat :=
  if a < 0x20000 then (a / 0x2000) * 0x2000 + 0x1008
  else if a < 0x30000 then (a / 0x400) * 0x400 + 4
  else if 0x100D00 ≤ a && a < 0x100D10 then 0x100D0C
  else if a < 0x200000 then (a / 0x8000) * 0x8000 + 0x808
  else if a < 0x280000 then (if a < 0x260000 then a / 0x2000 * 0x2000 else a / 0x1000 * 0x1000) + 4
  else if a < 0x600000 then (a / 0x400) * 0x400 + 4
  else if a < 0x700000 then (a / 0x2000) * 0x2000 + 4
  else 0x700004

/-- CFG_REJECT set. -/
def cfgReject (d : Dev) (a : Nat) : Dev := d.setBit (rejectAt a) 31

/-! ### One field -/

/-- An EPOCH write staged (R7, R8): a later one of the same bits replaces it. -/
def stage_ (d : Dev) (a : Nat) (f : Field) (x : Nat) : Dev :=
  let m := BitVec.ofNat 32 f.mask
  let v := BitVec.ofNat 32 (x <<< f.lo)
  { d with staged := Map.upd d.staged a (0, 0) fun o => (o.1 ||| m, (o.2 &&& ~~~m) ||| (v &&& m)) }

/-- A written word taken by one field; `idle` is the block's. -/
def fieldWrite (d : Dev) (a : Nat) (idle : Bool) (v : Nat) (f : Field) : Dev :=
  let old := d.fld a f.hi f.lo
  let x := f.of v
  match f.acc with
  | .ro => d
  | .wo => d
  | .rc => d
  | .w1c => d.setFld a f.hi f.lo (old &&& (2 ^ (f.hi + 1 - f.lo) - 1 - x))
  | .w1s => d.setFld a f.hi f.lo (old ||| x)
  | .rw =>
    let x := f.limit x
    match f.cls with
    | .now => d.setFld a f.hi f.lo x
    | .epoch => d.stage_ a f x
    | .idle => if x = old then d else if idle then d.setFld a f.hi f.lo x else d.cfgReject a

/-- A word written to a register field by field (R9). -/
def plainWrite (d : Dev) (a v : Nat) : Dev :=
  match reg? a with
  | none => d
  | some r =>
    let idle := d.blockIdle a
    r.fields.foldl (fun d f => d.fieldWrite a idle v f) d

/-! ### Registers of which a chapter says more -/

/-- A DMA channel's block (R464, R465, R470). -/
def dmaRegWrite (d : Dev) (a v : Nat) : Dev :=
  let c := (a - 0x20000) / 0x400
  match a % 0x400 with
  | 0x00 =>
    let d := d.setFld a 23 8 (bits v 23 8)
    let d := if v.testBit 0 = d.flag a 0 then d else d.enableWrite c (v.testBit 0)
    let d := if v.testBit 1 then d.resumeWrite c else d
    if v.testBit 2 then d.resetWrite c else d
  | 0x1C => d.tailWrite c (v % 2 ^ 16)
  | 0x30 => d.cplTailWrite c (v % 2 ^ 16)
  | 0x38 => if bits v 26 16 = d.fld a 26 16 && bits v 11 0 = d.fld a 11 0 then d else d.hostqWrite c v
  | _ => d.plainWrite a v

/-- A mailbox's ring registers: an accepted write of base or size zeroes both indices. -/
def ringWrite (d : Dev) (m a v : Nat) : Dev :=
  let old := d.reg a
  let d := d.plainWrite a v
  if d.reg a = old then d
  else ((d.setFld (mbxBase m + 0x1C) 15 0 0).setFld (mbxBase m + 0x20) 15 0 0).setMbx m fun x => { x with passes := 0 }

/-- A write of MBX_CRING_TAIL. -/
def cringTail (d : Dev) (m v : Nat) : Dev := (d.setFld (mbxBase m + 0x1C) 15 0 (v % d.cringSize m)).recordDrain m

/-- A mailbox's control block (R479 to R482, R495). -/
def mbxRegWrite (d : Dev) (a v : Nat) : Dev :=
  let m := (a - 0x10000) / 0x2000
  match a % 0x2000 with
  | 0x1000 => d.doorbell m (v % 2 ^ 16)
  | 0x1004 =>
    let d := (d.setFld a 23 16 (bits v 23 16)).setFld a 2 2 (bits v 2 2)
    let d := if v.testBit 3 = d.flag a 3 then d
      else if d.blockIdle a then (d.setFld a 3 3 (bits v 3 3)).recordDrain m else d.cfgReject a
    let d := if v.testBit 0 then d.ack m else d
    if v.testBit 1 then d.cancelPosted m else d
  | 0x1010 => d.ringWrite m a v
  | 0x1014 => d.ringWrite m a v
  | 0x1018 => d.ringWrite m a v
  | 0x101C => d.cringTail m (v % 2 ^ 16)
  | _ => d.plainWrite a v

/-- The time island's block (R45, R46, R50). -/
def timRegWrite (d : Dev) (a v : Nat) : Dev :=
  match a with
  | 0x40000 =>
    let old := d.reg a
    (d.plainWrite a v).timCtrlWritten old
  | 0x40018 => d.writeAdj (toSigned 32 v)
  | 0x4001C => d.askStep (toSigned 32 v)
  | 0x40020 => d.servo (toSigned 32 v)
  | _ => d.plainWrite a v

/-- A bay's or network port's block (R69, R77, R78, R85, R86, R92). -/
def portRegWrite (d : Dev) (a v : Nat) : Dev :=
  let i := if a < 0x260000 then (a - 0x200000) / 0x2000
    else (if a % 0x2000 < 0x1000 then 64 else 80) + (a - 0x260000) / 0x2000
  let o := a - portBase i
  let old := d.reg a
  let d := d.plainWrite a v
  if o = 0x00 then (d.portCtrlWritten i old).settle
  else if o = 0x0C then
    let en := bits v 7 0
    let keep (m : Map Nat) : Map Nat := m.filter fun e => en.testBit e.1
    (d.setPort i fun p => { p with paused := keep p.paused, wdStart := keep p.wdStart }).sleepClasses i (255 - en)
  else if o = 0x14 then (if bits v 7 0 = bits old 7 0 then d else d.startVerify i)
  else if o = 0x04 && i < 48 then d.setPort i fun p => { p with excluded := p.excluded &&& (255 - bits v 23 16) }
  else if 0x40 ≤ o && o < 0x50 then d.setPort i fun p => { p with ctl := Map.erase p.ctl ((o - 0x40) / 4) }
  else if i < 48 && 0x80 ≤ o && o < 0x100 && o % 8 = 4 then d.loadBind i ((o - 0x84) / 8)
  else d

/-- R320: an interface shaper's credit after a write of SCH_IF_RATE or SCH_IF_BURST; `old` is before it. -/
def ifShaperWritten (d : Dev) (i : Nat) (old : Dev) : Dev :=
  let rate (d : Dev) := d.fld (schBase i + 8) 19 0
  let burst (d : Dev) := d.fld (schBase i + 0x0C) 23 0
  if rate d = rate old && burst d = burst old then d
  else d.setNode (ifKey i) fun n =>
    { n with bucket := resetBucket (d.fld (schBase i + 8) 31 31) (burst d) d.creditNow }

/-- An interface's scheduler (R320, R325, R363). -/
def schRegWrite (d : Dev) (a v : Nat) : Dev :=
  let i := schIface a
  let d' := d.plainWrite a v
  match a - schBase i with
  | 0x08 => if d'.cirOk i then d'.ifShaperWritten i d else d.setBit (schBase i + 4) 30
  | 0x0C => d'.ifShaperWritten i d
  | 0x300 => d'.noteModes d
  | 0x304 => d'.noteModes d
  | _ => d'

/-- A buffer half (R296, R299): thresholds take effect at the next grant or free, and the sweeper's lap count restarts with
SWEEP_EN (R310). -/
def brkRegWrite (d : Dev) (a v : Nat) : Dev :=
  let h := (a - 0x400000) / 0x10000
  let o := a % 0x10000
  let v := v % 2 ^ 21
  let refused := d.setBit (brkBase h + 4) 31
  if 0x10 ≤ o && o < 0x20 then
    (if d.threshOk h ((o - 0x10) / 4) v then d.setReg a v else refused)
  else if 0x40 ≤ o && o < 0x80 && o % 8 = 0 then
    (if d.resvOk h ((o - 0x40) / 8) v then (d.setReg a v).judge h else refused)
  else
    let starts := o = 0 && !d.flag a 0 && v.testBit 0
    let d := (d.plainWrite a v).press
    if starts then
      d.setHalf h fun x => { x with lapNo := 0, lapFreed := false, orphans := x.orphans.map fun e => (e.1, { e.2 with seen := 0 }) }
    else d

/-- A bank (R177): WIDTH takes no 3. -/
def bankRegWrite (d : Dev) (a v : Nat) : Dev :=
  if a % 0x400 = 0 && bits v 1 0 = 3 then (d.setFld a 2 2 (bits v 2 2)).cfgReject a else d.plainWrite a v

/-- An automata unit (R176). -/
def auRegWrite (d : Dev) (a v : Nat) : Dev :=
  let was := d.flag a 0
  let d := d.plainWrite a v
  if a % 0x1000 = 0 && was && !d.flag a 0 then d.auLeaves ((a - 0x580000) / 0x1000) else d

/-- The collector (R609, R615). -/
def fltRegWrite (d : Dev) (a v : Nat) : Dev :=
  match a with
  | 0x30010 => d.fltInject (v % 2 ^ 16) (bits v 17 16)
  | 0x30014 => if v.testBit 0 then d.fltPop else d
  | _ => d.plainWrite a v

/-- The pair (R550). -/
def pairRegWrite (d : Dev) (a v : Nat) : Dev :=
  let was := d.flag 0x700000 2
  let d := d.plainWrite a v
  if a = 0x700000 && d.flag a 2 ≠ was then (if d.flag a 2 then d.goMute 4 else d.unmute 4) else d

/-- A whole word written to BAR0, in a domain that is ON. -/
def wordWrite (d : Dev) (a v : Nat) : Dev :=
  if 0x10000 ≤ a && a < 0x20000 then
    let o := a % 0x2000
    if o < 0x1000 then d.reqWrite ((a - 0x10000) / 0x2000) (o / 4) (BitVec.ofNat 32 v)
    else if (reg? a).isSome then d.mbxRegWrite a v else d
  else if (reg? a).isNone then d
  else if 0x20000 ≤ a && a < 0x30000 then d.dmaRegWrite a v
  else if a < 0x38000 && 0x30000 ≤ a then d.fltRegWrite a v
  else if 0x40000 ≤ a && a < 0x50000 then d.timRegWrite a v
  else if 0x200000 ≤ a && a < 0x280000 then d.portRegWrite a v
  else if 0x301000 ≤ a && a < 0x400000 then d.schRegWrite a v
  else if 0x400000 ≤ a && a < 0x500000 then d.brkRegWrite a v
  else if 0x500000 ≤ a && a < 0x580000 then d.bankRegWrite a v
  else if 0x580000 ≤ a && a < 0x600000 then d.auRegWrite a v
  else if 0x700000 ≤ a && a < 0x800000 then d.pairRegWrite a v
  else d.plainWrite a v

/-- A host write to BAR0 with its byte enables (R3, R447). -/
def hostWrite (d : Dev) (a : Nat) (be : BitVec 4) (v : Nat) : Dev :=
  if be ≠ 15 then d.raise 0xD080 0xD001
  else if d.unpowered a then d.offAccess
  else d.wordWrite (a / 4 * 4) v

/-- A register of a row of its own written. -/
def rowWrite (d : Dev) (a v : Nat) : Dev := d.hostWrite a 15 v

/-- A write that changes bits `hi:lo` of a register to `x` and carries the values of its other fields. -/
def withField (d : Dev) (a hi lo x : Nat) : Dev := d.rowWrite a (withBits (d.reg a) hi lo x)

/-- An injection bit armed: the other bits of the register are written 0. -/
def arm (d : Dev) (a i : Nat) : Dev := d.rowWrite a (2 ^ i)

/-- R451: a vector of the MSI-X table masked or unmasked. -/
def maskVector (d : Dev) (v : Nat) (on : Bool) : Dev :=
  if on then { d with unmasked := without d.unmasked v }
  else
    let d := { d with unmasked := addOnce d.unmasked v }
    if d.msixPend.contains v then { d with msixPend := without d.msixPend v, out := d.out ++ [.msix v] } else d

end Dev

/-! ### Commands -/

/-- REGISTER_WRITE (R3 to R9): address, byte enables and word. -/
def execRegisterWrite (addr : BitVec 24) (be : BitVec 4) (v : BitVec 32) (s : State) : Result :=
  s.host (·.hostWrite addr.toNat be v.toNat)

/-- RC_FIELD_READ (R5). -/
def execRcFieldRead (addr : BitVec 24) (s : State) : Result := s.host (·.hostRead addr.toNat)

/-- COUNTER_LO_READ (R91). -/
def execCounterLoRead (addr : BitVec 24) (s : State) : Result := s.host (·.hostRead addr.toNat)

/-- DOMAIN_OFF_ACCESS (R447): a read or a write of a register whose domain is not ON. -/
def execDomainOffAccess (addr : BitVec 24) (write : Bool) (s : State) : Result :=
  s.host fun d =>
    if !d.unpowered addr.toNat then d
    else if write then d.offAccess
    else d.hostRead addr.toNat

/-- TIM_STEP_WRITE (R45). -/
def execTimStepWrite (v : BitVec 32) (s : State) : Result := s.host (·.rowWrite 0x4001C v.toNat)

/-- TIM_SERVO_WRITE (R46). -/
def execTimServoWrite (v : BitVec 32) (s : State) : Result := s.host (·.rowWrite 0x40020 v.toNat)

/-- TIM_ADJ_WRITE (R46). -/
def execTimAdjWrite (v : BitVec 32) (s : State) : Result := s.host (·.rowWrite 0x40018 v.toNat)

/-- DISC_WRITE (R46): a write of TIM_CTRL with a new DISC. -/
def execDiscWrite (v : BitVec 2) (s : State) : Result := s.host (·.withField 0x40000 5 4 v.toNat)

/-- REFSEL_WRITE (R50): a write of TIM_CTRL with a new REFSEL. -/
def execRefselWrite (v : BitVec 1) (s : State) : Result := s.host (·.withField 0x40000 0 0 v.toNat)

/-- PORT_ENABLE_WRITE (R69). -/
def execPortEnableWrite (i : Fin 96) (en : Bool) (s : State) : Result :=
  s.hostIf i fun d => if isIface i then d.withField (portBase i) 0 0 (b2n en) else d

/-- BREAKOUT_WRITE (R85). -/
def execBreakoutWrite (n : Fin 16) (split : Bool) (s : State) : Result :=
  s.host (·.withField (portBase (64 + n)) 4 4 (b2n split))

/-- PRT_BIND_HI_WRITE (R92). -/
def execPrtBindHiWrite (bay : Fin 48) (k : Fin 16) (v : BitVec 32) (s : State) : Result :=
  s.host (·.rowWrite (portBase bay + 0x84 + 8 * k) v.toNat)

/-- AU_ENABLE_WRITE (R176). -/
def execAuEnableWrite (unit : Fin 16) (en : Bool) (s : State) : Result := s.host (·.rowWrite (Dev.auBase unit) (b2n en))

/-- BRK_RESV_WRITE (R296). -/
def execBrkResvWrite (half : Fin 2) (cls : Fin 8) (v : BitVec 32) (s : State) : Result :=
  s.host (·.rowWrite (Dev.brkBase half + 0x40 + 8 * cls) v.toNat)

/-- BRK_THRESH_WRITE (R299): BRK_AMBER, BRK_RED, BRK_BLACK or BRK_HYST. -/
def execBrkThreshWrite (half : Fin 2) (k : Fin 4) (v : BitVec 32) (s : State) : Result :=
  s.host (·.rowWrite (Dev.brkBase half + 0x10 + 4 * k) v.toNat)

/-- SCH_IF_RATE_WRITE (R325). -/
def execSchIfRateWrite (i : Fin 96) (v : BitVec 32) (s : State) : Result :=
  s.hostIf i fun d => if isIface i then d.rowWrite (schBase i + 8) v.toNat else d

/-- MSIX_VECTOR_UNMASK (R451): a write of a vector's mask bit in the BAR4 table; `masked` is the bit. -/
def execMsixVectorUnmask (vector : BitVec 8) (masked : Bool) (s : State) : Result := s.host (·.maskVector vector.toNat masked)

/-! ### Injection bits (R615) -/

/-- INJ_ADM (R108). -/
def execInjAdm (course : Fin 18) (s : State) : Result := s.host (·.arm (mrtBase course + 4) 0)
/-- INJ_EGR (R108). -/
def execInjEgr (course : Fin 18) (s : State) : Result := s.host (·.arm (mrtBase course + 4) 1)
/-- INJ_NODEID (R138). -/
def execInjNodeid (course : Fin 18) (s : State) : Result := s.host (·.arm (Dev.crsBase course + 0x810) 0)
/-- INJ_CELL (R177). -/
def execInjCell (bank : Fin 68) (s : State) : Result := s.host (·.arm (Dev.bankBase bank + 0x0C) 0)
/-- INJ_CTL (R177). -/
def execInjCtl (bank : Fin 68) (s : State) : Result := s.host (·.arm (Dev.bankBase bank + 0x0C) 1)
/-- INJ_STATE (R178). -/
def execInjState (unit : Fin 16) (s : State) : Result := s.host (·.arm (Dev.auBase unit + 0x0C) 0)
/-- INJ_L2 (R224). -/
def execInjL2 (course : Fin 18) (s : State) : Result := s.host (·.arm (Dev.crsBase course + 0xC18) 0)
/-- INJ_CTX (R224). -/
def execInjCtx (course : Fin 18) (s : State) : Result := s.host (·.arm (Dev.crsBase course + 0xC18) 1)
/-- INJ_ENTRY (R255). -/
def execInjEntry (course : Fin 18) (s : State) : Result := s.host (·.arm (Dev.crsBase course + 0x20C) 0)
/-- INJ_DFREE (R310). -/
def execInjDfree (half : Fin 2) (s : State) : Result := s.host (·.arm (Dev.brkBase half + 0x0C) 0)
/-- INJ_LINK (R310). -/
def execInjLink (half : Fin 2) (s : State) : Result := s.host (·.arm (Dev.brkBase half + 0x0C) 1)
/-- INJ_POL (R341). -/
def execInjPol (s : State) : Result := s.host (·.arm 0x30000C 0)
/-- INJ_QSTATE (R341). -/
def execInjQstate (s : State) : Result := s.host (·.arm 0x30000C 1)
/-- INJ_FETCH (R410). -/
def execInjFetch (set : Fin 64) (s : State) : Result := s.host (·.arm (Dev.setBase set + 0x0C) 0)
/-- INJ_JRNL (R410). -/
def execInjJrnl (set : Fin 64) (s : State) : Result := s.host (·.arm (Dev.setBase set + 0x0C) 1)
/-- INJ_SENSOR (R441). -/
def execInjSensor (s : State) : Result := s.host (·.arm 0x50020 0)
/-- INJ_AVS (R441). -/
def execInjAvs (s : State) : Result := s.host (·.arm 0x50020 1)
/-- INJ_ECC (R470). -/
def execInjEcc (ch : Fin 64) (s : State) : Result := s.host (·.arm (Dev.dmaBase ch + 0x0C) 0)
/-- INJ_LEDGER (R495). -/
def execInjLedger (m : Fin 8) (s : State) : Result := s.host (·.arm (Dev.mbxBase m + 0x24) 0)
/-- INJ_RAIL (R574). -/
def execInjRail (s : State) : Result := s.host (·.arm 0x70000C 0)
/-- INJ_FRAME (R574). -/
def execInjFrame (s : State) : Result := s.host (·.arm 0x70000C 1)
/-- INJ_CORR (R595). -/
def execInjCorr (m : Fin 23) (s : State) : Result := s.host (·.arm (0x3800C + 0x40 * m) 0)
/-- INJ_UNC (R595). -/
def execInjUnc (m : Fin 23) (s : State) : Result := s.host (·.arm (0x3800C + 0x40 * m) 1)

end Sys2Proof.Machine
end

