-- ==== Sys2Proof/Machine/Debug.lean ====
section
/-! DEFINITION. The serial debug port and boundary scan (chapter 23). -/

namespace Sys2Proof.Machine

namespace Dev

/-! ### Frames (R669 to R671) -/

/-- That state of the debug port changed. -/
def setDebug (d : Dev) (f : Debug → Debug) : Dev := { d with dbg := f d.dbg }

/-- The debug level (R674). -/
def debugLevel (d : Dev) : Nat := d.fld 0x220 31 30

/-- A response with its ACK and data. -/
def debugAck (d : Dev) (ack : Nat) (data : List Nat := []) : Dev := { d with out := d.out ++ [.dbg ack data] }

/-- ACK ERROR, counted. -/
def debugError (d : Dev) : Dev := (d.setDebug fun x => { x with errs := satAdd 32 x.errs 1 }).debugAck 4

/-- ACK DENIED for an access beyond the level. -/
def debugDenied (d : Dev) : Dev := (d.raise 0xE000 0xE022).debugAck 3

/-- A request frame that needs level `lvl`: without SYS, or before an attention sequence, the port is silent; `good` says that its
check, its fields and its COUNT are good. -/
def debugFrame (d : Dev) (good : Bool) (lvl : Nat) (f : Dev → Dev) : Dev :=
  if !d.isOn 1 || !d.dbg.started then d
  else if !good then d.debugError
  else if d.debugLevel < lvl then d.debugDenied
  else f d

/-- An attention sequence (R668). -/
def attention (d : Dev) : Dev :=
  let d := if d.isOn 1 then d.setDebug fun x => { x with started := true } else d
  d.wakeEvent 5 true

/-! ### READ (R672, R673) -/

/-- A word that the manual leaves open. -/
def freeWord (d : Dev) : Dev × Nat × Bool := (d.used, d.free % 2 ^ 32, false)

/-- An item of an engine's state. -/
def engineItem (d : Dev) (s p k : Nat) : Dev × Nat × Bool :=
  let c := (d.eng s p).core
  let known (v : Nat) : Dev × Nat × Bool := (d, v % 2 ^ 32, false)
  if k < 32 then known (c.reg k)
  else if k = 32 then known (Config.flagsItem (b2n c.z + 2 * b2n c.n + 4 * b2n c.c + 8 * b2n c.v) c.s)
  else if k = 33 then known c.pc
  else if k < 42 then
    match (if Config.stackNewestFirst then c.stack else c.stack.reverse)[k - 34]? with
    | some a => known a
    | none => d.freeWord
  else if k < 64 then d.freeWord
  else if k < 128 then known (if k % 2 = 0 then c.reg ((k - 64) / 2) else c.reg ((k - 64) / 2) / 2 ^ 32)
  else known (c.buf.getD (k - 128) 0)

/-- A register of the debug space (R683). -/
def debugReg (d : Dev) (a : Nat) : Nat :=
  if a = 0 then d.peek 0x220 else if a = 0x80 then d.dbg.errs else (Map.getD d.dbg.bps a 0).toNat

/-- Word `i` of a READ, with whether it was POISONED. -/
def debugWord (d : Dev) (space addr i : Nat) : Dev × Nat × Bool :=
  let a := addr + 4 * i
  match space with
  | 0 => (d, if d.unpowered a then 0 else d.peek a, false)
  | 3 =>
    let s := bits addr 37 32
    let off := bits addr 18 0 + 4 * i
    if !d.isOn (38 + s) then (d, 0, false)
    else if (d.set s).poison.contains (off / 8) then (d, 0, true)
    else (d, d.memWord s off, false)
  | 4 => d.engineItem (bits addr 21 16) (bits addr 15 12) (bits addr 7 0 + i)
  | 6 => (d, d.debugReg a, false)
  | _ => d.freeWord

/-- Whether every one of `n` words from an address exists in its space. -/
def debugSpan (space addr n : Nat) : Bool :=
  let item := bits addr 7 0
  match space with
  | 0 => addr % 4 = 0 && addr + 4 * n ≤ 2 ^ 24
  | 1 => addr % 4 = 0 && addr + 4 * n ≤ 2 ^ 32
  | 2 => addr % 4 = 0 && addr + 4 * n ≤ 2 ^ 32
  | 3 => addr < 2 ^ 38 && bits addr 31 19 = 0 && addr % 4 = 0 && bits addr 18 0 + 4 * n ≤ 2 ^ 19
  | 4 => addr < 2 ^ 22 && bits addr 11 8 = 0 && bits addr 15 12 < 9 && item + n ≤ 160
      && !(item < 48 && 42 < item + n)
  | 5 => addr % 4 = 0 && addr + 4 * n ≤ 2 ^ 36
  | 6 => addr % 4 = 0 && addr + 4 * n ≤ 2 ^ 12
  | _ => false

/-- The level a READ needs. -/
def readLevel (space addr n : Nat) : Nat :=
  if n = 1 && ((space = 0 && addr = 0x220) || (space = 6 && addr = 0)) then 0
  else if space = 0 || space = 6 then 1 else 2

/-- READ of `n` words; `late` says that they were not at hand within 4,096 clocks. -/
def debugRead (d : Dev) (space addr n : Nat) (good late : Bool) : Dev :=
  d.debugFrame (good && debugSpan space addr n) (readLevel space addr n) fun d =>
    if late then d.debugAck 2
    else
      let (d, ws, bad) := (List.range n).foldl (fun (x : Dev × List Nat × Bool) i =>
        let (d, w, b) := x.1.debugWord space addr i
        (d, x.2.1 ++ [w], x.2.2 || b)) (d, [], false)
      d.debugAck (if bad then 5 else 1) ws

/-! ### WRITE (R673, R674) -/

/-- The bits of a breakpoint register that are no reserved ones. -/
def bpMask (a : Nat) : Nat := if a < 0x40 then 0xFBF00FFF else 0xFFFFFFFF

/-- Whether an address is that of a breakpoint register, of engines or of stewards. -/
def isBp (a : Nat) : Bool := (0x10 ≤ a && a < 0x30) || (0x40 ≤ a && a < 0x60)

/-- What level 2 may write in the debug space: engine breakpoints with MID 0, and steward breakpoints that name the spare. -/
def inspectMay (d : Dev) (a v : Nat) : Bool :=
  isBp a && (if a < 0x40 then !v.testBit 30 else bits v 1 1 ≠ d.stw.active)

/-- What level 3 may write. -/
def modifyMay (d : Dev) (space addr i : Nat) : Bool :=
  match space with
  | 0 => true
  | 1 => d.stw.halted.contains 0
  | 2 => d.stw.halted.contains 1
  | 3 => true
  | 4 =>
    let k := bits addr 7 0 + i
    (d.eng (bits addr 21 16) (bits addr 15 12)).halted && ((1 ≤ k && k ≤ 33) || (66 ≤ k && k < 128))
  | 6 => true
  | _ => false

/-- A live register of a halted engine written. -/
def engineItemWrite (c : Core) (k v : Nat) : Core :=
  if k < 32 then c.set k (c.reg k / 2 ^ 32 * 2 ^ 32 + v) false
  else if k = 32 then
    let f := (Config.itemFlags v).1
    { c with z := f.testBit 0, n := f.testBit 1, c := f.testBit 2, v := f.testBit 3, s := (Config.itemFlags v).2 % 2 ^ 8 }
  else if k = 33 then { c with pc := v % 2 ^ 12 }
  else
    let r := (k - 64) / 2
    c.set r (if k % 2 = 0 then c.reg r / 2 ^ 32 * 2 ^ 32 + v else v * 2 ^ 32 + c.reg r % 2 ^ 32) false

/-- One word written outside set memory. What a halted steward's memory map holds is not modelled. -/
def debugStore (d : Dev) (space addr i v : Nat) : Dev :=
  let a := addr + 4 * i
  match space with
  | 0 => d.hostWrite a 15 v
  | 4 =>
    d.setEng (bits addr 21 16) (bits addr 15 12) fun e => { e with core := engineItemWrite e.core (bits addr 7 0 + i) v }
  | 6 =>
    if a = 0 then d.plainWrite 0x220 v
    else if isBp a then d.setDebug fun x => { x with bps := Map.putD x.bps a 0 (BitVec.ofNat 32 (v &&& bpMask a)) }
    else d
  | _ => d

/-- The words of a WRITE, at once in set memory (R455, R580). -/
def debugStoreAll (d : Dev) (space addr : Nat) (data : List Nat) : Dev :=
  if space = 3 then
    let s := bits addr 37 32
    if d.isOn (38 + s) then d.memStore s (bits addr 18 0) (data.flatMap (leBytes 4)) else d.offAccess
  else data.zipIdx.foldl (fun (d : Dev) e => d.debugStore space addr e.2 e.1) d

/-- WRITE of 1 to 256 words. -/
def debugWrite (d : Dev) (space addr : Nat) (data : List Nat) (good : Bool) : Dev :=
  let n := data.length
  d.debugFrame (good && 1 ≤ n && n ≤ 256 && debugSpan space addr n) 2 fun d =>
    let put (d : Dev) : Dev := (d.debugStoreAll space addr data).debugAck 1
    if d.debugLevel = 2 then
      if space = 6 && data.zipIdx.all fun e => d.inspectMay (addr + 4 * e.2) e.1 then put d else d.debugDenied
    else if (List.range n).all fun i => d.modifyMay space addr i then put d else d.debugAck 3

/-! ### Levels and unlock (R674, R675) -/

/-- Words of bytes, the first byte most significant. -/
def bytesToWords : List Byte → List Nat
  | a :: b :: c :: e :: l => ofBE [a, b, c, e] :: bytesToWords l
  | _ => []

/-- A challenge for a level: a nonce of 12 free words, valid for 60 s. -/
def newNonce (d : Dev) (lvl : Nat) : Dev × List Byte :=
  let n := (List.range 12).flatMap fun i => beBytes 4 (Config.freeValue (d.fresh + i) % 2 ^ 32)
  ((d.used 12).setDebug fun x => { x with nonces := Map.put x.nonces lvl (n, d.now + 60000000000) }, n)

/-- The nonce of a level that is still valid. -/
def nonceOf (d : Dev) (lvl : Nat) : Option (List Byte) :=
  match Map.get? d.dbg.nonces lvl with
  | some (n, t) => if d.now < t then some n else none
  | none => none

/-- What a response signs. -/
def unlockMessage (d : Dev) (nonce : List Byte) (lvl : Nat) : List Byte :=
  nonce ++ [BitVec.ofNat 8 lvl] ++ beBytes 4 (d.peek 0) ++ beBytes 8 d.boot.serial

/-- Whether a response to a nonce passes under an OTP key for debug that is not revoked. -/
def unlockPasses (d : Dev) (lvl : Nat) (sig : List Byte) : Bool :=
  match d.nonceOf lvl with
  | none => false
  | some n =>
    let h := sha384 (d.unlockMessage n lvl)
    d.boot.keys.any fun k => k.use.testBit 2 && !k.revoked && ecdsaVerify k.key h sig

/-- A response verified: the nonce is consumed, and the level set or the failure counted. -/
def tryUnlock (d : Dev) (lvl : Nat) (sig : List Byte) : Dev × Bool :=
  let ok := d.unlockPasses lvl sig
  let d := d.setDebug fun x => { x with nonces := Map.erase x.nonces lvl }
  if ok then
    let d := if lvl < d.debugLevel then d.lowerDebug lvl else d.setFld 0x220 31 30 lvl
    ((d.setFld 0x220 23 16 0).raise 0xE000 0xE020, true)
  else
    let n := satAdd 8 (d.fld 0x220 23 16) 1
    let d := (d.setFld 0x220 23 16 n).raise 0xE000 0xE021
    if n < 4 then (d, false)
    else ((d.setBit 0x220 28).setDebug fun x => { x with lockEnd := some (d.now + 60000000000) }, false)

/-- CHALLENGE. -/
def debugChallenge (d : Dev) (lvl : Nat) (good : Bool) : Dev :=
  d.debugFrame (good && lvl ≠ 0) 0 fun d =>
    if d.flag 0x220 28 then d.debugAck 3
    else
      let (d, n) := d.newNonce lvl
      d.debugAck 1 (bytesToWords n)

/-- UNLOCK: a response whose verification starts. -/
def debugUnlock (d : Dev) (lvl : Nat) (response : List Nat) (good : Bool) : Dev :=
  d.debugFrame (good && lvl ≠ 0 && response.length = 24) 0 fun d =>
    ((d.setBit 0x220 29).setDebug fun x => { x with verify := some (lvl, response.flatMap (beBytes 4)) }).debugAck 1

/-- The verification ends. -/
def verifyDone (d : Dev) : Dev :=
  match d.dbg.verify with
  | none => d
  | some (lvl, sig) => (((d.setDebug fun x => { x with verify := none }).clrBit 0x220 29).tryUnlock lvl sig).1

/-- A nonce whose 60 s have passed. -/
def nonceEnds (d : Dev) (lvl : Nat) : Dev :=
  if (Map.get? d.dbg.nonces lvl).any fun n => n.2 ≤ d.now then
    d.setDebug fun x => { x with nonces := Map.erase x.nonces lvl }
  else d

/-- The end of a lockout. -/
def lockoutEnds (d : Dev) : Dev :=
  match d.dbg.lockEnd with
  | some t => if d.now < t then d else (d.clrBit 0x220 28).setDebug fun x => { x with lockEnd := none }
  | none => d

/-! ### Halting engines (R676) -/

/-- The positions that a CTRL names: 0xF is every one in service. -/
def ctrlPositions (d : Dev) (s p : Nat) : List Nat := if p = 15 then d.inSvc s else [p]

/-- Whether POS of a CTRL names a position. -/
def isPos (p : Nat) : Bool := p < 9 || p = 15

/-- HALT of one engine, and whether it answers WAIT. Whether a running engine reaches its safe point within 4,096 clocks is a free
value. -/
def haltEngine (d : Dev) (s p : Nat) : Dev × Bool :=
  let e := d.eng s p
  let st := engState e p
  if st = 3 then (d, false)
  else if st ≠ 0 && st ≠ 5 then (d, true)
  else if e.item.isNone then (d.haltAt s p, false)
  else ((d.post s p 1).used, d.free.testBit 0)

/-- CTRL HALT. -/
def ctrlHalt (d : Dev) (s p : Nat) (good : Bool) : Dev :=
  d.debugFrame (good && isPos p) 2 fun d =>
    let (d, w) := (d.ctrlPositions s p).foldl (fun (x : Dev × Bool) p =>
      let (d, w) := x.1.haltEngine s p
      (d, x.2 || w)) (d, false)
    d.debugAck (if w then 2 else 1)

/-- A CTRL that lets halted engines go on: WAIT, and nothing changed, where one of them is in a state that does not allow it. -/
def ctrlGo (d : Dev) (s p lvl : Nat) (good : Bool) (may : Engine → Bool) (f : Dev → Nat → Dev) : Dev :=
  d.debugFrame (good && isPos p) lvl fun d =>
    let l := d.ctrlPositions s p
    if l.all fun p => may (d.eng s p) then (l.foldl f d).debugAck 1 else d.debugAck 2

/-- RESUME of one engine. -/
def resumeEngine (s : Nat) (d : Dev) (p : Nat) : Dev :=
  d.setEng s p fun e => { e with halted := false, dbg := if e.item.isSome then 2 else 0 }

/-- STEP_STRETCH of one engine: it goes on, and HALT waits for its next safe point. -/
def stretchEngine (s : Nat) (d : Dev) (p : Nat) : Dev := (resumeEngine s d p).post s p 1

/-- STEP_MICRO of one engine. -/
def microEngine (s : Nat) (d : Dev) (p : Nat) : Dev := d.setEng s p fun e => { e with halted := false, dbg := 1 }

/-! ### Halting a steward (R679) -/

/-- HALT of a steward. -/
def stewardHalt (d : Dev) (s : Nat) (good : Bool) : Dev :=
  let active := s = d.stw.active
  d.debugFrame good (if active then 3 else 2) fun d =>
    if active then
      if d.stw.spare ≠ 0 || d.stw.swap.isSome then d.debugAck 3
      else (d.setStw fun x => { x with spare := 1, swap := some { ticket := none, image := 0, halt := true } }).debugAck 1
    else if d.stw.halted.contains s then d.debugAck 1
    else if 2 ≤ d.stw.spare then d.debugAck 2
    else (d.setStw fun x => { x with spare := 1, halted := x.halted ++ [s] }).debugAck 1

/-- RESUME of a halted steward: it is reset as spare and loads the running image. -/
def stewardResume (d : Dev) (s : Nat) (good : Bool) : Dev :=
  d.debugFrame good 2 fun d =>
    if d.stw.halted.contains s then
      (d.setStw fun x => { x with halted := without x.halted s, spare := if x.spare = 2 then 2 else 1 }).debugAck 1
    else d.debugAck 2

/-- One instruction of a halted steward; what its firmware does is not modelled. -/
def stewardStep (d : Dev) (s : Nat) (good : Bool) : Dev :=
  d.debugFrame good 2 fun d => d.debugAck (if d.stw.halted.contains s then 1 else 2)

/-! ### Boundary scan (R681, R682) -/

/-- Whether a gated instruction takes effect. -/
def scanAllowed (d : Dev) : Bool :=
  d.boot.straps.testBit 3
    || (d.debugLevel = 3 && d.pwrState = 2 && d.flag 0x700000 2
        && ifaces.all fun i => !d.inMode i || (d.port i).st = .withdrawn)

/-- An instruction in force at Update-IR; the balls are the device's unless it drives them. -/
def scanInstr (d : Dev) (ir : Nat) (drives : Bool) : Dev := d.setDebug fun x => { x with ir := ir, drives := drives }

/-- A gated instruction; refused, it acts as BYPASS. -/
def gated (d : Dev) (ir : Nat) (drives : Bool) : Dev :=
  if d.scanAllowed then d.scanInstr ir drives
  else (((d.scanInstr 0xFF false).setBit 0x220 27).raise 0xE000 0xE022)

end Dev

/-! ### Commands -/

/-- ATTENTION_SEQUENCE (R668). -/
def execAttentionSequence (s : State) : Result := s.act Dev.attention

/-- DEBUG_NOP (R671): whether its check and COUNT are good, as for every frame. -/
def execDebugNop (good : Bool) (s : State) : Result := s.act (·.debugFrame good 0 fun d => d.debugAck 1)

/-- DEBUG_READ (R673): SPACE, ADDR, COUNT, and whether the words come too late. -/
def execDebugRead (space : BitVec 4) (addr : BitVec 48) (count : BitVec 8) (good late : Bool) (s : State) : Result :=
  s.act (·.debugRead space.toNat addr.toNat (count.toNat + 1) good late)

/-- DEBUG_WRITE (R673). -/
def execDebugWrite (space : BitVec 4) (addr : BitVec 48) (data : List (BitVec 32)) (good : Bool) (s : State) : Result :=
  s.act (·.debugWrite space.toNat addr.toNat (data.map (·.toNat)) good)

/-- DEBUG_CHALLENGE (R675). -/
def execDebugChallenge (level : BitVec 2) (good : Bool) (s : State) : Result := s.act (·.debugChallenge level.toNat good)

/-- DEBUG_UNLOCK (R675): LEVEL and the 24 words of the response. -/
def execDebugUnlock (level : BitVec 2) (response : List (BitVec 32)) (good : Bool) (s : State) : Result :=
  s.act (·.debugUnlock level.toNat (response.map (·.toNat)) good)

/-- UNLOCK_VERIFY_DONE (R675). -/
def execUnlockVerifyDone (s : State) : Result := s.act Dev.verifyDone

/-- DEBUG_LOCK (R674). -/
def execDebugLock (good : Bool) (s : State) : Result := s.act (·.debugFrame good 0 fun d => (d.lowerDebug 0).debugAck 1)

/-- NONCE_EXPIRY (R675): the level. -/
def execNonceExpiry (level : BitVec 2) (s : State) : Result := s.act (·.nonceEnds level.toNat)

/-- LOCKOUT_END (R675). -/
def execLockoutEnd (s : State) : Result := s.act Dev.lockoutEnds

/-- ENGINE_HALT (R676): set and position; position 15 is every one in service. -/
def execEngineHalt (set : Fin 64) (pos : BitVec 4) (good : Bool) (s : State) : Result := s.act (·.ctrlHalt set pos.toNat good)

/-- ENGINE_RESUME (R676). -/
def execEngineResume (set : Fin 64) (pos : BitVec 4) (good : Bool) (s : State) : Result :=
  s.act (·.ctrlGo set pos.toNat 2 good (·.halted) (Dev.resumeEngine set))

/-- STEP_STRETCH (R676). -/
def execStepStretch (set : Fin 64) (pos : BitVec 4) (good : Bool) (s : State) : Result :=
  s.act (·.ctrlGo set pos.toNat 2 good (fun e => e.halted && e.item.isSome) (Dev.stretchEngine set))

/-- STEP_MICRO (R676). -/
def execStepMicro (set : Fin 64) (pos : BitVec 4) (good : Bool) (s : State) : Result :=
  s.act (·.ctrlGo set pos.toNat 3 good (fun e => e.halted && e.item.isSome) (Dev.microEngine set))

/-- STEWARD_HALT (R679): 0 West, 1 East. -/
def execStewardHalt (steward : Fin 2) (good : Bool) (s : State) : Result := s.act (·.stewardHalt steward good)

/-- STEWARD_RESUME (R679). -/
def execStewardResume (steward : Fin 2) (good : Bool) (s : State) : Result := s.act (·.stewardResume steward good)

/-- STEWARD_STEP (R679). -/
def execStewardStep (steward : Fin 2) (good : Bool) (s : State) : Result := s.act (·.stewardStep steward good)

/-- TAP_RESET (R681): IDCODE is selected. -/
def execTapReset (s : State) : Result := s.act (·.scanInstr 0x02 false)

/-- EXTEST (R682). -/
def execExtest (s : State) : Result := s.act (·.gated 0x00 true)

/-- SAMPLE_PRELOAD (R682): the cells as captured from the balls leave on TDO, and the boundary register is loaded. -/
def execSamplePreload (balls load : Nat) (s : State) : Result :=
  s.act fun d => { (d.scanInstr 0x01 false).setDebug fun x => { x with cells := load } with out := d.out ++ [.tdo balls] }

/-- IDCODE (R681). -/
def execIdcode (s : State) : Result := s.act fun d => { d.scanInstr 0x02 false with out := d.out ++ [.tdo 0x1480014F] }

/-- CLAMP (R682). -/
def execClamp (s : State) : Result := s.act (·.gated 0x03 true)

/-- HIGHZ (R682): no ball is driven. -/
def execHighz (s : State) : Result := s.act (·.gated 0x04 false)

/-- EXTEST_PULSE (R682). -/
def execExtestPulse (s : State) : Result := s.act (·.gated 0x05 true)

/-- EXTEST_TRAIN (R682). -/
def execExtestTrain (s : State) : Result := s.act (·.gated 0x06 true)

/-- BYPASS (R682). -/
def execBypass (s : State) : Result := s.act (·.scanInstr 0xFF false)

end Sys2Proof.Machine
end

