-- ==== Sys2Proof/Machine/Mailboxes.lean ====
section
/-! DEFINITION. The host's side of the mailboxes (R479 to R493), and the commands of groups 0x01 and 0x02 (R501 to R508). -/

namespace Sys2Proof.Machine

/-- What a command does once R483 lets it run: over the block, its request, and the ticket it would hold. -/
abbrev Body := Dev → Req → Nat × Nat → Dev × Reply

/-- A value of 64 bits in two words, the higher first (R497). -/
def two (n : Nat) : List Nat := [n / 2 ^ 32 % 2 ^ 32, n % 2 ^ 32]

/-- An accepted asynchronous command that changes state at once: its phase is PARTIAL from the deferred response on. -/
def begun (t : Nat × Nat) (f : Dev → Dev) : Reply := .later fun d => f (d.partial_ t)

/-- DEV_INFO (R501, R660). -/
def cmdDevInfo : Body := fun d _ _ =>
  let x := d.boot.image
  let spare := if d.stage = 4 then 3 else d.stw.spare
  (d, .ok ([x.version % 2 ^ 32, x.svn, d.fld 0x20C 28 28 <<< 4 + d.stw.active <<< 3 + spare] ++ two d.boot.serial ++ [d.peek 0]))

/-- DEV_CANCEL (R502). -/
def cmdDevCancel : Body := fun d r _ =>
  let t := (r.fld 0 31 29, r.fld 0 28 0)
  match d.ticket? t with
  | none => (d, .no 0x0102)
  | some y => if y.phase = 0 then (d.closeTicket t 0x0B 2 0 [], .ok []) else (d, .no 0x0101)

/-! ### Ports -/

/-- The interface of a request. -/
def ifaceOf (r : Req) : Nat := r.fld 0 7 0

/-- PORT_WITHDRAW (R504, R71). -/
def cmdPortWithdraw : Body := fun d r _ =>
  let i := ifaceOf r
  let p := d.port i
  let ws (already : Nat) : List Nat := [already <<< 8 + p.st.code, p.seq / 2 ^ 32 % 2 ^ 16, p.seq % 2 ^ 32]
  if !d.inMode i then (d, .no 4)
  else if p.st = .withdrawn then (d, .ok (ws 1))
  else if !r.flag 0 31 && !d.partnerServes i then (d, .no 5)
  else (d.withdraw i, .ok (ws 0))

/-- Whether a move holds an interface, and will return it. -/
def moveHolds (d : Dev) (i : Nat) : Bool :=
  d.wear.move.any fun m => 3 ≤ m.step && m.step < 8 && (d.moveIfs m ++ d.movedIfs m).contains i

/-- PORT_RETURN (R505). -/
def cmdPortReturn : Body := fun d r _ =>
  let i := ifaceOf r
  if !d.inMode i then (d, .no 4)
  else if (d.port i).st ≠ .withdrawn then (d, .no 0x0201)
  else if moveHolds d i then (d, .no 1)
  else if d.pwrState > 1 then (d, .no 6)
  else (d.returnIf i, .ok [])

/-- A time in ms, saturating. -/
def msSince (d : Dev) (t : Nat) : Nat := min (2 ^ 32 - 1) ((d.now - t) / 1000000)

/-- PORT_RELEASE (R506, R80). -/
def cmdPortRelease : Body := fun d r _ =>
  let i := ifaceOf r
  let p := d.port i
  if 48 ≤ i then (d, .no 4)
  else if p.st ≠ .quarantined then (d, .no 0x0202)
  else if d.now < p.holdFrom + d.quarHold i then (d, .no 0x0203)
  else (d.releaseQuarantine i, .ok [msSince d p.since, b2n !p.trigHit])

/-- PORT_STATUS (R507). -/
def cmdPortStatus : Body := fun d r _ =>
  let first := ifaceOf r
  let n := r.fld 0 15 8
  if !d.inMode first || n = 0 || first + n > 96 then (d, .no 4)
  else
    (d, .ok ((List.range n).flatMap fun k =>
      let i := first + k
      let p := d.port i
      if d.inMode i then [d.peek (portBase i + 4), p.seq / 2 ^ 32 % 2 ^ 16, p.seq % 2 ^ 32, msSince d p.since] else [0, 0, 0, 0]))

/-! ### Commands -/

/-- MBX_DOORBELL (R480): mailbox and TAG. -/
def execMbxDoorbell (m : Fin 8) (tag : BitVec 16) (s : State) : Result := s.host (·.doorbell m tag.toNat)

/-- MBX_ACK (R479). -/
def execMbxAck (m : Fin 8) (s : State) : Result := s.host (·.ack m)

/-- MBX_CANCEL (R482). -/
def execMbxCancel (m : Fin 8) (s : State) : Result := s.host (·.cancelPosted m)

/-- MBX_CRING_TAIL_WRITE (R486). -/
def execMbxCringTailWrite (m : Fin 8) (v : BitVec 16) (s : State) : Result := s.host (·.cringTail m v.toNat)

/-- MBX_REQUEST_AREA_WRITE (R480): mailbox, word of the area, value. -/
def execMbxRequestAreaWrite (m : Fin 8) (i : Fin 1024) (v : BitVec 32) (s : State) : Result := s.host (·.reqWrite m i v)

/-- MBX_NOT_TAKEN (R481). -/
def execMbxNotTaken (m : Fin 8) (s : State) : Result := s.act (·.notTaken m)

/-- MBX_STALLED (R492). -/
def execMbxStalled (m : Fin 8) (s : State) : Result := s.act (·.mbxStalled m)

/-- DEV_INFO: the mailbox, and whether the command is still running after this step. -/
def execDevInfo (m : Fin 8) (slow : Bool) (s : State) : Result := s.act (·.takeAs m 0x0101 slow cmdDevInfo)
/-- DEV_CANCEL. -/
def execDevCancel (m : Fin 8) (slow : Bool) (s : State) : Result := s.act (·.takeAs m 0x0102 slow cmdDevCancel)
/-- PORT_WITHDRAW. -/
def execPortWithdraw (m : Fin 8) (slow : Bool) (s : State) : Result := s.act (·.takeAs m 0x0201 slow cmdPortWithdraw)
/-- PORT_RETURN. -/
def execPortReturn (m : Fin 8) (slow : Bool) (s : State) : Result := s.act (·.takeAs m 0x0202 slow cmdPortReturn)
/-- PORT_RELEASE. -/
def execPortRelease (m : Fin 8) (slow : Bool) (s : State) : Result := s.act (·.takeAs m 0x0203 slow cmdPortRelease)
/-- PORT_STATUS. -/
def execPortStatus (m : Fin 8) (slow : Bool) (s : State) : Result := s.act (·.takeAs m 0x0204 slow cmdPortStatus)

end Sys2Proof.Machine
end

