-- ==== Sys2Proof/Machine/CmdPower.lean ====
section
/-! DEFINITION. The commands of groups 0x07 to 0x09: power, pair, faults and spares (R523 to R533). -/

namespace Sys2Proof.Machine

/-! ### Power -/

/-- Whether a PWR_STATE_SET is for Dormant: it takes no ticket (R484). -/
def toDormant (r : Req) : Bool := r.fld 0 1 0 = 3

/-- PWR_STATE_SET (R430, R523). -/
def cmdPwrStateSet : Body := fun d r t =>
  let target := r.fld 0 1 0
  match d.stateRefusal target (r.flag 0 31) with
  | some st => (d, .no st)
  | none => if target = 3 then (d.changeState 3 none, .ok [3]) else (d, begun t fun d => d.changeState target (some t))

/-- PWR_DOMAIN_SET (R430, R523). -/
def cmdPwrDomainSet : Body := fun d r t =>
  let k := r.fld 0 6 0
  let req := r.fld 0 9 8
  match d.domainRefusal k req with
  | some st => (d, .no st)
  | none => (d, begun t fun d => d.requestDomain k req t)

/-- PWR_STATUS (R523). -/
def cmdPwrStatus : Body := fun d _ _ =>
  let grant (c : Nat) : Nat := d.fld (0x50040 + 4 * c) 23 16
  let bytes (l : List Nat) : Nat := l.foldl (fun n x => n * 256 + x) 0
  (d, .ok ([d.peek 0x50018, bytes [grant 0, grant 1, grant 2, grant 3], bytes [grant 4, grant 5, 0, 0], 0]
    ++ (List.range 112).map fun p => d.peek (0x50100 + 4 * p)))

/-! ### The pair -/

/-- PAIR_STATUS (R524): it clears the largest lag. -/
def cmdPairStatus : Body := fun d _ _ =>
  let ws := [b2n d.fjLinked <<< 2 + b2n (d.rails = 2) <<< 1 + d.side, d.fld 0x700010 15 0, d.pair.lagCmd]
    ++ Dev.roleWords d.roles ++ [d.pair.reports.length]
  ((d.setFld 0x700010 31 16 0).setPair fun p => { p with lagCmd := 0 }, .ok ws)

/-- The interfaces that a bitmap of three words names, bits 31:0 first. -/
def bitmapOf (r : Req) (k : Nat) : List Nat := (List.range 96).filter fun i => (r.word (k + i / 32)).testBit (i % 32)

/-- PAIR_ROLE_SET (R525). -/
def cmdPairRoleSet : Body := fun d r t =>
  let give := !r.flag 0 0
  let l := bitmapOf r 1
  if d.rails ≠ 2 || !d.fjLinked then (d, .no 0x0801)
  else if l.any fun i => !d.inMode i || (d.port i).active ≠ give then (d, .no 4)
  else (d, begun t fun d => (d.setPair fun p => { p with roleAsk := some { mbx := t.1, num := t.2, give := give, todo := l } }).roleNext)

/-- PAIR_REPORT (R526, R570). -/
def cmdPairReport : Body := fun d r _ =>
  match d.pair.reports[r.fld 0 2 0]? with
  | none => (d, .no 0x0803)
  | some x =>
    let n := Dev.Reply.fit r 4 6 x.ranges.length
    (d, .ok ([x.ranges.length] ++ two x.at_ ++ [x.cause <<< 28 + x.age] ++ (x.ranges.take n).flatten)
      (if n < x.ranges.length then 0x10 else 0))

/-! ### Faults and spares -/

/-- FAULT_CLEAR (R528). -/
def cmdFaultClear : Body := fun d r _ =>
  let (d, held) := d.faultClear (r.fld 0 15 0)
  (d, if held then .ok [] else .no 0x0901)

/-- Units of a kind and instance that are WORN, and that are ISOLATED (R529). Rows and bricks have no units of their own: those taken
out of service count. -/
def unitCounts (d : Dev) (kind inst : Nat) : Nat × Nat :=
  match kind with
  | 4 => (0, (Dev.dieMems inst).foldl (fun n m => n + (d.mem m).gone.foldl (fun n e => n + e.2) 0) 0)
  | 5 => ((d.half inst).retiring.length, (d.half inst).retired.length)
  | 7 => (0, Map.getD (d.mem inst).gone 0 0)
  | _ =>
    let us := Dev.unitsOf kind inst
    ((us.filter fun k => d.unitState k = 3).length, (us.filter fun k => d.unitState k = 4).length)

/-- SPARE_STATUS (R529): 81 entries. -/
def cmdSpareStatus : Body := fun d _ _ =>
  let entry (kind inst : Nat) : List Nat :=
    let n := unitCounts d kind inst
    [kind <<< 24 + inst <<< 16 + min 65535 (d.sparesAt kind inst), min 65535 n.1 <<< 16 + min 65535 n.2]
  (d, .ok (81 :: (List.range 9).flatMap fun k => (List.range (Dev.instances k)).flatMap fun i => entry k i))

/-- The unit that a SPARE_BRING_IN names. -/
def unitNamed (d : Dev) (kind n : Nat) : Option Nat :=
  match kind with
  | 0 => if n < 16 then some (unitKey (srcCourse (d.physical n)) 0) else none
  | 1 => if n / 16 < 64 && n % 16 < 9 then some (unitKey (srcEng (n / 16) (n % 16)) 0) else none
  | 2 => if n < 64 then some (unitKey (srcBank (d.physBank n)) 0) else none
  | 3 => if n / 128 < 4 && n % 128 < 82 then some (unitKey (srcLane (n / 128) (d.laneAt (n / 128) (n % 128))) 0) else none
  | _ => none

/-- Whether a spare of a unit's kind is left to it. -/
def spareLeft (d : Dev) (kind k : Nat) : Bool :=
  let i := keySrc k % 0x1000
  match kind with
  | 1 => (d.sparePos (i / 16)).isSome
  | 2 => (d.spareBank (i < 34)).isSome
  | _ => !(d.sparesOf kind k).isEmpty

/-- SPARE_BRING_IN (R530). -/
def cmdSpareBringIn : Body := fun d r t =>
  let kind := r.fld 0 31 24
  match unitNamed d kind (r.fld 0 23 0) with
  | none => (d, .no 4)
  | some k =>
    let ifs := if kind = 0 || kind = 3 then d.moveIfs { kind := kind, unit := k, spare := 0, step := 0 } else []
    if d.unitState k ≠ 0 then (d, .no 4)
    else if !spareLeft d kind k then (d, .no 0x0902)
    else if ifs.any fun i => !d.partnerServes i then (d, .no 0x0903)
    else (d, begun t fun d => ((d.markWorn kind k).setWearing fun w => { w with asks := w.asks ++ [(t.1, t.2, kind, k)] }).startMove kind k)

/-- WEAR_READ (R531, R639): the layout of the sections' bytes is left open, and so is each section's length; how many of them fit in
one response follows R499. -/
def cmdWearRead : Body := fun d r _ =>
  let sec := r.fld 0 7 0
  if sec > 6 then (d, .no 4)
  else if d.stage = 4 && d.boot.step < 6 then (d, .no 6)
  else
    let size := Config.wearSection sec d.fresh
    let left := (size - r.word 1) / 4
    let n := Dev.Reply.fit r 1 1 left
    let data := (List.range n).map fun i => Config.freeValue (d.fresh + 1 + i) % 2 ^ 32
    (d.used (1 + n), .ok ((r.word 1 + 4 * n) % 2 ^ 32 :: data) (if n < left then 0x10 else 0))

/-- STEWARD_SWAP (R532, R635). -/
def cmdStewardSwap : Body := fun d r t =>
  let image := r.fld 0 1 0
  if image = 3 then (d, .no 4)
  else if d.stw.spare ≠ 0 then (d, .no 0x0904)
  else (d, begun t fun d => d.setStw fun s => { s with spare := 1, swap := some { ticket := some t, image := image, halt := false } })

/-! ### Commands -/

/-- PWR_STATE_SET. -/
def execPwrStateSet (m : Fin 8) (slow : Bool) (s : State) : Result :=
  s.act (·.takeAs m 0x0701 slow cmdPwrStateSet false toDormant)
/-- PWR_DOMAIN_SET. -/
def execPwrDomainSet (m : Fin 8) (slow : Bool) (s : State) : Result := s.act (·.takeAs m 0x0702 slow cmdPwrDomainSet)
/-- PWR_STATUS. -/
def execPwrStatus (m : Fin 8) (slow : Bool) (s : State) : Result := s.act (·.takeAs m 0x0703 slow cmdPwrStatus)
/-- PAIR_STATUS. -/
def execPairStatus (m : Fin 8) (slow : Bool) (s : State) : Result := s.act (·.takeAs m 0x0801 slow cmdPairStatus)
/-- PAIR_ROLE_SET. -/
def execPairRoleSet (m : Fin 8) (slow : Bool) (s : State) : Result := s.act (·.takeAs m 0x0802 slow cmdPairRoleSet)
/-- PAIR_REPORT; `fail` is a failed host write at RSP_ADDR. -/
def execPairReport (m : Fin 8) (slow fail : Bool) (s : State) : Result := s.act (·.takeAs m 0x0803 slow cmdPairReport fail)
/-- FAULT_CLEAR. -/
def execFaultClear (m : Fin 8) (slow : Bool) (s : State) : Result := s.act (·.takeAs m 0x0901 slow cmdFaultClear)
/-- SPARE_STATUS. -/
def execSpareStatus (m : Fin 8) (slow : Bool) (s : State) : Result := s.act (·.takeAs m 0x0902 slow cmdSpareStatus)
/-- SPARE_BRING_IN. -/
def execSpareBringIn (m : Fin 8) (slow : Bool) (s : State) : Result := s.act (·.takeAs m 0x0903 slow cmdSpareBringIn)
/-- WEAR_READ. -/
def execWearRead (m : Fin 8) (slow fail : Bool) (s : State) : Result := s.act (·.takeAs m 0x0904 slow cmdWearRead fail)
/-- STEWARD_SWAP. -/
def execStewardSwap (m : Fin 8) (slow : Bool) (s : State) : Result := s.act (·.takeAs m 0x0905 slow cmdStewardSwap)

end Sys2Proof.Machine
end

