-- ==== Sys2Proof/Machine/CmdSecurity.lean ====
section
/-! DEFINITION. The commands of groups 0x0A to 0x0C: time, security and debug, telemetry (R534 to R545). -/

namespace Sys2Proof.Machine

/-! ### Time -/

namespace Dev

/-- R44, R48, R49: the wall view set to `ns`, with the bound on its error; false where R45 refuses it. -/
def setWall (d : Dev) (ns accuracy : Nat) : Dev × Bool :=
  let later := d.time.steps.foldl (fun (w : Int) s => w + s * nsUnit) ((ns * nsUnit : Nat) : Int)
  if later < 0 || (wallSpan : Int) ≤ later || wallSpan ≤ ns * nsUnit then (d.rejectStep, false)
  else
    let d := d.setTime fun t => { t with wall := ns * nsUnit, distWall := ns * nsUnit }
    let d := match d.time.st with
      | .unknown => d.toCoasted accuracy
      | .coasted => d.setTime fun t => { t with boundEntry := accuracy, boundAt := d.monoNs }
      | .locked => d
    (d.followStep.settle, true)

end Dev

/-- TIME_SET (R534). -/
def cmdTimeSet : Body := fun d r _ =>
  let sec := r.word 0 * 2 ^ 32 + r.word 1
  let old := d.time.wall / nsUnit
  if r.word 2 > 999999999 then (d, .no 4)
  else
    let (d, ok) := d.setWall (sec * 1000000000 + r.word 2) (if r.len = 16 then r.word 3 else 0xFFFFFFFF)
    (d, if ok then .ok (two (old / 1000000000) ++ [old % 1000000000]) else .no 0x0A01)

/-- TIME_STATUS (R535). -/
def cmdTimeStatus : Body := fun d _ _ => (d, .ok ([d.peek 0x40004, d.errBound] ++ two d.time.nap))

/-! ### Security and debug -/

/-- Words as bytes, each most significant first. -/
def wordBytes (l : List Nat) : List Byte := l.flatMap (beBytes 4)

/-- Whether an authorisation over `n` payload words, which follow it, is that of an OTP slot with USE bit AUTH (R537, R653). -/
def authorised (d : Dev) (r : Req) (n : Nat) : Bool :=
  let k := d.boot.keys.getD (r.fld 0 31 30) {}
  k.use.testBit 1 && ecdsaVerify k.key (sha384 (wordBytes (r.words.take n))) (wordBytes ((r.words.drop n).take 24))

/-- Checks 1 and 2 of R537: the status that refuses, with its fault. -/
def authRefusal (d : Dev) (r : Req) (n : Nat) : Option (Dev × Reply) :=
  if (d.boot.keys.getD (r.fld 0 31 30) {}).revoked then some (d, .no 5)
  else if !authorised d r n then some (d.raise 0xE000 0xE011, .no 8)
  else none

/-- KEY_ENROL (R537). -/
def cmdKeyEnrol : Body := fun d r _ =>
  let e := r.fld 0 18 16
  match authRefusal d r 26 with
  | some x => x
  | none =>
    let k := d.tileKeys.getD e {}
    if k.revoked then (d, .no 5)
    else if k.valid then (d, .no 0x0B01)
    else
      let key : TileKey :=
        { valid := true, key := wordBytes ((r.words.drop 2).take 24), mask := r.fld 0 7 0, minSvn := r.word 1 }
      ({ d with tileKeys := d.tileKeys.set e key }, .ok [])

/-- KEY_REVOKE (R537). -/
def cmdKeyRevoke : Body := fun d r _ =>
  match authRefusal d r 1 with
  | some x => x
  | none => ({ d with tileKeys := d.tileKeys.modify (r.fld 0 18 16) fun k => { k with revoked := true } }, .ok [])

/-- DBG_CHALLENGE (R538); denied in a lockout, as CHALLENGE is. -/
def cmdDbgChallenge : Body := fun d r _ =>
  let lvl := r.fld 0 1 0
  if lvl = 0 then (d, .no 4)
  else if d.flag 0x220 28 then (d, .no 5)
  else
    let (d, n) := d.newNonce lvl
    (d, .ok (Dev.bytesToWords n))

/-- DBG_UNLOCK (R538). -/
def cmdDbgUnlock : Body := fun d r _ =>
  let lvl := r.fld 0 1 0
  if (d.nonceOf lvl).isNone then (d, .no 0x0B02)
  else
    let (d, ok) := d.tryUnlock lvl (wordBytes (r.words.drop 1))
    (d, if ok then .ok [] else .no 8)

/-- DBG_LOCK (R538). -/
def cmdDbgLock : Body := fun d _ _ => (d.lowerDebug 0, .ok [])

/-- Bytes of an image slot (R651). -/
def slotBytes : Nat := 16777216

/-- A flash slot replaced. -/
def setSlotImage (d : Dev) (s : Nat) (x : FlashImage) : Dev := d.setBoot fun b => if s = 0 then { b with slotA := x } else { b with slotB := x }

/-- FLASH_PROGRAM (R539, R659): the slot's header is erased first. In SAFE no slot holds a running image. -/
def cmdFlashProgram : Body := fun d r t =>
  let s := r.fld 0 0 0
  if r.word 3 = 0 || r.word 3 > slotBytes then (d, .no 4)
  else if d.stage = 3 && d.fld 0x20C 28 28 = s then (d, .no 5)
  else (d, begun t fun d => setSlotImage d s { d.flashSlot s with good := false })

namespace Dev

/-- R539, R657: the write of an image ends. `ok` says that it reads back as written. In SAFE the device starts again. -/
def flashDone (d : Dev) (x : FlashImage) (ok : Bool) : Dev :=
  let t := d.mbxs.findSome? fun m => (m.2.tickets.find? fun t => t.req.opcode = 0x0B06).map fun y => ((m.1, y.num), y.req)
  match t with
  | none => d
  | some (t, r) =>
    let s := r.fld 0 0 0
    let k := d.boot.keys.getD x.keySlot {}
    if ok && x.good && k.use.testBit 0 && !k.revoked && x.signed then
      let d := (setSlotImage d s x).closeTicket t 0 0 2 []
      if d.stage = 4 then (d.setFails s 0).warmPath else d
    else d.closeTicket t 8 0 1 []

end Dev

/-! ### Telemetry -/

/-- LEDGER_READ (R541): the course by name. -/
def cmdLedgerRead : Body := fun d r _ =>
  let n := r.fld 0 3 0
  let l := Map.getD d.ledgers n {}
  let dropped := l.dropped.foldl (fun k e => k + e.2) 0
  if !d.isOn (4 + d.physical n) then (d, .no 6)
  else
    (d, .ok (two l.admitted ++ two l.departed ++ two l.toService ++ two dropped ++ two l.resident
      ++ List.replicate 6 0 ++ (List.range 256).flatMap fun r => two (Map.getD l.dropped r 0)))

/-- ACT_CNT_READ (R542). -/
def cmdActCntRead : Body := fun d r _ =>
  let c := d.physical (r.fld 0 3 0)
  let first := r.fld 1 15 0
  let count := r.word 2
  if count = 0 || count > 4096 || first + count > 65536 then (d, .no 4)
  else if !d.isOn (4 + c) then (d, .no 6)
  else
    let n := Dev.Reply.fit r 1 4 count
    let entry (k : Nat) : List Nat := let v := Map.getD (d.course c).actCnt (first + k) (0, 0); two v.1 ++ two v.2
    (d, .ok ((first + n) :: (List.range n).flatMap entry) (if n < count then 0x10 else 0))

/-- QUEUE_READ (R543): words 8 to 15 of READ records, which clear MAX_SOJ. -/
def cmdQueueRead : Body := fun d r _ =>
  let first := r.fld 0 15 0
  let count := r.word 1
  if count = 0 || count > 1024 || first + count > 65536 then (d, .no 4)
  else if (List.range count).any fun k => !d.isOn (104 + Dev.halfOfQueue (first + k)) then (d, .no 6)
  else
    let n := Dev.Reply.fit r 1 8 count
    let (d, ws) := (List.range n).foldl (fun (x : Dev × List Nat) k =>
      let (d, _, w) := x.1.schedRead x.1.gateOpen (first + k)
      (d, x.2 ++ (w.drop 8))) (d, [])
    (d, .ok ((first + n) :: ws) (if n < count then 0x10 else 0))

/-- EXPORT_SET (R544). With EN 0 nothing else of the request counts. -/
def cmdExportSet : Body := fun d r _ =>
  let base := r.word 3 * 2 ^ 32 + r.word 2
  let period := r.word 1
  let size := r.fld 4 4 0
  let first := r.fld 5 15 0
  let count := r.fld 6 15 0
  if !r.flag 0 31 then ({ d with export_ := {} }, .ok [])
  else if period < 100 || period > 1000000 || base % 4096 ≠ 0 || size < 6 || size > 16 || count > 4096 || first + count > 65536 then
    (d, .no 4)
  else
    ({ d with export_ := { on := true, sources := r.fld 0 2 0, period := period, base := base, size := size, first := first,
                           count := count, at_ := d.now } }, .ok [])

namespace Dev

/-- What a period writes, as TYPE and INDEX, in its order. -/
def exportList (d : Dev) : List (Nat × Nat) :=
  let x := d.export_
  let part (b : Nat) (l : List (Nat × Nat)) : List (Nat × Nat) := if x.sources.testBit b then l else []
  part 0 ((List.range 16).map fun n => (0, n)) ++ part 1 ((List.range x.count).map fun k => (1, x.first + k))
    ++ part 2 ((ifaces.filter d.inMode).map fun i => (2, i))

/-- Words 6 to 13 of an export record (R545). -/
def exportBody (d : Dev) (type index : Nat) : List Nat :=
  if type = 0 then
    let l := Map.getD d.ledgers index {}
    two l.admitted ++ two l.departed ++ two (l.dropped.foldl (fun k e => k + e.2) 0) ++ two l.resident
  else if type = 1 then (d.schedRead d.gateOpen index).2.2.drop 8
  else (List.range 4).flatMap fun k => two (d.cnt (portBase index + 0x200 + 8 * k))

/-- One record written to the ring, with every record skipped since the last one as LOST. -/
def exportOne (d : Dev) (e : Nat × Nat) : Dev :=
  let x := d.export_
  let w := [x.seq, e.1 <<< 28 + e.2, min (2 ^ 32 - 1) x.lost, 0] ++ two d.now ++ d.exportBody e.1 e.2 ++ [0, 0]
  let d := d.toHost (x.base + 64 * (x.seq % 2 ^ x.size)) (wordsToLE w)
  { d with export_ := { x with seq := (x.seq + 1) % 2 ^ 32, lost := 0 } }

/-- EXPORT_PERIOD (R544): the period's records, up to where the next period begins. `skip` are those that find no TELEM token, and
`fail` is the one whose host write fails: export stops. -/
def exportPeriod (d : Dev) (upTo : Nat) (skip : List Nat) (fail : Option Nat) : Dev :=
  if !d.export_.on || d.now < d.export_.at_ then d
  else
    let d := { d with export_ := { d.export_ with at_ := d.export_.at_ + d.export_.period * 1000 } }
    ((d.exportList.take upTo).zipIdx).foldl (fun (d : Dev) e =>
      if !d.export_.on then d
      else if skip.contains e.2 then { d with export_ := { d.export_ with lost := d.export_.lost + 1 } }
      else if fail = some e.2 then ({ d with export_ := { d.export_ with on := false } } : Dev).raise 0xD080 0xD012
      else d.exportOne e.1) d

end Dev

/-! ### Commands -/

/-- TIME_SET. -/
def execTimeSet (m : Fin 8) (slow : Bool) (s : State) : Result := s.act (·.takeAs m 0x0A01 slow cmdTimeSet)
/-- TIME_STATUS. -/
def execTimeStatus (m : Fin 8) (slow : Bool) (s : State) : Result := s.act (·.takeAs m 0x0A02 slow cmdTimeStatus)
/-- KEY_ENROL. -/
def execKeyEnrol (m : Fin 8) (slow : Bool) (s : State) : Result := s.act (·.takeAs m 0x0B01 slow cmdKeyEnrol)
/-- KEY_REVOKE. -/
def execKeyRevoke (m : Fin 8) (slow : Bool) (s : State) : Result := s.act (·.takeAs m 0x0B02 slow cmdKeyRevoke)
/-- DBG_CHALLENGE. -/
def execDbgChallenge (m : Fin 8) (slow : Bool) (s : State) : Result := s.act (·.takeAs m 0x0B03 slow cmdDbgChallenge)
/-- DBG_UNLOCK. -/
def execDbgUnlock (m : Fin 8) (slow : Bool) (s : State) : Result := s.act (·.takeAs m 0x0B04 slow cmdDbgUnlock)
/-- DBG_LOCK. -/
def execDbgLock (m : Fin 8) (slow : Bool) (s : State) : Result := s.act (·.takeAs m 0x0B05 slow cmdDbgLock)
/-- FLASH_PROGRAM. -/
def execFlashProgram (m : Fin 8) (slow : Bool) (s : State) : Result := s.act (·.takeAs m 0x0B06 slow cmdFlashProgram)
/-- LEDGER_READ. -/
def execLedgerRead (m : Fin 8) (slow : Bool) (s : State) : Result := s.act (·.takeAs m 0x0C01 slow cmdLedgerRead)
/-- ACT_CNT_READ; `fail` is a failed host write at RSP_ADDR. -/
def execActCntRead (m : Fin 8) (slow fail : Bool) (s : State) : Result := s.act (·.takeAs m 0x0C02 slow cmdActCntRead fail)
/-- QUEUE_READ. -/
def execQueueRead (m : Fin 8) (slow fail : Bool) (s : State) : Result := s.act (·.takeAs m 0x0C03 slow cmdQueueRead fail)
/-- EXPORT_SET. -/
def execExportSet (m : Fin 8) (slow : Bool) (s : State) : Result := s.act (·.takeAs m 0x0C04 slow cmdExportSet)

/-- FLASH_PROGRAM_DONE (R539): the image that the slot holds, and whether it reads back as written. -/
def execFlashProgramDone (image : FlashImage) (ok : Bool) (s : State) : Result := s.act (·.flashDone image ok)

/-- EXPORT_PERIOD (R544). -/
def execExportPeriod (upTo : Nat) (skip : List Nat) (fail : Option Nat) (s : State) : Result := s.act (·.exportPeriod upTo skip fail)

end Sys2Proof.Machine
end

