-- ==== Sys2Proof/Machine/CmdTables.lean ====
section
/-! DEFINITION. The commands of groups 0x04 to 0x06: tables, queues, service engines (R516 to R522). -/

namespace Sys2Proof.Machine

/-! ### Tables -/

/-- The courses of an L2_FLUSH. -/
def flushCourses (d : Dev) (r : Req) : List Nat := if r.flag 0 31 then d.servingCourses else [d.physical (r.fld 0 27 24)]

/-- L2_FLUSH (R516). -/
def cmdL2Flush : Body := fun d r _ =>
  let i := r.fld 0 7 0
  let hit (e : Nat × L2Entry) : Bool :=
    !e.2.static && (!r.flag 0 23 || e.2.iface = i) && (!r.flag 0 22 || e.1 / 2 ^ 48 = r.fld 1 13 0)
  let cs := flushCourses d r
  if r.flag 0 23 && !d.inMode i then (d, .no 4)
  else if cs.any fun c => !d.isOn (4 + c) then (d, .no 6)
  else
    let count (p : L2Entry → Bool) : Nat := cs.foldl (fun n c => n + ((d.course c).learned.filter fun e => hit e && p e.2).length) 0
    let gone := count fun e => e.lock.isNone
    let kept := count fun e => e.lock.isSome
    let d := cs.foldl (fun (d : Dev) c =>
      d.setCourse c fun x => { x with learned := x.learned.filter fun e => !hit e || e.2.lock.isSome }) d
    (d, .ok [gone, kept])

/-- Whether a walk of the context store finds its domains ON. -/
def storeOn (d : Dev) : Bool := d.hbmOn && ((List.range 16).map d.physical).all fun c => d.isOn (4 + c)

/-- CTX_REVAL (R517). -/
def cmdCtxReval : Body := fun d _ t => if storeOn d then (d, begun t id) else (d, .no 6)

/-- TBL_STATUS (R518). -/
def cmdTblStatus : Body := fun d _ _ =>
  let of (n : Nat) : List Nat :=
    let s := d.course (d.physical n)
    [s.learned.length, s.notices.length <<< 16 + s.missq.length]
  if ((List.range 16).map d.physical).all fun c => d.isOn (4 + c) then (d, .ok (d.ctxUsed :: (List.range 16).flatMap of))
  else (d, .no 6)

/-! ### Queues -/

/-- SCH_FLUSH_IF (R519): the classes of CLASSES. -/
def cmdSchFlushIf : Body := fun d r _ =>
  let i := r.fld 0 7 0
  let mask := r.fld 0 15 8
  let n := ((d.queuesOf i).filter fun q => mask.testBit (q % 8)).foldl (fun n q => n + (d.queue q).items.length) 0
  if !d.inMode i then (d, .no 4)
  else if !d.isOn (104 + halfOf i) then (d, .no 6)
  else (d.flushIf i mask, .ok [n])

/-- SCH_STATUS (R519). -/
def cmdSchStatus : Body := fun d _ _ =>
  if !d.isOn 104 || !d.isOn 105 then (d, .no 6)
  else (d, .ok (b2n d.sched.shed :: (List.range 96).map fun i => if d.inMode i then d.cirSum i fun _ => true else 0))

/-! ### Service engines -/

/-- Whether a work item record is the host item that an ITEM_CANCEL names. -/
def isHostItem (r : Req) (w : List Nat) : Bool := bits (w.getD 2 0) 15 8 = 0x41 + r.fld 0 13 8 && w.getD 1 0 = r.word 1

/-- ITEM_CANCEL (R520). -/
def cmdItemCancel : Body := fun d r _ =>
  let s := r.fld 0 5 0
  let mine (w : Waiting) : Bool := w.item.any (isHostItem r)
  match (List.range 128).find? fun k => (d.queue (55296 + 128 * s + k)).items.any mine with
  | some k =>
    let q := 55296 + 128 * s + k
    match (d.queue q).items.find? mine with
    | none => (d, .no 0x0601)
    | some w =>
      let d := d.setQueue q fun x =>
        let l := x.items.filter fun y => y != w
        { x with items := l, awake := x.awake && !l.isEmpty }
      (d.notRun q w 0x22 (Dev.dropOfReason 0x22), .ok [0])
  | none =>
    match (List.range 9).find? fun p => (d.eng s p).item.any fun x => isHostItem r x.words with
    | some p => (d.post s p 2, .ok [1])
    | none => (d, .no 0x0601)

/-- SET_STATUS (R521). -/
def cmdSetStatus : Body := fun d r _ =>
  let first := r.fld 0 5 0
  let n := r.fld 0 15 8
  let entry (s : Nat) : List Nat :=
    let queued := (List.range 128).foldl (fun n k => n + (d.queue (55296 + 128 * s + k)).items.length) 0
    [d.peek (Dev.setBase s + 4), queued, ((d.set s).timers.filter fun t => !t.2.shadow).length, 0]
  if n = 0 || first + n > 64 then (d, .no 4) else (d, .ok ((List.range n).flatMap fun k => entry (first + k)))

namespace Dev

/-- R517: the walk of a CTX_REVAL ends: every context of its tenant that no lock and no journal holds has lost ACT_VALID. -/
def revalDone (d : Dev) (t : Nat × Nat) : Dev :=
  match d.ticket? t with
  | none => d
  | some y =>
    if y.req.opcode ≠ 0x0402 then d
    else if !storeOn d then d.closeTicket t 6 0 1 []
    else
      let mine := d.allCtxs.filter fun i => y.req.flag 0 31 || (d.ctx i).tenant = y.req.fld 0 15 0
      let held (i : Nat) : Bool := (d.ctx i).lock.isSome || (d.ctxHolder i).isSome
      let skipped := (mine.filter held).length
      let clear (d : Dev) (i : Nat) : Dev :=
        let d := d.setCtx i fun c => { c with actValid := false }
        d.mirror (.ctxSet (d.ctx i).toWords)
      let free := mine.filter fun i => !held i
      (free.foldl clear d).closeTicket t 0 0 2 [free.length, skipped]

end Dev

/-! ### Commands -/

/-- L2_FLUSH. -/
def execL2Flush (m : Fin 8) (slow : Bool) (s : State) : Result := s.act (·.takeAs m 0x0401 slow cmdL2Flush)
/-- CTX_REVAL. -/
def execCtxReval (m : Fin 8) (slow : Bool) (s : State) : Result := s.act (·.takeAs m 0x0402 slow cmdCtxReval)
/-- TBL_STATUS. -/
def execTblStatus (m : Fin 8) (slow : Bool) (s : State) : Result := s.act (·.takeAs m 0x0403 slow cmdTblStatus)
/-- SCH_FLUSH_IF. -/
def execSchFlushIf (m : Fin 8) (slow : Bool) (s : State) : Result := s.act (·.takeAs m 0x0501 slow cmdSchFlushIf)
/-- SCH_STATUS. -/
def execSchStatus (m : Fin 8) (slow : Bool) (s : State) : Result := s.act (·.takeAs m 0x0502 slow cmdSchStatus)
/-- ITEM_CANCEL. -/
def execItemCancel (m : Fin 8) (slow : Bool) (s : State) : Result := s.act (·.takeAs m 0x0601 slow cmdItemCancel)
/-- SET_STATUS. -/
def execSetStatus (m : Fin 8) (slow : Bool) (s : State) : Result := s.act (·.takeAs m 0x0602 slow cmdSetStatus)

/-- CTX_REVAL_DONE (R517): the mailbox and count of its ticket. -/
def execCtxRevalDone (m : Fin 8) (num : Nat) (s : State) : Result := s.act (·.revalDone (m, num))

end Sys2Proof.Machine
end

