-- ==== Sys2Proof/Machine/CmdTiles.lean ====
section
/-! DEFINITION. The commands of group 0x03: tiles and epochs (R509 to R515, R261 to R278). -/

namespace Sys2Proof.Machine

/-- TILE_OPEN (R509): the lowest free handle. -/
def cmdTileOpen : Body := fun d r _ =>
  let kind := r.fld 0 31 28
  let scope := r.fld 0 7 0
  let bytes := r.word 1
  let pages := (bytes + 4095) / 4096
  if !scopeOk kind scope || bytes < 228 || bytes > 536870912 || (bytes - 224) % 4 ≠ 0 then (d, .no 4)
  else match (List.range 1024).find? fun h => !Map.has d.tiles h with
    | none => (d, .no 0x0301)
    | some h =>
      if d.regionPages (regionOf kind) + pages > 131072 then (d, .no 0x0301)
      else ({ d with tiles := Map.put d.tiles h { kind := kind, scope := scope, pages := pages } }, .ok [h, pages, h, 0])

/-- TILE_SEAL (R510). -/
def cmdTileSeal : Body := fun d r t =>
  match Map.get? d.tiles (r.fld 0 9 0) with
  | none => (d, .no 4)
  | some x =>
    if x.st ≠ 0 then (d, .no 4)
    else if x.sealing then (d, .no 1)
    else if !d.hbmOn then (d, .no 6)
    else (d, begun t fun d => d.setTile (r.fld 0 9 0) fun x => { x with sealing := true })

/-- TILE_FREE (R511). -/
def cmdTileFree : Body := fun d r _ =>
  let h := r.fld 0 9 0
  match Map.get? d.tiles h with
  | none => (d, .no 4)
  | some x =>
    if x.st = 2 || x.st = 3 || x.sealing then (d, .no 1) else ({ d with tiles := Map.erase d.tiles h }, .ok [])

/-- TILE_LIST (R512). -/
def cmdTileList : Body := fun d r _ =>
  let l := d.tiles.filter fun e => r.fld 0 9 0 ≤ e.1
  let n := Dev.Reply.fit r 2 4 l.length
  let entry (e : Nat × Tile) : List Nat :=
    [e.2.st <<< 29 + e.2.kind <<< 24 + e.2.scope <<< 16 + e.1, if e.2.st = 0 then 0 else e.2.tileId, e.2.pages,
     if e.2.st = 0 then 0 else e.2.svn]
  let next := match l[n]? with
    | some e => e.1
    | none => 1024
  (d, .ok ([n, next] ++ (l.take n).flatMap entry) (if n < l.length then 0x10 else 0))

/-- The handles of an EPOCH_STAGE; none where the request breaks R513. -/
def stagedHandles (r : Req) : Option (List Nat) :=
  let n := r.fld 0 7 0
  let l := (List.range ((n + 1) / 2)).flatMap fun j => [r.fld (1 + j) 25 16, r.fld (1 + j) 9 0]
  if n = 0 || n > 166 || r.len ≠ 4 + 4 * ((n + 1) / 2) then none
  else if n % 2 = 1 && l.getD n 0 ≠ 0 then none
  else some (l.take n)

/-- EPOCH_STAGE (R270, R513): steps 1 and 2 are its acceptance. -/
def cmdEpochStage : Body := fun d r t =>
  match stagedHandles r with
  | none => (d, .no 4)
  | some l =>
    match d.stageRefusal (r.fld 0 31 16) l with
    | some st => (d, .no st)
    | none => (d, begun t fun d => (d.stageBegin (r.fld 0 31 16) l).setEpochs fun e => { e with ticket := some t })

/-- EPOCH_COMMIT (R272, R514). -/
def cmdEpochCommit : Body := fun d r _ =>
  let (d, st) := d.epochCommit (r.fld 0 31 16)
  if st = 0 then (d, .ok (d.otherTag :: two d.epochs.commitAt)) else (d, .no st)

/-- EPOCH_ABORT (R278). -/
def cmdEpochAbort : Body := fun d _ _ =>
  let (d, st) := d.epochAbort
  (d, if st = 0 then .ok [] else .no st)

/-- EPOCH_STATUS (R515). -/
def cmdEpochStatus : Body := fun d _ _ =>
  let first (i : Nat) : List Nat :=
    match Map.get? d.epochs.first i with
    | some n => if d.inMode i then [2 ^ 31 + n / 2 ^ 32 % 2 ^ 16, n % 2 ^ 32] else [0, 0]
    | none => [0, 0]
  (d, .ok ([d.peek 0x100, d.peek 0x104, d.peek 0x108, d.drainCount 0, d.drainCount 1, d.reg 0x124, d.reg 0x120, 0]
    ++ (List.range 96).flatMap first))

namespace Dev

/-- The open ticket of an opcode whose request `p` holds of. -/
def ticketOf (d : Dev) (code : Nat) (p : Req → Bool) : Option (Nat × Nat) :=
  d.mbxs.findSome? fun m => (m.2.tickets.find? fun t => t.req.opcode = code && p t.req).map fun t => (m.1, t.num)

/-- R261: a seal ends. `bad` is an uncorrectable word of the tile's pages: its stack and address. -/
def sealDone (d : Dev) (h : Nat) (bad : Option (Fin 2 × Nat)) : Dev :=
  match Map.get? d.tiles h with
  | none => d
  | some x =>
    if !x.sealing then d
    else
      let t := d.ticketOf 0x0302 fun r => r.fld 0 9 0 = h
      let (d, st) := if d.hbmOn then d.sealEnds h bad else (d.setTile h fun x => { x with sealing := false }, 6)
      match Map.get? d.tiles h with
      | none => d
      | some x =>
        let key := bits (x.word 1) 19 16
        if st = 0 then d.closeIf t 0 0 2 [x.tileId, x.kind <<< 28 + x.scope <<< 16 + key <<< 8, x.svn] else d.closeIf t st 0 1 []

/-- R270: a placement ends. `bad` is an uncorrectable word of a tile that it reads: the handle, its stack and address. -/
def stageDone (d : Dev) (bad : Option (Fin 1024 × Fin 2 × Nat)) : Dev :=
  if d.epochs.pend ≠ 1 then d
  else
    let t := d.epochs.ticket
    let (d, st, ws) := d.stageEnds (bad.map fun b => (b.1.val, b.2))
    d.closeIf t st 0 (if st = 0 then 2 else 1) ws

end Dev

/-! ### Commands -/

/-- TILE_OPEN. -/
def execTileOpen (m : Fin 8) (slow : Bool) (s : State) : Result := s.act (·.takeAs m 0x0301 slow cmdTileOpen)
/-- TILE_SEAL. -/
def execTileSeal (m : Fin 8) (slow : Bool) (s : State) : Result := s.act (·.takeAs m 0x0302 slow cmdTileSeal)
/-- TILE_FREE. -/
def execTileFree (m : Fin 8) (slow : Bool) (s : State) : Result := s.act (·.takeAs m 0x0303 slow cmdTileFree)
/-- TILE_LIST; `fail` is a failed host write at RSP_ADDR. -/
def execTileList (m : Fin 8) (slow fail : Bool) (s : State) : Result := s.act (·.takeAs m 0x0304 slow cmdTileList fail)
/-- EPOCH_STAGE. -/
def execEpochStage (m : Fin 8) (slow : Bool) (s : State) : Result := s.act (·.takeAs m 0x0305 slow cmdEpochStage)
/-- EPOCH_COMMIT. -/
def execEpochCommit (m : Fin 8) (slow : Bool) (s : State) : Result := s.act (·.takeAs m 0x0306 slow cmdEpochCommit)
/-- EPOCH_ABORT. -/
def execEpochAbort (m : Fin 8) (slow : Bool) (s : State) : Result := s.act (·.takeAs m 0x0307 slow cmdEpochAbort)
/-- EPOCH_STATUS. -/
def execEpochStatus (m : Fin 8) (slow : Bool) (s : State) : Result := s.act (·.takeAs m 0x0308 slow cmdEpochStatus)

/-- TILE_SEAL_DONE (R261). -/
def execTileSealDone (handle : Fin 1024) (bad : Option (Fin 2 × Nat)) (s : State) : Result := s.act (·.sealDone handle bad)

/-- EPOCH_STAGE_DONE (R270). -/
def execEpochStageDone (bad : Option (Fin 1024 × Fin 2 × Nat)) (s : State) : Result := s.act (·.stageDone bad)

end Sys2Proof.Machine
end

