-- ==== Sys2Proof/Machine/Egress.lean ====
section
/-! DEFINITION. Steps 9 and 10 of R18: the release of a packet, egress edits (R246), the frame on the wire, timestamps
(R54), what ends a frame (R104, R105), the ager (R333), and the reel's moments. -/

namespace Sys2Proof.Machine

/-- Operations of an egress edit (R246): anchors 0 and 2 only. -/
def editOps (w : Work) (v : ActEnv) : List Nat → Except Stop Work
  | [] => .ok w
  | o :: l => do
    let w ← w.op v o none
    editOps w v l

/-- R102, R246, R331: the mark, the edit and the truncation of a copy, in this order. -/
def egressPatch (act : ActImage) (w : Waiting) (bytes : List Byte) : Except Stop Patched := do
  let x := w.desc
  let anc := [some 0, none, if x.l3Kind = 0 then none else some x.l3Off, none, none, none, none, none, none, none]
  let k : Work := { p := ⟨bytes, x.mortar, x.mpatch, 0⟩, anc := anc }
  let v : ActEnv := { act := act, parse := {}, e := 0, matrix := none }
  let k ← if x.mark then k.setEcn v x.l3Off 3 else .ok k
  let k ← match x.edit with
    | some n => editOps k v (Map.getD act.edits n [])
    | none => .ok k
  match patchTruncate k.p x.trunc with
  | .ok p => return p
  | .error _ => throw .limit

/-- Bytes on the wire of a frame with `n` covered bytes (R355). -/
def wireLen (n : Nat) : Nat := max 64 (n + 4)

/-- A 16-bit-word checksum update over changed bytes at an even offset. -/
def csumOver : Nat → List Byte → List Byte → Nat
  | c, a :: b :: l, x :: y :: m =>
    csumOver (csumUpdate c (a.toNat * 256 + b.toNat) (x.toNat * 256 + y.toNat)) l m
  | c, _, _ => c

namespace Dev

/-- The bytes a waiting copy will have on the wire, before pad and FCS. -/
def onWire (d : Dev) (w : Waiting) : Except Stop Patched :=
  egressPatch (d.slot w.desc.tag).act w (d.chainBytes w.desc.chain w.desc.gen)

/-- Wire length of a waiting copy. -/
def wireOf (d : Dev) (w : Waiting) : Nat :=
  match d.onWire w with
  | .ok p => wireLen p.bytes.length
  | .error _ => wireLen w.desc.mlen

/-- The head of a queue. -/
def headOf (d : Dev) (q : Nat) : Option Waiting := (d.queue q).items.head?

/-- R358: heads that can never fit a window dropped under 0x80. -/
def dropNever (d : Dev) (i : Nat) : Dev :=
  (d.queuesOf i).foldl (fun d q =>
    let bad := (d.queue q).items.takeWhile fun w => d.neverFits i (q % 8) (d.wireOf w)
    if bad.isEmpty then d else
    let d := d.setQueue q fun x => { x with items := x.items.drop bad.length, awake := x.awake && bad.length < x.items.length }
    bad.foldl (fun d w => ((d.endWaiting w 0x80).bump (schBase i + 0x348)).event (schBase i + 0x30C) 7) d) d

/-- R331: whether a mark of a copy stays within the limits of R101; a copy whose egress patch fails anyhow is no matter. -/
def markRoom (d : Dev) (w : Waiting) : Bool :=
  match d.onWire { w with desc := { w.desc with mark := true } }, d.onWire w with
  | .error _, .ok _ => false
  | _, _ => true

/-- Whether a queue's head may start: its gate, the fit test, and express only where a preemptable frame is in progress or
suspended. -/
def mayStart (d : Dev) (i : Nat) (express : Bool) (q : Nat) : Bool :=
  match d.headOf q with
  | none => false
  | some w =>
    d.gateOpen i (q % 8) && d.fit i (q % 8) (d.wireOf w) != .no && !(express && d.preemptable i (q % 8))

/-- R357: heads that give NO are noted for the close of their window. -/
def noteHeld (d : Dev) (i : Nat) : Dev :=
  (d.queuesOf i).foldl (fun d q =>
    match d.headOf q with
    | none => d
    | some w =>
      if d.governed i (q % 8) && d.gateOpen i (q % 8) && d.fit i (q % 8) (d.wireOf w) = .no then
        d.setQueue q fun x => { x with holdNo := true }
      else d) d

/-- R333: the heads that would be chosen and have reached AGE_MAX end, until one that has not. -/
def ageChosen (d : Dev) (i : Nat) (ok : Nat → Bool) : Nat → Dev
  | 0 => d
  | fuel + 1 =>
    let cs := d.candidates i ok
    let gs := (cs.filter fun c => c.2.1).map (·.1)
    let woken := d.wakeTree i cs
    match woken.chooseQueue i (!gs.isEmpty) (if gs.isEmpty then cs.map (·.1) else gs) with
    | none => d
    | some q =>
      if (d.headOf q).any fun w => d.aged w.desc then (d.ageHeads i [q]).ageChosen i ok fuel else d

/-- The close that a frame of class `k` started now must meet; none where no gate closes (R362). -/
def closeOf (d : Dev) (i k : Nat) : Option Nat :=
  if !d.governed i k then none
  else
    let r := d.reels i
    closeAfter r.cur r.pend k (reelFuel r) d.wallTotal

/-- A frame starts at an interface. -/
def startFrame (d : Dev) (i : Nat) (w : Waiting) : Dev :=
  let s := d.sched
  let ends := match d.closeOf i (w.desc.queue % 8) with
    | some t => Map.put s.sendEnd i t
    | none => Map.erase s.sendEnd i
  { d with sched := { s with sending := Map.put s.sending i w, sendEnd := ends } }

/-- An egress patch that fails ends its copy (R246, R254). -/
def patchFailed (d : Dev) (i : Nat) (w : Waiting) (s : Stop) : Dev :=
  let x := w.desc
  match s with
  | .upset inj =>
    let l := srcLane (dieOf i) 127
    (d.raiseAs l 0x5002 [] inj true).endWaiting w 0x5E
  | .limit => (d.raise (srcCourse x.course) 0x5012 (mortarDetail x (d.slot x.tag).num x.mortar 0)).endWaiting w 0x56
  | .drop r => d.endWaiting w r
  | _ => d.endWaiting w 0x5A

/-- R327, R356, R359: one release opportunity of an interface. `upset` says that the released copy's egress edit reads in
error. -/
def schedulerRelease (d : Dev) (i : Nat) (upset : Bool) : Dev :=
  if !inMode d i || !d.takes i then d else
  let now := Map.get? d.sched.sending i
  let held := Map.get? d.sched.held i
  let busy := match now with
    | none => false
    | some w => !d.preemptable i (w.desc.queue % 8) || held.isSome
  if busy then d else
  let express := now.isSome || held.isSome
  let d := (d.dropNever i).noteHeld i
  let d := d.ageChosen i (d.mayStart i express) ((d.queuesOf i).length)
  match d.takeHead i (d.mayStart i express) d.markRoom with
  | (d, some (_, w)) =>
    match if upset && w.desc.edit.isSome then Except.error (Stop.upset false) else d.onWire w with
    | .error s => d.patchFailed i w s
    | .ok _ =>
      let d := match now with
        | some p => { d with sched := { d.sched with held := Map.put d.sched.held i p } }
        | none => d
      d.startFrame i w
  | (d, none) =>
    match now, held with
    | none, some w =>
      if d.gateOpen i (w.desc.queue % 8) && !d.pfcHeld i (w.desc.queue % 8) then
        ({ d with sched := { d.sched with held := Map.erase d.sched.held i } }).startFrame i w
      else d
    | _, _ => d

/-! ### The frame on the wire -/

/-- R54: a one-step edit of the frame's bytes at the wall time `t` of its start, in ns. -/
def oneStep (x : Desc) (t : Nat) (b : List Byte) : List Byte :=
  let o := x.ptpOff
  let (at_, new) : Nat × List Byte :=
    if x.tsOp = 1 then
      let sec := (t / 1000000000 + 4 - bits x.tstamp 31 30) % 4
      let res : Int := (sec * 1000000000 + t % 1000000000 : Nat) - (bits x.tstamp 29 0 : Nat)
      let res := if res < 0 then res + 4000000000 else res
      (o + 8, beBytes 8 ((field b (o + 8) 8 + res.toNat * 65536) % 2 ^ 64))
    else (o + 34, beBytes 6 (t / 1000000000) ++ beBytes 4 (t % 1000000000))
  if x.tsOp ≠ 1 && x.tsOp ≠ 2 then b
  else
    let b' := patch b at_ new
    let c := field b (o - 2) 2
    if x.tsUdp && c ≠ 0 then
      let n := csumOver c (Sys2Proof.Machine.slice b at_ new.length) (Sys2Proof.Machine.slice b' at_ new.length)
      patch b' (o - 2) (beBytes 2 (if n = 0 then 0xFFFF else n))
    else b'

/-- R374: a two-step record. -/
def stampRecord (d : Dev) (x : Desc) (i t : Nat) : List Nat :=
  [x.tsTag <<< 16 + i <<< 8 + d.timCode, t / 1000000000 / 2 ^ 32 % 2 ^ 16, t / 1000000000 % 2 ^ 32, t % 1000000000]

/-- R54, R374, R469: a two-step record written to the ring that the injection named. -/
def twoStep (d : Dev) (x : Desc) (i t : Nat) : Dev :=
  let r := wordsToLE (d.stampRecord x i t)
  let a := 0x400 + 4 * i
  let overAt (d : Dev) : Dev := d.setFld a 31 16 (min 65535 (d.fld a 31 16 + 1))
  if x.tsSet < 64 then
    let s := x.tsSet
    let wr := d.memWord s (0x7B800 + 4 * i) % 64
    let rd := d.memWord s (0x7BA00 + 4 * i) % 64
    if !d.isOn (38 + s) || (wr + 1) % 64 = rd then overAt d
    else (d.memWrite s (0x63800 + 0x400 * i + 16 * wr) r).memStore s (0x7B800 + 4 * i) (leBytes 4 ((wr + 1) % 64))
  else
    let wr := d.fld a 13 8
    if !d.flag 0x210 0 || (wr + 1) % 64 = d.fld a 5 0 then overAt d
    else
      let base := d.reg 0x214 * 2 ^ 32 + d.reg 0x210 / 1024 * 1024
      ((d.toHost (base + 0x400 * i + 16 * wr) r).setFld a 13 8 ((wr + 1) % 64)).sumBit 5

/-- A frame that leaves an interface stomped (R104). -/
def stomp (d : Dev) (i : Nat) (b : List Byte) : Dev :=
  let inv := (fcs b).map fun x => x ^^^ 0xFF
  { d with out := d.out ++ [Emission.frame i (b ++ inv) true] }.bump (mrtBase (courseOf i) + 0x28 + 16 * portIndex i)

/-- R362: a frame of a gated class that ends after its close. -/
def judgeClose (d : Dev) (i : Nat) : Dev :=
  match Map.get? d.sched.sendEnd i with
  | none => d
  | some c =>
    if d.wallTotal ≤ c then d
    else if (d.reels i).stepped then d.bump (schBase i + 0x338)
    else ((d.bump (schBase i + 0x340)).raise (srcIf i) 0x7021).event (schBase i + 0x30C) 6

/-- R104, R105, R307, R581: the last covered byte of a frame leaves, or its frame is withheld or stomped. -/
def frameEnd (d : Dev) (i : Nat) (f : TxFacts) : Dev :=
  match Map.get? d.sched.sending i with
  | none => d
  | some w =>
    let x := w.desc
    let h := halfAddr x.chain
    let saf := d.flag (mrtBase (courseOf i)) (portIndex i)
    let d := d.judgeClose i
    let s := d.sched
    let d := { d with sched := { s with sending := Map.erase s.sending i, sendEnd := Map.erase s.sendEnd i } }
    let d := d.setReels i fun r => { r with stepped := false }
    match d.chain? x.chain x.gen with
    | none => d.endCopy x (.dropped 0x64)
    | some c =>
      let whole := match d.onWire w with
        | .ok p => p
        | .error _ => ⟨c.bytes, x.mortar, x.mpatch, 0⟩
      let seen := f.seen.getD whole.bytes
      if c.poison || f.bad then
        let d := if f.bad && !c.poison then (d.raiseWear (srcMem (2 + h)) 0xC020 (memDetail (2 + h) d.free)).used else d
        let d := d.setChain x.chain fun c => { c with poison := true }
        (if saf then d else d.stomp i seen).endWaiting w 0xC1
      else
        let inj := d.flag (brkBase h + 0x0C) 1
        if f.link || inj || c.broken.isSome then
          let d := if inj then d.clrBit (brkBase h + 0x0C) 1 else d
          let d := if saf then d else d.stomp i seen
          (d.linkError x.chain inj).endCopy x (.dropped 0x64)
        else
          let computed := crc32c seen
          if computed ≠ whole.mortar then
            let det := mortarDetail x (d.slot x.tag).num whole.mortar computed
            let d := (d.bump (mrtBase (courseOf i) + 0x20 + 16 * portIndex i)).raiseAs (srcIf i) 0x5010 det x.inverted false
            (if saf then d else d.stomp i seen).endWaiting w 0x58
          else
            let t := d.wallTotal - f.age
            let b := oneStep x t seen
            let b := b ++ List.replicate (60 - b.length) 0
            let d := { d with out := d.out ++ [Emission.frame i (b ++ fcs b) false] }
            let d := (d.bump (portBase i + 0x210)).bump (portBase i + 0x218) (b.length + 4)
            let d := if x.tsOp = 3 then d.twoStep x i t else d
            (d.release x.chain x.gen).endCopy x .departed

/-! ### The ager (R333) -/

/-- The ager at a waiting descriptor; `lap` is the lap's time in µs where the visit ends one. -/
def agerVisit (d : Dev) (p : WaitPlace) (lap : Option Nat) : Dev :=
  let endP (d : Dev) (q : Pass) : Dev := (d.countGlobal 0x7E).dropPass q 0x7E
  let old (q : Pass) : Bool := d.aged q.desc
  let d := match p with
    | .hold c i => match (d.course c).hold[i]? with
      | some h => if old h.pass then endP (d.setCourse c fun s => { s with hold := s.hold.eraseIdx i }) h.pass else d
      | none => d
    | .miss c i => match (d.course c).missq[i]? with
      | some q => if old q then
          let d := d.setCourse c fun s => { s with missq := s.missq.eraseIdx i }
          (d.countGlobal 0x7E).dropSix c q 0x7E
        else d
      | none => d
    | .recirc c i => match (d.course c).recirc[i]? with
      | some r => if d.aged r.desc then
          endP (d.setCourse c fun s => { s with recirc := s.recirc.eraseIdx i }) { desc := r.desc, chained := true }
        else d
      | none => d
    | .inject c i => match (d.course c).inject[i]? with
      | some r => if d.aged r.desc then
          endP (d.setCourse c fun s => { s with inject := s.inject.eraseIdx i }) { desc := r.desc, chained := true }
        else d
      | none => d
    | .scan u i => match (d.au u).queue[i]? with
      | some s => if s.inline && old s.pass then
          let d := d.setAu u fun a => { a with queue := a.queue.eraseIdx i }
          (d.countGlobal 0x7E).dropSix s.pass.desc.course s.pass 0x7E
        else d
      | none => d
    | .queue q i => match (d.queue q).items[i]? with
      | some w => if d.aged w.desc && (w.item.isNone || w.nb > 1) then
          let d := d.setQueue q fun x => { x with items := x.items.eraseIdx i, awake := x.awake && x.items.length > 1 }
          let d := (d.endWaiting w 0x7E).countIfEnd q 1
          if q.val < 55296 then d.event (schBase (d.ifOfQueue q) + 0x18) 4 else d
        else d
      | none => d
    | .fjarair i => match d.pair.xq[i]? with
      | some w => if d.aged w.desc then
          ({ d with pair := { d.pair with xq := d.pair.xq.eraseIdx i } } : Dev).endWaiting w 0x7E
        else d
      | none => d
  match lap with
  | none => d
  | some us =>
    let d := d.setReg 0x300020 (min us (2 ^ 32 - 1))
    if us > 10000 then (d.raise (srcHalf 0) 0x7010).event 0x300008 3 else d

end Dev

/-- SCHEDULER_RELEASE (R327): interface, and whether the released copy's egress edit reads in error. -/
def execSchedulerRelease (i : Fin 96) (upset : Bool) (s : State) : Result := s.actIf i (·.schedulerRelease i upset)

/-- EGRESS_FRAME_END (R104). -/
def execEgressFrameEnd (i : Fin 96) (facts : TxFacts) (s : State) : Result := s.actIf i (·.frameEnd i facts)

/-- AGER_VISIT (R333): a wait place, and the lap's time in µs where the visit ends a lap. -/
def execAgerVisit (place : WaitPlace) (lap : Option Nat) (s : State) : Result := s.act (·.agerVisit place lap)

/-- REFUSAL_NOTICE (R335): a bay. -/
def execRefusalNotice (bay : Fin 48) (s : State) : Result :=
  s.act fun d => d.refusalNotice bay fun k => d.gateOpen bay k && d.fit bay k (d.noticeLen bay) != .no

/-- FIGURE_BOUNDARY (R346, R365): interface, and whether the figure read there is uncorrectable. -/
def execFigureBoundary (i : Fin 96) (bad : Bool) (s : State) : Result :=
  s.actIf i fun d => if bad && (d.reels i).cur.isSome then d.figureError i false else d.seeGates i

/-- REEL_SWITCH (R352). -/
def execReelSwitch (i : Fin 96) (s : State) : Result := s.actIf i fun d => (d.switchIfDue i).settle

/-- REEL_REPLACED (R365): interface, and whether the pages of its tile are POISONED. -/
def execReelReplaced (i : Fin 96) (poisoned : Bool) (s : State) : Result := s.actIf i (·.reelReplaced i poisoned)

end Sys2Proof.Machine
end

