-- ==== Sys2Proof/Machine/Records.lean ====
section
/-! DEFINITION. RECORDS descriptors (R456): bank records (R153), table records (R219) and scheduler records (R339), one command a
record. -/

namespace Sys2Proof.Machine

/-- How a record ends: its outcome's status and reason, the record as it is returned where it is, or an uncorrectable read. -/
inductive RecEnd where
  | out (status reason : Nat) (back : Option (List Nat))
  | down
deriving DecidableEq, Repr

/-- The outcome word of a record (R456). -/
def outWord (status reason : Nat) : Nat := 2 ^ 31 + reason <<< 16 + status

/-- Bytes of a record of a SPACE. -/
def recBytes (space : Nat) : Nat := match space with | 0 => 192 | 1 => 160 | _ => 64

/-- A learned entry's words (R202), by key. -/
def L2Entry.toWords (e : L2Entry) (key : Nat) : List Nat :=
  let mac := key % 2 ^ 48
  [mac / 2 ^ 16, (mac % 2 ^ 16) <<< 16 + (key / 2 ^ 48) <<< 2,
   2 ^ 31 + b2n e.static <<< 30 + b2n e.aged <<< 29 + b2n e.stale <<< 28 + b2n e.lock.isSome <<< 27 + b2n e.pinned <<< 26
     + e.iface <<< 16 + e.anchor <<< 8 + e.moves <<< 4,
   (e.flap.map fun f => (f.1 / 2 ^ 10 % 2 ^ 28) <<< 4).getD 0]

namespace Dev

/-! ### Table records (R219 to R221) -/

/-- Whether a lock is another channel's. -/
def lockedOut (o : Option (Nat × Nat)) (c : Nat) : Bool := o.any fun l => l.1 ≠ c

/-- A table record as it is returned: index and GEN in words 1 and 2, the image in DATA. -/
def tblBack (w : List Nat) (idx gen : Nat) (data : List Nat) : List Nat :=
  [word w 0, idx, gen] ++ (w.drop 3).take 5 ++ (data ++ List.replicate 32 0).take 32

/-- What a table operation answers. -/
def tblOut (r : Dev × Option TblError) : Dev × RecEnd :=
  match r with
  | (d, none) => (d, .out 0 0 none)
  | (d, some e) => (d, .out 0x0C e.code none)

/-- A context returned. -/
def ctxBack (d : Dev) (w : List Nat) (i : Nat) : Dev × RecEnd :=
  let x := d.ctx i
  (d, .out 0 0 (some (tblBack w i x.gen x.toWords)))

/-- A record on the context store; `bad` is a word of the store that reads uncorrectable. -/
def ctxRecord (d : Dev) (c : Nat) (w : List Nat) (bad : Bool) : Dev × RecEnd :=
  let op := bits (word w 0) 31 28
  let i := bits (word w 1) 23 0
  let g := bits (word w 2) 7 0
  let data := w.drop 8
  let new := ({} : Ctx).write true data
  let keeper := if op = 3 || op = 7 then d.ctxHome new.tpl new.key else i
  let err (d : Dev) (e : TblError) : Dev × RecEnd := (d, .out 0x0C e.code none)
  if !keeperOn d keeper then (d, .down)
  else match op with
    | 1 =>
      if bad || d.ctxBad i then
        err (d.storeBad i) .parity
      else match d.ctxCheck i g with
        | some e => err d e
        | none => d.ctxBack w i
    | 2 =>
      match d.ctxCheck i g with
      | some .parity => err (d.ctxRefused i) .parity
      | some e => err d e
      | none =>
        if lockedOut (d.ctx i).lock c then err d .locked
        else if (word w 0).testBit 26 && (d.ctx i).conflict then err d .conflict
        else tblOut (d.ctxWrite i g (fun x => x.write false data) false)
    | 3 =>
      match d.ctxCreate new with
      | (d, .error .exists_, k) => (d, .out 0x0C 3 (some (tblBack w k (d.ctx k).gen (d.ctx k).toWords)))
      | (d, .error e, _) => err d e
      | (d, .ok k, _) => d.ctxBack w k
    | 4 =>
      match d.ctxCheck i g with
      | some e => err d e
      | none => if lockedOut (d.ctx i).lock c then err d .locked else tblOut (d.ctxFree i g)
    | 5 => tblOut (d.ctxLock c i g)
    | 6 => tblOut (d.ctxUnlock c i g)
    | _ =>
      match d.findCtx new.tpl new.key bad with
      | (d, .error e) => err d e
      | (d, .ok k) => d.ctxBack w k

/-- A record on the learned table of one physical course. -/
def l2Record (d : Dev) (c : Nat) (w : List Nat) (p : Nat) : Dev × RecEnd :=
  let key := bits (word w 9) 15 2 * 2 ^ 48 + word w 8 * 2 ^ 16 + bits (word w 9) 31 16
  let w2 := word w 10
  let err (e : TblError) : Dev × RecEnd := (d, .out 0x0C e.code none)
  let old := d.l2? p key
  let blocked := old.any fun e => lockedOut e.lock c
  match bits (word w 0) 31 28 with
  | 2 =>
    if blocked then err .locked
    else if !w2.testBit 31 then (d.l2Erase p key, .out 0 0 none)
    else if old.isNone && !d.l2Room p key then err .full
    else (d.l2Put p key { iface := bits w2 23 16, static := w2.testBit 30, lock := old.bind (·.lock) }, .out 0 0 none)
  | 4 => if old.isNone then err .notFound else if blocked then err .locked else (d.l2Erase p key, .out 0 0 none)
  | 5 =>
    match old with
    | none => err .notFound
    | some e =>
      if e.lock.isSome then err .locked
      else if d.locksOf c ≥ 16 then err .full
      else (d.l2Put p key { e with lock := some (c, d.now) }, .out 0 0 none)
  | 6 =>
    match old with
    | none => err .notFound
    | some e =>
      if e.lock.any fun l => l.1 = c then (d.l2Put p key { e with lock := none }, .out 0 0 none) else err .notLocked
  | _ =>
    match old with
    | none => err .notFound
    | some e => (d, .out 0 0 (some (tblBack w 0 0 (e.toWords key))))

/-- A table record; on the learned table with ALL it applies to every course in service, and the first course that refuses
gives its reason. -/
def tblRecord (d : Dev) (c : Nat) (w : List Nat) (bad : Bool) : Dev × RecEnd :=
  let w0 := word w 0
  let op := bits w0 31 28
  let learned := w0.testBit 27
  let reserved := w0 &&& 0x010FFFFF ≠ 0 || bits (word w 1) 31 24 ≠ 0 || bits (word w 2) 31 8 ≠ 0
    || ((w.drop 3).take 5).any (· ≠ 0) || (learned && (w.drop 12).any (· ≠ 0))
  if op = 0 || op > 7 || reserved || (learned && op = 3) then (d, .out 4 0 none)
  else if !learned then d.ctxRecord c w bad
  else
    let ps := if w0.testBit 25 then d.servingCourses else [d.physical (bits w0 23 20)]
    if ps.any (fun p => !d.isOn (4 + p)) then (d, .down)
    else
      ps.foldl (fun (a : Dev × RecEnd) p =>
        let (d, e) := a.1.l2Record c w p
        (d, match a.2 with
          | .out 0 _ none => e
          | x => x)) (d, .out 0 0 none)

/-! ### Scheduler records -/

/-- The half that a scheduler record acts on. -/
def schedHalf (d : Dev) (w : List Nat) : Nat :=
  let ix := bits (word w 0) 17 0
  match d.schedIf (bits (word w 0) 27 26) ix with
  | some i => halfOf i
  | none => if bits (word w 0) 27 26 = 0 then halfOfQueue ix else 0

/-- A scheduler record. -/
def schedRecord (d : Dev) (w : List Nat) : Dev × RecEnd :=
  let st (n : Nat) : Nat := if n = 1 then 4 else n
  if !d.halfOn (d.schedHalf w) then (d, .down)
  else match bits (word w 0) 31 28 with
    | 1 => let (d, n) := d.schedWrite w; (d, .out (st n) 0 none)
    | 2 =>
      let (d, n, back) := d.schedRead d.gateOpen (word w 0)
      (d, .out (st n) 0 (if n = 0 then some back else none))
    | 3 => let (d, n) := d.schedFlush (word w 0); (d, .out (st n) 0 none)
    | _ => (d, .out 4 0 none)

/-! ### Bank records -/

/-- Whether a logical bank takes part in the placement of a BANK tile (R156). -/
def bankPlacing (d : Dev) (lb : Nat) : Bool :=
  d.epochs.pend = 1 && (d.tilesOf d.epochs.listed).any fun t => t.2.kind = 2 && t.2.scope = lb / 4

/-- The status of a refused bank record. -/
def bankStatus (e : BankError) : Nat := match e with | .busy => 1 | .badParam => 4

/-- The record that a READ returns. -/
def bankBack (w : List Nat) (r : List Nat) : Option (List Nat) := if bits (word w 0) 31 28 = 3 then some r else none

/-- A single bank record. -/
def bankRecord (d : Dev) (w : List Nat) : Dev × RecEnd :=
  let lb := bits (word w 0) 19 14
  if !d.isOn (102 + lb / 32) then (d, .down)
  else match d.bankCheck (d.bankPlacing lb) w with
    | some e => (d, .out (bankStatus e) 0 none)
    | none => let (d, r) := d.bankApply w; (d, .out 0 0 (bankBack w r))

/-! ### The descriptor -/

/-- The RECORDS descriptor of a channel, changed. -/
def setRecs (d : Dev) (c : Nat) (f : RecRun → RecRun) : Dev := d.setChan c fun x => { x with recs := x.recs.map f }

/-- Outcome words from record `i`, and a record written back in place. -/
def putOut (d : Dev) (c : Nat) (r : RecRun) (i : Nat) (ws : List Nat) (back : Option (List Nat)) : Dev :=
  let n := recBytes (dSpace r.words)
  let d := (d.toHost (dOut r.words + 4 * i) (wordsToLE ws)).bytesOut c (4 * ws.length)
  match back with
  | none => d
  | some b => (d.toHost (dHost r.words + n * i) (wordsToLE b)).bytesOut c n

/-- A record judged: its outcome is written, and the descriptor ends with its last record. -/
def recOut (d : Dev) (c index status reason : Nat) (back : Option (List Nat)) (rest : List (Fin 16 × BitVec 32)) : Dev :=
  match (d.chan c).recs with
  | none => d
  | some r =>
    let d := d.putOut c r r.done [outWord status reason] back
    let good := r.good + b2n (status = 0)
    let d := d.setRecs c fun r => { r with done := r.done + 1, good := good, pair := none }
    if r.done + 1 = dLen r.words then
      d.descEnds c index r.words (if good = r.done + 1 then .done 0 0 good [] else .done 0x0C 0x10 good []) rest
    else d

/-- The records from the one in hand on end with outcome words of `first` and then NOT_RUN. -/
def recsCut (d : Dev) (c first : Nat) : Dev :=
  match (d.chan c).recs with
  | none => d
  | some r =>
    d.putOut c r r.done ((List.range (dLen r.words - r.done)).map fun k => outWord (if k = 0 then first else 0x0B) 0) none

/-- Both records of a bank pair judged (R155). -/
def pairOut (d : Dev) (c index : Nat) (a b : List Nat) (rest : List (Fin 16 × BitVec 32)) : Dev :=
  let la := bits (word a 0) 19 14
  let lb := bits (word b 0) 19 14
  let (d, e, ra, rb) := d.bankPair (d.bankPlacing la || d.bankPlacing lb) a b
  match e with
  | some e => (d.recOut c index (bankStatus e) 0 none rest).recOut c index (bankStatus e) 0 none rest
  | none => (d.recOut c index 0 0 (bankBack a ra) rest).recOut c index 0 0 (bankBack b rb) rest

/-- The next record of the descriptor in progress judged. -/
def nextRecord (d : Dev) (c index : Nat) (rec : List Nat) (f : DmaFacts) (judge : Dev → Dev × RecEnd) : Dev :=
  match (d.chan c).recs with
  | none => d
  | some r =>
    let d := d.bytesIn c (recBytes (dSpace r.words))
    match f.host, d.eccMet c f with
    | some e, _ =>
      let (d, e) := d.hostEnd c e r.good
      d.descEnds c index r.words e f.rest
    | none, some inj => ((d.eccUsed c inj).recsCut c 0x0A).descEnds c index r.words (.halt inj r.good) f.rest
    | none, none =>
      match r.pair with
      | some a =>
        if !d.isOn (102 + bits (word rec 0) 19 14 / 32) then (d.recsCut c 6).descEnds c index r.words (.done 6 0 r.good []) f.rest
        else d.pairOut c index a rec f.rest
      | none =>
        if dSpace r.words = 0 && (word rec 0).testBit 27 then
          if r.done + 1 = dLen r.words then d.recOut c index 4 0 none f.rest
          else d.setRecs c fun r => { r with pair := some rec }
        else match judge d with
          | (d, .out st why back) => d.recOut c index st why back f.rest
          | (d, .down) => (d.recsCut c 6).descEnds c index r.words (.done 6 0 r.good []) f.rest

/-- A record of a RECORDS descriptor, where its OP is `op` of `n` valid ones; an invalid OP is taken by any. The first record
starts the descriptor at HEAD. -/
def recordRow (d : Dev) (c space op n : Nat) (w rec : List Nat) (f : DmaFacts) (judge : Dev → Dev × RecEnd) : Dev :=
  let k := bits (word rec 0) 31 28
  if k ≠ op && 1 ≤ k && k ≤ n then d
  else match (d.chan c).recs with
    | some r => if dSpace r.words = space then d.nextRecord c ((d.ringHead c + d.ringSize c - 1) % d.ringSize c) rec f judge else d
    | none =>
      let index := d.ringHead c
      if dOp w = 3 && !descBad w && dSpace w = space && f.host ≠ some .unfetchable && 1 ≤ dLen w && dLen w ≤ 4096 then
        if !d.chanStarts c then d
        else ((d.fetchDesc c).setChan c fun x => { x with recs := some { words := w } }).nextRecord c index rec f judge
      else if dOp w = 3 && !descBad w && dSpace w ≠ space && f.host ≠ some .unfetchable then d
      else d.descRow c 3 w f fun d => (d, .code 4)

end Dev

/-! ### Commands: the channel, the descriptor, the record, and what they meet -/

/-- A bank record's command. -/
def bankRow (op : Nat) (ch : Fin 64) (desc : Vector (BitVec 32) 16) (record : Vector (BitVec 32) 48) (facts : DmaFacts) (d : Dev) : Dev :=
  let r := record.toList.map (·.toNat)
  d.recordRow ch 0 op 3 (descWords desc) r facts fun d => d.bankRecord r

/-- A table record's command. -/
def tblRow (op : Nat) (ch : Fin 64) (desc : Vector (BitVec 32) 16) (record : Vector (BitVec 32) 40) (bad : Bool) (facts : DmaFacts)
    (d : Dev) : Dev :=
  let r := record.toList.map (·.toNat)
  d.recordRow ch 1 op 7 (descWords desc) r facts fun d => d.tblRecord ch r bad

/-- A scheduler record's command. -/
def schedRow (op : Nat) (ch : Fin 64) (desc : Vector (BitVec 32) 16) (record : Vector (BitVec 32) 16) (facts : DmaFacts) (d : Dev) : Dev :=
  let r := descWords record
  d.recordRow ch 2 op 3 (descWords desc) r facts fun d => d.schedRecord r

/-- BANK_WRITE (R154). -/
def execBankWrite (ch : Fin 64) (desc : Vector (BitVec 32) 16) (record : Vector (BitVec 32) 48) (facts : DmaFacts) (s : State) :
    Result := s.act (bankRow 1 ch desc record facts)

/-- BANK_INVALIDATE (R154). -/
def execBankInvalidate (ch : Fin 64) (desc : Vector (BitVec 32) 16) (record : Vector (BitVec 32) 48) (facts : DmaFacts) (s : State) :
    Result := s.act (bankRow 2 ch desc record facts)

/-- BANK_READ (R153). -/
def execBankRead (ch : Fin 64) (desc : Vector (BitVec 32) 16) (record : Vector (BitVec 32) 48) (facts : DmaFacts) (s : State) :
    Result := s.act (bankRow 3 ch desc record facts)

/-- TBL_READ (R219). -/
def execTblRead (ch : Fin 64) (desc : Vector (BitVec 32) 16) (record : Vector (BitVec 32) 40) (bad : Bool) (facts : DmaFacts)
    (s : State) : Result := s.act (tblRow 1 ch desc record bad facts)

/-- TBL_WRITE (R219). -/
def execTblWrite (ch : Fin 64) (desc : Vector (BitVec 32) 16) (record : Vector (BitVec 32) 40) (facts : DmaFacts) (s : State) :
    Result := s.act (tblRow 2 ch desc record false facts)

/-- TBL_CREATE (R192). -/
def execTblCreate (ch : Fin 64) (desc : Vector (BitVec 32) 16) (record : Vector (BitVec 32) 40) (facts : DmaFacts) (s : State) :
    Result := s.act (tblRow 3 ch desc record false facts)

/-- TBL_DELETE (R193). -/
def execTblDelete (ch : Fin 64) (desc : Vector (BitVec 32) 16) (record : Vector (BitVec 32) 40) (facts : DmaFacts) (s : State) :
    Result := s.act (tblRow 4 ch desc record false facts)

/-- TBL_LOCK (R221). -/
def execTblLock (ch : Fin 64) (desc : Vector (BitVec 32) 16) (record : Vector (BitVec 32) 40) (facts : DmaFacts) (s : State) :
    Result := s.act (tblRow 5 ch desc record false facts)

/-- TBL_UNLOCK (R221). -/
def execTblUnlock (ch : Fin 64) (desc : Vector (BitVec 32) 16) (record : Vector (BitVec 32) 40) (facts : DmaFacts) (s : State) :
    Result := s.act (tblRow 6 ch desc record false facts)

/-- TBL_FIND (R219). -/
def execTblFind (ch : Fin 64) (desc : Vector (BitVec 32) 16) (record : Vector (BitVec 32) 40) (bad : Bool) (facts : DmaFacts)
    (s : State) : Result := s.act (tblRow 7 ch desc record bad facts)

/-- SCHED_WRITE (R339). -/
def execSchedWrite (ch : Fin 64) (desc record : Vector (BitVec 32) 16) (facts : DmaFacts) (s : State) : Result :=
  s.act (schedRow 1 ch desc record facts)

/-- SCHED_READ (R332). -/
def execSchedRead (ch : Fin 64) (desc record : Vector (BitVec 32) 16) (facts : DmaFacts) (s : State) : Result :=
  s.act (schedRow 2 ch desc record facts)

/-- SCHED_FLUSH (R334). -/
def execSchedFlush (ch : Fin 64) (desc record : Vector (BitVec 32) 16) (facts : DmaFacts) (s : State) : Result :=
  s.act (schedRow 3 ch desc record facts)

end Sys2Proof.Machine
end

