-- ==== Sys2Proof/Machine/SmBus.lean ====
section
/-! DEFINITION. The SMBus slave's writes (R472 to R474). -/

namespace Sys2Proof.Machine

namespace Dev

/-- A write over SMBus: without a valid PEC it is ignored and faulted (R472). -/
def smbWrite (d : Dev) (pec : Bool) (f : Dev → Dev) : Dev := if pec then f d else d.raise 0xD081 0xD030

end Dev

/-- SMB_LIMIT_WRITE (R474): the word written, and whether its PEC is valid. -/
def execSmbLimitWrite (v : BitVec 16) (pec : Bool) (s : State) : Result :=
  s.act (·.smbWrite pec fun d => d.setFld 0x5000C 25 16 v.toNat)

/-- SMB_FIXED_WRITE (R473). -/
def execSmbFixedWrite (v : BitVec 16) (pec : Bool) (s : State) : Result :=
  s.act (·.smbWrite pec fun d => d.setFld 0x50010 9 0 v.toNat)

/-- SMB_WAKE_WRITE (R435): bit 0 is wake source 1. -/
def execSmbWakeWrite (v : BitVec 8) (pec : Bool) (s : State) : Result :=
  s.act (·.smbWrite pec fun d => (d.setPower fun p => { p with smbWake := v.getLsbD 0 }).wakeEvent 1 (v.getLsbD 0))

/-- SMB_TRIP_WRITE (R474): a 1 releases THERM_TRIP_N, unless Tj is still at or above 115 °C; the release is a warm reset (R644). -/
def execSmbTripWrite (v : BitVec 8) (pec : Bool) (s : State) : Result :=
  s.act (·.smbWrite pec fun d =>
    if v.getLsbD 0 && d.power.tripLow && d.power.tj < 115 then (d.setPower fun p => { p with tripLow := false }).warmReset 2 else d)

end Sys2Proof.Machine
end

