-- ==== Sys2Proof/Machine/Dispatch.lean ====
section
/-! DEFINITION. Which meaning each command has: one arm a constructor, one call of its meaning. -/

namespace Sys2Proof.Machine

def exec (i : Instr) (s : State) : Host.Outcome State Fault Refusal :=
  match i with
  | .registerWrite addr be v => Sys2Proof.Machine.execRegisterWrite addr be v s
  | .rcFieldRead addr => Sys2Proof.Machine.execRcFieldRead addr s
  | .counterLoRead addr => Sys2Proof.Machine.execCounterLoRead addr s
  | .domainOffAccess addr write => Sys2Proof.Machine.execDomainOffAccess addr write s
  | .timeIslandCycle on156 on10 => Sys2Proof.Machine.execTimeIslandCycle on156 on10 s
  | .timNsRead => Sys2Proof.Machine.execTimNsRead s
  | .timMonoLoRead => Sys2Proof.Machine.execTimMonoLoRead s
  | .timStepWrite v => Sys2Proof.Machine.execTimStepWrite v s
  | .timServoWrite v => Sys2Proof.Machine.execTimServoWrite v s
  | .timAdjWrite v => Sys2Proof.Machine.execTimAdjWrite v s
  | .discWrite v => Sys2Proof.Machine.execDiscWrite v s
  | .refselWrite v => Sys2Proof.Machine.execRefselWrite v s
  | .refselTakeover => Sys2Proof.Machine.execRefselTakeover s
  | .ppsInEdge rising => Sys2Proof.Machine.execPpsInEdge rising s
  | .ppsEdgeMissing => Sys2Proof.Machine.execPpsEdgeMissing s
  | .discTimeout => Sys2Proof.Machine.execDiscTimeout s
  | .referenceLoss ref => Sys2Proof.Machine.execReferenceLoss ref s
  | .speedWindowEnd course rate mv tj => Sys2Proof.Machine.execSpeedWindowEnd course rate mv tj s
  | .timeSnapshot counter => Sys2Proof.Machine.execTimeSnapshot counter s
  | .wakeTimeLoad counter => Sys2Proof.Machine.execWakeTimeLoad counter s
  | .frameReceived ifc frame => Sys2Proof.Machine.execFrameReceived ifc frame s
  | .pfcPauseExpiry ifc prio => Sys2Proof.Machine.execPfcPauseExpiry ifc prio s
  | .presenceChange ifc present => Sys2Proof.Machine.execPresenceChange ifc present s
  | .portEnableWrite ifc en => Sys2Proof.Machine.execPortEnableWrite ifc en s
  | .breakoutWrite n split => Sys2Proof.Machine.execBreakoutWrite n split s
  | .prtBindHiWrite bay k v => Sys2Proof.Machine.execPrtBindHiWrite bay k v s
  | .autonegResolved ifc partner => Sys2Proof.Machine.execAutonegResolved ifc partner s
  | .linkUp ifc => Sys2Proof.Machine.execLinkUp ifc s
  | .trainAttemptTimeout ifc => Sys2Proof.Machine.execTrainAttemptTimeout ifc s
  | .retryGapEnd ifc => Sys2Proof.Machine.execRetryGapEnd ifc s
  | .lockLostTimeout ifc => Sys2Proof.Machine.execLockLostTimeout ifc s
  | .pfcWatchdogTrip ifc prio => Sys2Proof.Machine.execPfcWatchdogTrip ifc prio s
  | .pfcRecoverEnd ifc prio => Sys2Proof.Machine.execPfcRecoverEnd ifc prio s
  | .pfcTxRefresh ifc => Sys2Proof.Machine.execPfcTxRefresh ifc s
  | .quarWindowEnd ifc => Sys2Proof.Machine.execQuarWindowEnd ifc s
  | .fecWindowEnd die group corr unc => Sys2Proof.Machine.execFecWindowEnd die group corr unc s
  | .laneSelfTestDone die group passes => Sys2Proof.Machine.execLaneSelfTestDone die group passes s
  | .preemptVerifySend ifc => Sys2Proof.Machine.execPreemptVerifySend ifc s
  | .preemptVerifyResult ifc ok => Sys2Proof.Machine.execPreemptVerifyResult ifc ok s
  | .coursePass course up => Sys2Proof.Machine.execCoursePass course up s
  | .contextMissReturn course ifc bad ups => Sys2Proof.Machine.execContextMissReturn course ifc bad ups s
  | .contextWriteBack idx => Sys2Proof.Machine.execContextWriteBack idx s
  | .pendExpiry slice set => Sys2Proof.Machine.execPendExpiry slice set s
  | .learnNoticeApply course => Sys2Proof.Machine.execLearnNoticeApply course s
  | .pinHoldEnd course bd mac => Sys2Proof.Machine.execPinHoldEnd course bd mac s
  | .l2SweepVisit course bd mac lapEnd => Sys2Proof.Machine.execL2SweepVisit course bd mac lapEnd s
  | .contextSweepVisit idx lapEnd => Sys2Proof.Machine.execContextSweepVisit idx lapEnd s
  | .lockExpiry entry => Sys2Proof.Machine.execLockExpiry entry s
  | .fragHoldExpiry course ifc parity => Sys2Proof.Machine.execFragHoldExpiry course ifc parity s
  | .fragEntryExpiry course ifc => Sys2Proof.Machine.execFragEntryExpiry course ifc s
  | .scanStart unit => Sys2Proof.Machine.execScanStart unit s
  | .scanComplete unit ifc upset fetches up => Sys2Proof.Machine.execScanComplete unit ifc upset fetches up s
  | .auBudgetWindow unit => Sys2Proof.Machine.execAuBudgetWindow unit s
  | .auEnableWrite unit en => Sys2Proof.Machine.execAuEnableWrite unit en s
  | .bankScannerVisit bank unit parityOk shadowOk equal lap => Sys2Proof.Machine.execBankScannerVisit bank unit parityOk shadowOk equal lap s
  | .bankSweepDone => Sys2Proof.Machine.execBankSweepDone s
  | .bankReplace bank verified => Sys2Proof.Machine.execBankReplace bank verified s
  | .mortarWindowEnd course => Sys2Proof.Machine.execMortarWindowEnd course s
  | .schedulerRelease ifc upset => Sys2Proof.Machine.execSchedulerRelease ifc upset s
  | .egressFrameEnd ifc facts => Sys2Proof.Machine.execEgressFrameEnd ifc facts s
  | .agerVisit place lap => Sys2Proof.Machine.execAgerVisit place lap s
  | .refusalNotice bay => Sys2Proof.Machine.execRefusalNotice bay s
  | .brickSweepVisit half brick lap => Sys2Proof.Machine.execBrickSweepVisit half brick lap s
  | .brkResvWrite half cls v => Sys2Proof.Machine.execBrkResvWrite half cls v s
  | .brkThreshWrite half k v => Sys2Proof.Machine.execBrkThreshWrite half k v s
  | .schIfRateWrite ifc v => Sys2Proof.Machine.execSchIfRateWrite ifc v s
  | .figureBoundary ifc bad => Sys2Proof.Machine.execFigureBoundary ifc bad s
  | .reelSwitch ifc => Sys2Proof.Machine.execReelSwitch ifc s
  | .reelReplaced ifc poisoned => Sys2Proof.Machine.execReelReplaced ifc poisoned s
  | .tileSealDone handle bad => Sys2Proof.Machine.execTileSealDone handle bad s
  | .epochStageDone bad => Sys2Proof.Machine.execEpochStageDone bad s
  | .commitAt => Sys2Proof.Machine.execCommitAt s
  | .drainCountZero => Sys2Proof.Machine.execDrainCountZero s
  | .routeFoldDone => Sys2Proof.Machine.execRouteFoldDone s
  | .epochEndDeadline => Sys2Proof.Machine.execEpochEndDeadline s
  | .drainAudit => Sys2Proof.Machine.execDrainAudit s
  | .itemStart set => Sys2Proof.Machine.execItemStart set s
  | .safePoint set pos bad => Sys2Proof.Machine.execSafePoint set pos bad s
  | .engNop set pos bad => Sys2Proof.Machine.execEngNop set pos bad s
  | .engAdd set pos bad => Sys2Proof.Machine.execEngAdd set pos bad s
  | .engSub set pos bad => Sys2Proof.Machine.execEngSub set pos bad s
  | .engAnd set pos bad => Sys2Proof.Machine.execEngAnd set pos bad s
  | .engOr set pos bad => Sys2Proof.Machine.execEngOr set pos bad s
  | .engXor set pos bad => Sys2Proof.Machine.execEngXor set pos bad s
  | .engMov set pos bad => Sys2Proof.Machine.execEngMov set pos bad s
  | .engMin set pos bad => Sys2Proof.Machine.execEngMin set pos bad s
  | .engMax set pos bad => Sys2Proof.Machine.execEngMax set pos bad s
  | .engCmp set pos bad => Sys2Proof.Machine.execEngCmp set pos bad s
  | .engShl set pos bad => Sys2Proof.Machine.execEngShl set pos bad s
  | .engShr set pos bad => Sys2Proof.Machine.execEngShr set pos bad s
  | .engSar set pos bad => Sys2Proof.Machine.execEngSar set pos bad s
  | .engExt set pos bad => Sys2Proof.Machine.execEngExt set pos bad s
  | .engIns set pos bad => Sys2Proof.Machine.execEngIns set pos bad s
  | .engBswap set pos bad => Sys2Proof.Machine.execEngBswap set pos bad s
  | .engPopcnt set pos bad => Sys2Proof.Machine.execEngPopcnt set pos bad s
  | .engLd set pos bad => Sys2Proof.Machine.execEngLd set pos bad s
  | .engLdi set pos bad => Sys2Proof.Machine.execEngLdi set pos bad s
  | .engLdc set pos bad => Sys2Proof.Machine.execEngLdc set pos bad s
  | .engStc set pos bad => Sys2Proof.Machine.execEngStc set pos bad s
  | .engSt set pos bad => Sys2Proof.Machine.execEngSt set pos bad s
  | .engAddc set pos bad => Sys2Proof.Machine.execEngAddc set pos bad s
  | .engPld set pos bad => Sys2Proof.Machine.execEngPld set pos bad s
  | .engPst set pos bad => Sys2Proof.Machine.execEngPst set pos bad s
  | .engPlen set pos bad => Sys2Proof.Machine.execEngPlen set pos bad s
  | .engCtxFind set pos bad upset => Sys2Proof.Machine.execEngCtxFind set pos bad upset s
  | .engCtxRead set pos bad upset => Sys2Proof.Machine.execEngCtxRead set pos bad upset s
  | .engCtxWrite set pos bad => Sys2Proof.Machine.execEngCtxWrite set pos bad s
  | .engCtxCreate set pos bad => Sys2Proof.Machine.execEngCtxCreate set pos bad s
  | .engCtxFree set pos bad => Sys2Proof.Machine.execEngCtxFree set pos bad s
  | .engChainSel set pos bad => Sys2Proof.Machine.execEngChainSel set pos bad s
  | .engChainAlloc set pos bad => Sys2Proof.Machine.execEngChainAlloc set pos bad s
  | .engChainShare set pos bad => Sys2Proof.Machine.execEngChainShare set pos bad s
  | .engChainRelease set pos bad => Sys2Proof.Machine.execEngChainRelease set pos bad s
  | .engChainFree set pos bad => Sys2Proof.Machine.execEngChainFree set pos bad s
  | .engChainGive set pos bad => Sys2Proof.Machine.execEngChainGive set pos bad s
  | .engEnq set pos bad => Sys2Proof.Machine.execEngEnq set pos bad s
  | .engQueueInject set pos bad => Sys2Proof.Machine.execEngQueueInject set pos bad s
  | .engSend set pos bad => Sys2Proof.Machine.execEngSend set pos bad s
  | .engTarm set pos bad => Sys2Proof.Machine.execEngTarm set pos bad s
  | .engTcancel set pos bad => Sys2Proof.Machine.execEngTcancel set pos bad s
  | .engCrc set pos bad => Sys2Proof.Machine.execEngCrc set pos bad s
  | .engHash set pos bad => Sys2Proof.Machine.execEngHash set pos bad s
  | .engRdw set pos bad => Sys2Proof.Machine.execEngRdw set pos bad s
  | .engRdi set pos bad => Sys2Proof.Machine.execEngRdi set pos bad s
  | .engWservo set pos bad => Sys2Proof.Machine.execEngWservo set pos bad s
  | .engWadj set pos bad => Sys2Proof.Machine.execEngWadj set pos bad s
  | .engWstep set pos bad => Sys2Proof.Machine.execEngWstep set pos bad s
  | .engJump set pos => Sys2Proof.Machine.execEngJump set pos s
  | .engBranch set pos => Sys2Proof.Machine.execEngBranch set pos s
  | .engCall set pos => Sys2Proof.Machine.execEngCall set pos s
  | .engReturn set pos => Sys2Proof.Machine.execEngReturn set pos s
  | .engDispatch set pos => Sys2Proof.Machine.execEngDispatch set pos s
  | .engEndDone set pos bad => Sys2Proof.Machine.execEngEndDone set pos bad s
  | .engEndFailed set pos => Sys2Proof.Machine.execEngEndFailed set pos s
  | .engineReply set pos => Sys2Proof.Machine.execEngineReply set pos s
  | .watchdogTrap set pos => Sys2Proof.Machine.execWatchdogTrap set pos s
  | .itemTimeTrap set pos => Sys2Proof.Machine.execItemTimeTrap set pos s
  | .interruptDeadline set pos => Sys2Proof.Machine.execInterruptDeadline set pos s
  | .timerFire set timer => Sys2Proof.Machine.execTimerFire set timer s
  | .engineMigration set pos ok => Sys2Proof.Machine.execEngineMigration set pos ok s
  | .sensorReading readings => Sys2Proof.Machine.execSensorReading readings s
  | .tj108Timeout => Sys2Proof.Machine.execTj108Timeout s
  | .callerDecision mv => Sys2Proof.Machine.execCallerDecision mv s
  | .avsCurrentRead ma ok => Sys2Proof.Machine.execAvsCurrentRead ma ok s
  | .avsTransactionDone ok read => Sys2Proof.Machine.execAvsTransactionDone ok read s
  | .railSettled => Sys2Proof.Machine.execRailSettled s
  | .railSettleTimeout => Sys2Proof.Machine.execRailSettleTimeout s
  | .vddUndervolt => Sys2Proof.Machine.execVddUndervolt s
  | .vddOvervolt => Sys2Proof.Machine.execVddOvervolt s
  | .pwrBrakeNEdge low => Sys2Proof.Machine.execPwrBrakeNEdge low s
  | .limitUnmetTimeout => Sys2Proof.Machine.execLimitUnmetTimeout s
  | .drainDeadline dom => Sys2Proof.Machine.execDrainDeadline dom s
  | .drainInflightZero dom => Sys2Proof.Machine.execDrainInflightZero dom s
  | .returnStepReady => Sys2Proof.Machine.execReturnStepReady s
  | .returnReadyTimeout => Sys2Proof.Machine.execReturnReadyTimeout s
  | .wakeSourceEvent src active => Sys2Proof.Machine.execWakeSourceEvent src active s
  | .wakeLatchFire => Sys2Proof.Machine.execWakeLatchFire s
  | .flr => Sys2Proof.Machine.execFlr s
  | .hotReset => Sys2Proof.Machine.execHotReset s
  | .pcieLinkLoss => Sys2Proof.Machine.execPcieLinkLoss s
  | .busMasterDisable => Sys2Proof.Machine.execBusMasterDisable s
  | .busMasterEnable => Sys2Proof.Machine.execBusMasterEnable s
  | .perst => Sys2Proof.Machine.execPerst s
  | .dmaTailWrite ch index => Sys2Proof.Machine.execDmaTailWrite ch index s
  | .dmaEnableWrite ch en => Sys2Proof.Machine.execDmaEnableWrite ch en s
  | .dmaResume ch => Sys2Proof.Machine.execDmaResume ch s
  | .dmaReset ch => Sys2Proof.Machine.execDmaReset ch s
  | .dmaHostqWrite ch v => Sys2Proof.Machine.execDmaHostqWrite ch v s
  | .dmaCplTailWrite ch index => Sys2Proof.Machine.execDmaCplTailWrite ch index s
  | .msixModerationTimeout ch => Sys2Proof.Machine.execMsixModerationTimeout ch s
  | .descNop ch desc facts => Sys2Proof.Machine.execDescNop ch desc facts s
  | .copyIn ch desc data facts => Sys2Proof.Machine.execCopyIn ch desc data facts s
  | .copyOut ch desc facts => Sys2Proof.Machine.execCopyOut ch desc facts s
  | .descInject ch desc data facts => Sys2Proof.Machine.execDescInject ch desc data facts s
  | .injectQueueTimeout ch facts => Sys2Proof.Machine.execInjectQueueTimeout ch facts s
  | .recv ch desc facts => Sys2Proof.Machine.execRecv ch desc facts s
  | .recvDeliver ch read facts => Sys2Proof.Machine.execRecvDeliver ch read facts s
  | .item ch desc data facts => Sys2Proof.Machine.execItem ch desc data facts s
  | .dmaChainShare ch desc facts => Sys2Proof.Machine.execDmaChainShare ch desc facts s
  | .dmaChainRelease ch desc facts => Sys2Proof.Machine.execDmaChainRelease ch desc facts s
  | .dmaChainFree ch desc facts => Sys2Proof.Machine.execDmaChainFree ch desc facts s
  | .dmaChainGive ch desc facts => Sys2Proof.Machine.execDmaChainGive ch desc facts s
  | .dmaChainEnq ch desc facts => Sys2Proof.Machine.execDmaChainEnq ch desc facts s
  | .bankWrite ch desc record facts => Sys2Proof.Machine.execBankWrite ch desc record facts s
  | .bankInvalidate ch desc record facts => Sys2Proof.Machine.execBankInvalidate ch desc record facts s
  | .bankRead ch desc record facts => Sys2Proof.Machine.execBankRead ch desc record facts s
  | .tblRead ch desc record bad facts => Sys2Proof.Machine.execTblRead ch desc record bad facts s
  | .tblWrite ch desc record facts => Sys2Proof.Machine.execTblWrite ch desc record facts s
  | .tblCreate ch desc record facts => Sys2Proof.Machine.execTblCreate ch desc record facts s
  | .tblDelete ch desc record facts => Sys2Proof.Machine.execTblDelete ch desc record facts s
  | .tblLock ch desc record facts => Sys2Proof.Machine.execTblLock ch desc record facts s
  | .tblUnlock ch desc record facts => Sys2Proof.Machine.execTblUnlock ch desc record facts s
  | .tblFind ch desc record bad facts => Sys2Proof.Machine.execTblFind ch desc record bad facts s
  | .schedWrite ch desc record facts => Sys2Proof.Machine.execSchedWrite ch desc record facts s
  | .schedRead ch desc record facts => Sys2Proof.Machine.execSchedRead ch desc record facts s
  | .schedFlush ch desc record facts => Sys2Proof.Machine.execSchedFlush ch desc record facts s
  | .smbLimitWrite v pec => Sys2Proof.Machine.execSmbLimitWrite v pec s
  | .smbFixedWrite v pec => Sys2Proof.Machine.execSmbFixedWrite v pec s
  | .smbWakeWrite v pec => Sys2Proof.Machine.execSmbWakeWrite v pec s
  | .smbTripWrite v pec => Sys2Proof.Machine.execSmbTripWrite v pec s
  | .mbxDoorbell m tag => Sys2Proof.Machine.execMbxDoorbell m tag s
  | .mbxAck m => Sys2Proof.Machine.execMbxAck m s
  | .mbxCancel m => Sys2Proof.Machine.execMbxCancel m s
  | .mbxCringTailWrite m v => Sys2Proof.Machine.execMbxCringTailWrite m v s
  | .mbxNotTaken m => Sys2Proof.Machine.execMbxNotTaken m s
  | .mbxStalled m => Sys2Proof.Machine.execMbxStalled m s
  | .devInfo m slow => Sys2Proof.Machine.execDevInfo m slow s
  | .devCancel m slow => Sys2Proof.Machine.execDevCancel m slow s
  | .portWithdraw m slow => Sys2Proof.Machine.execPortWithdraw m slow s
  | .portReturn m slow => Sys2Proof.Machine.execPortReturn m slow s
  | .portRelease m slow => Sys2Proof.Machine.execPortRelease m slow s
  | .portStatus m slow => Sys2Proof.Machine.execPortStatus m slow s
  | .tileOpen m slow => Sys2Proof.Machine.execTileOpen m slow s
  | .tileSeal m slow => Sys2Proof.Machine.execTileSeal m slow s
  | .tileFree m slow => Sys2Proof.Machine.execTileFree m slow s
  | .tileList m slow fail => Sys2Proof.Machine.execTileList m slow fail s
  | .epochStage m slow => Sys2Proof.Machine.execEpochStage m slow s
  | .epochCommit m slow => Sys2Proof.Machine.execEpochCommit m slow s
  | .epochAbort m slow => Sys2Proof.Machine.execEpochAbort m slow s
  | .epochStatus m slow => Sys2Proof.Machine.execEpochStatus m slow s
  | .l2Flush m slow => Sys2Proof.Machine.execL2Flush m slow s
  | .ctxReval m slow => Sys2Proof.Machine.execCtxReval m slow s
  | .ctxRevalDone m num => Sys2Proof.Machine.execCtxRevalDone m num s
  | .tblStatus m slow => Sys2Proof.Machine.execTblStatus m slow s
  | .schFlushIf m slow => Sys2Proof.Machine.execSchFlushIf m slow s
  | .schStatus m slow => Sys2Proof.Machine.execSchStatus m slow s
  | .itemCancel m slow => Sys2Proof.Machine.execItemCancel m slow s
  | .setStatus m slow => Sys2Proof.Machine.execSetStatus m slow s
  | .pwrStateSet m slow => Sys2Proof.Machine.execPwrStateSet m slow s
  | .pwrDomainSet m slow => Sys2Proof.Machine.execPwrDomainSet m slow s
  | .pwrStatus m slow => Sys2Proof.Machine.execPwrStatus m slow s
  | .pairStatus m slow => Sys2Proof.Machine.execPairStatus m slow s
  | .pairRoleSet m slow => Sys2Proof.Machine.execPairRoleSet m slow s
  | .pairReport m slow fail => Sys2Proof.Machine.execPairReport m slow fail s
  | .faultClear m slow => Sys2Proof.Machine.execFaultClear m slow s
  | .spareStatus m slow => Sys2Proof.Machine.execSpareStatus m slow s
  | .spareBringIn m slow => Sys2Proof.Machine.execSpareBringIn m slow s
  | .wearRead m slow fail => Sys2Proof.Machine.execWearRead m slow fail s
  | .stewardSwap m slow => Sys2Proof.Machine.execStewardSwap m slow s
  | .spareImageLoaded signed accepts => Sys2Proof.Machine.execSpareImageLoaded signed accepts s
  | .timeSet m slow => Sys2Proof.Machine.execTimeSet m slow s
  | .timeStatus m slow => Sys2Proof.Machine.execTimeStatus m slow s
  | .keyEnrol m slow => Sys2Proof.Machine.execKeyEnrol m slow s
  | .keyRevoke m slow => Sys2Proof.Machine.execKeyRevoke m slow s
  | .dbgChallenge m slow => Sys2Proof.Machine.execDbgChallenge m slow s
  | .dbgUnlock m slow => Sys2Proof.Machine.execDbgUnlock m slow s
  | .dbgLock m slow => Sys2Proof.Machine.execDbgLock m slow s
  | .flashProgram m slow => Sys2Proof.Machine.execFlashProgram m slow s
  | .flashProgramDone image ok => Sys2Proof.Machine.execFlashProgramDone image ok s
  | .ledgerRead m slow => Sys2Proof.Machine.execLedgerRead m slow s
  | .actCntRead m slow fail => Sys2Proof.Machine.execActCntRead m slow fail s
  | .queueRead m slow fail => Sys2Proof.Machine.execQueueRead m slow fail s
  | .exportSet m slow => Sys2Proof.Machine.execExportSet m slow s
  | .exportPeriod upTo skip fail => Sys2Proof.Machine.execExportPeriod upTo skip fail s
  | .stewardRoleChange planned => Sys2Proof.Machine.execStewardRoleChange planned s
  | .peerRailChange p n => Sys2Proof.Machine.execPeerRailChange p n s
  | .heartbeatLoss => Sys2Proof.Machine.execHeartbeatLoss s
  | .selfDownWrite down => Sys2Proof.Machine.execSelfDownWrite down s
  | .fjarairLaneUp lane => Sys2Proof.Machine.execFjarairLaneUp lane s
  | .fjarairLaneDown lane => Sys2Proof.Machine.execFjarairLaneDown lane s
  | .helloSend => Sys2Proof.Machine.execHelloSend s
  | .hello frame => Sys2Proof.Machine.execHello frame s
  | .heartbeatSend => Sys2Proof.Machine.execHeartbeatSend s
  | .heartbeat frame => Sys2Proof.Machine.execHeartbeat frame s
  | .ackFrame frame => Sys2Proof.Machine.execAckFrame frame s
  | .ackSend => Sys2Proof.Machine.execAckSend s
  | .nakFrame frame => Sys2Proof.Machine.execNakFrame frame s
  | .reorderGapTimeout => Sys2Proof.Machine.execReorderGapTimeout s
  | .retransmitTimeout => Sys2Proof.Machine.execRetransmitTimeout s
  | .markSetSend => Sys2Proof.Machine.execMarkSetSend s
  | .creditRecordSend => Sys2Proof.Machine.execCreditRecordSend s
  | .markTime frame => Sys2Proof.Machine.execMarkTime frame s
  | .courseRecord frame => Sys2Proof.Machine.execCourseRecord frame s
  | .ifaceRecord frame => Sys2Proof.Machine.execIfaceRecord frame s
  | .ctxSet frame => Sys2Proof.Machine.execCtxSet frame s
  | .ctxFreeRecord frame => Sys2Proof.Machine.execCtxFreeRecord frame s
  | .ctxTouch frame => Sys2Proof.Machine.execCtxTouch frame s
  | .commitRecord frame => Sys2Proof.Machine.execCommitRecord frame s
  | .tfire frame => Sys2Proof.Machine.execTfire frame s
  | .polRecord frame => Sys2Proof.Machine.execPolRecord frame s
  | .queueRecord frame => Sys2Proof.Machine.execQueueRecord frame s
  | .syncStart frame => Sys2Proof.Machine.execSyncStart frame s
  | .syncDone frame => Sys2Proof.Machine.execSyncDone frame s
  | .soloWaitExpiry => Sys2Proof.Machine.execSoloWaitExpiry s
  | .ctrlAbsent frame => Sys2Proof.Machine.execCtrlAbsent frame s
  | .ctrlOffer frame => Sys2Proof.Machine.execCtrlOffer frame s
  | .ctrlAccept frame => Sys2Proof.Machine.execCtrlAccept frame s
  | .ctrlRefuse frame => Sys2Proof.Machine.execCtrlRefuse frame s
  | .ctrlSwitch frame => Sys2Proof.Machine.execCtrlSwitch frame s
  | .handoverDrainEnd ifc => Sys2Proof.Machine.execHandoverDrainEnd ifc s
  | .ctrlMove frame => Sys2Proof.Machine.execCtrlMove frame s
  | .ctrlMoveEnd frame => Sys2Proof.Machine.execCtrlMoveEnd frame s
  | .xferSend => Sys2Proof.Machine.execXferSend s
  | .xferFrame frame => Sys2Proof.Machine.execXferFrame frame s
  | .fjarairLaneMove lane => Sys2Proof.Machine.execFjarairLaneMove lane s
  | .scrubWord m a o what changed demand lap => Sys2Proof.Machine.execScrubWord m a o what changed demand lap s
  | .hbmRowRepair stack spent => Sys2Proof.Machine.execHbmRowRepair stack spent s
  | .stewardFetchTrap st a good => Sys2Proof.Machine.execStewardFetchTrap st a good s
  | .faultDecided src broken rest => Sys2Proof.Machine.execFaultDecided src broken rest s
  | .quietExpiry src => Sys2Proof.Machine.execQuietExpiry src s
  | .fltPop => Sys2Proof.Machine.execFltPop s
  | .fltInjError src => Sys2Proof.Machine.execFltInjError src s
  | .fltInjZeros src => Sys2Proof.Machine.execFltInjZeros src s
  | .fltInjOnes src => Sys2Proof.Machine.execFltInjOnes src s
  | .monitorMeasurement src index mon tm mv tj overlap bad => Sys2Proof.Machine.execMonitorMeasurement src index mon tm mv tj overlap bad s
  | .courseMove ok bad => Sys2Proof.Machine.execCourseMove ok bad s
  | .laneMove ok => Sys2Proof.Machine.execLaneMove ok s
  | .pseudoChannelMove stack ok => Sys2Proof.Machine.execPseudoChannelMove stack ok s
  | .moveRetry => Sys2Proof.Machine.execMoveRetry s
  | .stewardHeartbeatLoss => Sys2Proof.Machine.execStewardHeartbeatLoss s
  | .noStewardTimeout => Sys2Proof.Machine.execNoStewardTimeout s
  | .ledgerPageWrite hourly ok => Sys2Proof.Machine.execLedgerPageWrite hourly ok s
  | .powerOnReset straps flash => Sys2Proof.Machine.execPowerOnReset straps flash s
  | .deviceReset => Sys2Proof.Machine.execDeviceReset s
  | .startUp facts => Sys2Proof.Machine.execStartUp facts s
  | .romSelfCheckTimeout => Sys2Proof.Machine.execRomSelfCheckTimeout s
  | .bootWatchdog => Sys2Proof.Machine.execBootWatchdog s
  | .attentionSequence => Sys2Proof.Machine.execAttentionSequence s
  | .debugNop good => Sys2Proof.Machine.execDebugNop good s
  | .debugRead space addr count good late => Sys2Proof.Machine.execDebugRead space addr count good late s
  | .debugWrite space addr data good => Sys2Proof.Machine.execDebugWrite space addr data good s
  | .debugChallenge level good => Sys2Proof.Machine.execDebugChallenge level good s
  | .debugUnlock level response good => Sys2Proof.Machine.execDebugUnlock level response good s
  | .unlockVerifyDone => Sys2Proof.Machine.execUnlockVerifyDone s
  | .debugLock good => Sys2Proof.Machine.execDebugLock good s
  | .nonceExpiry level => Sys2Proof.Machine.execNonceExpiry level s
  | .lockoutEnd => Sys2Proof.Machine.execLockoutEnd s
  | .engineHalt set pos good => Sys2Proof.Machine.execEngineHalt set pos good s
  | .engineResume set pos good => Sys2Proof.Machine.execEngineResume set pos good s
  | .stepStretch set pos good => Sys2Proof.Machine.execStepStretch set pos good s
  | .stepMicro set pos good => Sys2Proof.Machine.execStepMicro set pos good s
  | .stewardHalt steward good => Sys2Proof.Machine.execStewardHalt steward good s
  | .stewardResume steward good => Sys2Proof.Machine.execStewardResume steward good s
  | .stewardStep steward good => Sys2Proof.Machine.execStewardStep steward good s
  | .tapReset => Sys2Proof.Machine.execTapReset s
  | .extest => Sys2Proof.Machine.execExtest s
  | .samplePreload balls load => Sys2Proof.Machine.execSamplePreload balls load s
  | .idcode => Sys2Proof.Machine.execIdcode s
  | .clamp => Sys2Proof.Machine.execClamp s
  | .highz => Sys2Proof.Machine.execHighz s
  | .extestPulse => Sys2Proof.Machine.execExtestPulse s
  | .extestTrain => Sys2Proof.Machine.execExtestTrain s
  | .bypass => Sys2Proof.Machine.execBypass s
  | .railOutOfRange rail => Sys2Proof.Machine.execRailOutOfRange rail s
  | .aonBrownOut others straps => Sys2Proof.Machine.execAonBrownOut others straps s
  | .powerLoss loss => Sys2Proof.Machine.execPowerLoss loss s
  | .injEgr course => Sys2Proof.Machine.execInjEgr course s
  | .injAdm course => Sys2Proof.Machine.execInjAdm course s
  | .injNodeid course => Sys2Proof.Machine.execInjNodeid course s
  | .injCtl bank => Sys2Proof.Machine.execInjCtl bank s
  | .injCell bank => Sys2Proof.Machine.execInjCell bank s
  | .injState unit => Sys2Proof.Machine.execInjState unit s
  | .injCtx course => Sys2Proof.Machine.execInjCtx course s
  | .injL2 course => Sys2Proof.Machine.execInjL2 course s
  | .injEntry course => Sys2Proof.Machine.execInjEntry course s
  | .injLink half => Sys2Proof.Machine.execInjLink half s
  | .injDfree half => Sys2Proof.Machine.execInjDfree half s
  | .injQstate => Sys2Proof.Machine.execInjQstate s
  | .injPol => Sys2Proof.Machine.execInjPol s
  | .injJrnl set => Sys2Proof.Machine.execInjJrnl set s
  | .injFetch set => Sys2Proof.Machine.execInjFetch set s
  | .injAvs => Sys2Proof.Machine.execInjAvs s
  | .injSensor => Sys2Proof.Machine.execInjSensor s
  | .injEcc ch => Sys2Proof.Machine.execInjEcc ch s
  | .injLedger m => Sys2Proof.Machine.execInjLedger m s
  | .injFrame => Sys2Proof.Machine.execInjFrame s
  | .injRail => Sys2Proof.Machine.execInjRail s
  | .injUnc m => Sys2Proof.Machine.execInjUnc m s
  | .injCorr m => Sys2Proof.Machine.execInjCorr m s
  | .injMon => Sys2Proof.Machine.execInjMon s
  | .pcieLinkUp speed width => Sys2Proof.Machine.execPcieLinkUp speed width s
  | .msixVectorUnmask vector masked => Sys2Proof.Machine.execMsixVectorUnmask vector masked s
  | .mbxRequestAreaWrite m ifc v => Sys2Proof.Machine.execMbxRequestAreaWrite m ifc v s
  | .ctrlTakeAsk frame => Sys2Proof.Machine.execCtrlTakeAsk frame s
  | .porNAsserted => Sys2Proof.Machine.execPorNAsserted s

end Sys2Proof.Machine
end

