-- ==== Sys2Proof/Safety.lean ====
section
/-! DEFINITION. What the statements are made of: a command that completes, the canonical form of what is stored sparsely, and the fuses
that only grow. -/

namespace Sys2Proof.Machine

/-- The command answers a next state: its queue is the state's, and its block satisfies `post`. -/
def Completes (c : Instr) (s : State) (post : Dev → Prop) : Prop :=
  ∃ d : Dev, exec c s = .next { s with dev := d } ∧ post d

/-- The canonical form of a memory of bytes, in which an unlisted address reads 0. -/
def Memory.wf (m : Map Byte) : Bool := Map.wf m 0

/-- The register and bit that a row arming an injection bit writes (R615). -/
def injectionBit : Instr → Option (Nat × Nat)
  | .injAdm c => some (mrtBase c + 4, 0)
  | .injEgr c => some (mrtBase c + 4, 1)
  | .injNodeid c => some (Dev.crsBase c + 0x810, 0)
  | .injCell b => some (Dev.bankBase b + 0x0C, 0)
  | .injCtl b => some (Dev.bankBase b + 0x0C, 1)
  | .injState u => some (Dev.auBase u + 0x0C, 0)
  | .injL2 c => some (Dev.crsBase c + 0xC18, 0)
  | .injCtx c => some (Dev.crsBase c + 0xC18, 1)
  | .injEntry c => some (Dev.crsBase c + 0x20C, 0)
  | .injDfree h => some (Dev.brkBase h + 0x0C, 0)
  | .injLink h => some (Dev.brkBase h + 0x0C, 1)
  | .injPol => some (0x30000C, 0)
  | .injQstate => some (0x30000C, 1)
  | .injFetch s => some (Dev.setBase s + 0x0C, 0)
  | .injJrnl s => some (Dev.setBase s + 0x0C, 1)
  | .injSensor => some (0x50020, 0)
  | .injAvs => some (0x50020, 1)
  | .injEcc c => some (Dev.dmaBase c + 0x0C, 0)
  | .injLedger m => some (Dev.mbxBase m + 0x24, 0)
  | .injRail => some (0x70000C, 0)
  | .injFrame => some (0x70000C, 1)
  | .injCorr m => some (0x3800C + 0x40 * m, 0)
  | .injUnc m => some (0x3800C + 0x40 * m, 1)
  | _ => none

namespace Dev

/-- An error that waits in its source's local error register. -/
def Raised (d : Dev) (src code : Nat) : Prop := ∃ p ∈ d.faults.pend, p.src = src ∧ p.code = code

/-- The canonical form of the register file: rising addresses, none listed at its reset value. -/
def regsCanonical (d : Dev) : Bool := Map.sorted d.regs && d.regs.all fun e => e.2 != BitVec.ofNat 32 (resetOf e.1)

/-- The canonical form of what is stored sparsely by address or number: registers, counters, latched words, the units of each kind
under rising numbers, the memory of every set. -/
structure Canonical (d : Dev) : Prop where
  regs  : d.regsCanonical = true
  cnts  : Map.wf d.cnts 0 = true
  latch : Map.wf d.latch 0 = true
  doms  : Map.sorted d.doms = true
  ports : Map.sorted d.ports = true
  lanes : Map.sorted d.lanes = true
  crs   : Map.sorted d.courses = true
  slcs  : Map.sorted d.slices = true ∧ ∀ e ∈ d.slices, Map.sorted e.2.sets = true
  aus   : Map.sorted d.aus = true
  banks : Map.sorted d.banks = true ∧ Map.sorted d.boot.ledger.banks = true
  reels : Map.sorted d.sched.reels = true
  sets  : Map.sorted d.sets = true
  chans : Map.sorted d.chans = true
  mbxs  : Map.sorted d.mbxs = true
  mems  : ∀ e ∈ d.sets, Memory.wf e.2.mem = true
  engs  : ∀ e ∈ d.sets, Map.sorted e.2.engines = true

/-- What OTP holds at least: a count of FW_SVN fuses, and the key slots that are revoked (R650 to R652). -/
def FusesAtLeast (svn : Nat) (revoked : List Nat) (d : Dev) : Prop :=
  svn ≤ d.boot.fwSvn ∧ ∀ k ∈ revoked, (d.boot.keys.getD k {}).revoked = true

/-! ### Mailboxes (chapter 16) -/

/-- A request `r` of opcode `code` POSTED in mailbox `m` that a running steward may take. -/
structure Waits (d : Dev) (m code : Nat) (r : Req) : Prop where
  runs   : d.stewardRuns = true
  idle   : (d.mbx m).run = none
  posted : (d.mbx m).st = 1
  req    : d.readReq m = r
  opc    : r.opcode = code
  clean  : d.flag (mbxBase m + 0x24) 0 = false

/-- Such a request that passes the checks of R483, R484 and R489 and is no retry. -/
structure Posts (d : Dev) (m code : Nat) (r : Req) : Prop extends Waits d m code r where
  passes : d.reqRefusal r = none
  first  : r.retry = false
  free   : d.groupBusy m code = false
  room   : (op? code).any (·.async) = true → d.ticketRoom m = true

/-- Mailbox `m` is DONE with the outcome of a command that ended in it and its result words (R478, R499). -/
def Answers (d : Dev) (m : Nat) (r : Req) (status reason phase : Nat) (ws : List Nat) : Prop :=
  (d.mbx m).st = 3 ∧ (d.mbx m).run = none ∧
  (d.mbx m).rsp = header r (d.statusWord status reason phase false false) (4 * min 1000 ws.length) (4 * (ws.drop 1000).length) 0
    ++ ws.take 1000

/-- The ticket that mailbox `m` issues next (R484). -/
def nextTicket (d : Dev) (m : Nat) : Nat × Nat := (m, ((d.mbx m).count + 1) % 2 ^ 29)

/-- The block once mailbox `m` has answered an asynchronous command with a deferred response, its ticket open and its effect begun
(R484, R490). -/
def deferred (d : Dev) (m : Nat) (r : Req) : Dev :=
  let t := d.nextTicket m
  let d := d.setMbx m fun x => { x with st := 2, run := some r, late := false }
  let d := d.setMbx m fun x => { x with tickets := x.tickets ++ [{ num := t.2, req := r, phase := 0 }] }
  let d := d.setMbx m fun x => { x with count := t.2 }
  (d.respond m false (header r (d.statusWord 0 0 0 false true) 0 0 (ticketWord t)) []).partial_ t

/-! ### DMA channels (chapter 15) -/

/-- A channel that starts the descriptor `w` of operation `op` at its HEAD, with no fault and no error on the way. -/
structure Starts (d : Dev) (c op : Nat) (w : List Nat) (f : DmaFacts) : Prop where
  ready : d.chanStarts c = true
  op    : dOp w = op
  valid : descBad w = false
  host  : f.host = none
  ecc   : f.ecc = none ∧ d.flag (dmaBase c + 0x0C) 0 = false

/-! ### The pair (chapter 18) -/

/-- A sound frame that arrives on a lane that is up, with no injection armed. -/
structure Hears (d : Dev) (f : Fjarair) : Prop where
  lane : d.fjUp f.lane = true
  good : f.good = true
  inj  : d.flag 0x70000C 1 = false

/-- The block once such a frame has been counted (R552, R555). -/
def heard (d : Dev) : Dev := (d.bump 0x700108).setPair fun p => { p with heardAt := some d.now, lossSeen := false }

/-- Such a frame in its order on a linked device that waits for no ACK and holds no later frame (R554). -/
structure HearsNext (d : Dev) (f : Fjarair) : Prop extends Hears d f where
  linked : d.fjLinked = true
  next   : f.seq = d.pair.rxSeq
  seqOk  : d.pair.rxSeq < 2 ^ 32
  none   : d.pair.sent = [] ∧ d.pair.ahead = []

/-- The block once the frame's turn in the sequence has been taken. -/
def inTurn (d : Dev) : Dev := d.heard.setPair fun p => { p with rxSeq := (p.rxSeq + 1) % 2 ^ 32 }

/-- The block as the one record of a frame is applied: nothing of it is mirrored back (R563). -/
def applying (d : Dev) : Dev := (d.inTurn.setPair fun p => { p with quiet := true }).bump 0x700120

/-- The block once it has been. -/
def appliedTo (d : Dev) : Dev := d.setPair fun p => { p with quiet := false }

/-! ### Engines (chapter 13) -/

/-- An engine about to execute the nanoword `n` of its microword `m`, which names operation `o` of unit `u`: it runs an item, waits for
nothing, is in service, has passed its safe point, meets no breakpoint and reads its microword without error. -/
structure Runs (d : Dev) (s p m n u o : Nat) : Prop where
  item  : (d.eng s p).item.isSome = true
  free  : (d.eng s p).wait = false ∧ (d.eng s p).seqDue = false
  on    : engState (d.eng s p) p ≠ 3
  count : (d.eng s p).count < 1024
  clean : d.flag (setBase s + 0x0C) 0 = false
  word  : d.fetch s p = .word m n
  unit  : nUnit n = u
  op    : nOp n = o
  safe  : mSafe m = true → (d.eng s p).atSafe = true
  brk   : d.breaks s p true = false

/-- What an executed nanoword leaves of its engine: its core, at the next address where the microword does not branch; one more
microword counted; a wait for the reply where the operation has one; the journal `j`. -/
def Retires (d t : Dev) (s p m : Nat) (w : Bool) (c : Core) (j : List JEntry) : Prop :=
  let e := t.eng s p
  e.core = { c with pc := if mSeq m = 0 then (d.eng s p).core.pc + 1 else (d.eng s p).core.pc } ∧
  e.count = (d.eng s p).count + 1 ∧ e.wait = w ∧ e.seqDue = !decide (mSeq m = 0) ∧ e.journal = j ∧ e.item.isSome = true

/-- An engine whose nanoword has completed and whose microword `m` now sequences. -/
structure Sequences (d : Dev) (s p m n : Nat) (r : Running) : Prop where
  item : (d.eng s p).item = some r
  free : (d.eng s p).wait = false ∧ (d.eng s p).seqDue = true
  word : d.fetch s p = .word m n

/-! ### The debug port (chapter 23) -/

/-- A port whose frame logic has started, with SYS ON and a debug level of at least `lvl`. -/
structure Speaks (d : Dev) (lvl : Nat) : Prop where
  on      : d.isOn 1 = true
  started : d.dbg.started = true
  level   : lvl ≤ d.debugLevel

/-- The rows that are request frames of the debug port: whether check, fields and COUNT are good, and the level the frame needs
(R669 to R674). A WRITE's own words are judged beside it. -/
def frameRow (d : Dev) : Instr → Option (Bool × Nat)
  | .debugNop good => some (good, 0)
  | .debugRead space addr count good _ =>
    some (good && debugSpan space.toNat addr.toNat (count.toNat + 1), readLevel space.toNat addr.toNat (count.toNat + 1))
  | .debugWrite space addr data good =>
    some (good && 1 ≤ data.length && data.length ≤ 256 && debugSpan space.toNat addr.toNat data.length, 2)
  | .debugChallenge level good => some (good && level ≠ 0, 0)
  | .debugUnlock level response good => some (good && level ≠ 0 && response.length = 24, 0)
  | .debugLock good => some (good, 0)
  | .engineHalt _ pos good => some (good && isPos pos.toNat, 2)
  | .engineResume _ pos good => some (good && isPos pos.toNat, 2)
  | .stepStretch _ pos good => some (good && isPos pos.toNat, 2)
  | .stepMicro _ pos good => some (good && isPos pos.toNat, 3)
  | .stewardHalt x good => some (good, if (x : Nat) = d.stw.active then 3 else 2)
  | .stewardResume _ good => some (good, 2)
  | .stewardStep _ good => some (good, 2)
  | _ => none

end Dev

/-- A core with the result `v` of an operation at width `w` in register `rd`, and its flags where the nanoword sets them. -/
def Core.result (c : Core) (rd w v : Nat) (bad setcc cf vf : Bool) : Core :=
  let c := c.set rd v bad
  if setcc then { c with z := decide (v = 0), n := v.testBit (w - 1), c := cf, v := vf } else c

/-- The rows that run a mailbox command: mailbox, opcode, and whether the command is still running after the step (R498). -/
def mailboxRow : Instr → Option (Nat × Nat × Bool)
  | .devInfo m slow => some (m, 0x0101, slow)
  | .devCancel m slow => some (m, 0x0102, slow)
  | .portWithdraw m slow => some (m, 0x0201, slow)
  | .portReturn m slow => some (m, 0x0202, slow)
  | .portRelease m slow => some (m, 0x0203, slow)
  | .portStatus m slow => some (m, 0x0204, slow)
  | .tileOpen m slow => some (m, 0x0301, slow)
  | .tileSeal m slow => some (m, 0x0302, slow)
  | .tileFree m slow => some (m, 0x0303, slow)
  | .tileList m slow false => some (m, 0x0304, slow)
  | .epochStage m slow => some (m, 0x0305, slow)
  | .epochCommit m slow => some (m, 0x0306, slow)
  | .epochAbort m slow => some (m, 0x0307, slow)
  | .epochStatus m slow => some (m, 0x0308, slow)
  | .l2Flush m slow => some (m, 0x0401, slow)
  | .ctxReval m slow => some (m, 0x0402, slow)
  | .tblStatus m slow => some (m, 0x0403, slow)
  | .schFlushIf m slow => some (m, 0x0501, slow)
  | .schStatus m slow => some (m, 0x0502, slow)
  | .itemCancel m slow => some (m, 0x0601, slow)
  | .setStatus m slow => some (m, 0x0602, slow)
  | .pwrStateSet m slow => some (m, 0x0701, slow)
  | .pwrDomainSet m slow => some (m, 0x0702, slow)
  | .pwrStatus m slow => some (m, 0x0703, slow)
  | .pairStatus m slow => some (m, 0x0801, slow)
  | .pairRoleSet m slow => some (m, 0x0802, slow)
  | .pairReport m slow false => some (m, 0x0803, slow)
  | .faultClear m slow => some (m, 0x0901, slow)
  | .spareStatus m slow => some (m, 0x0902, slow)
  | .spareBringIn m slow => some (m, 0x0903, slow)
  | .wearRead m slow false => some (m, 0x0904, slow)
  | .stewardSwap m slow => some (m, 0x0905, slow)
  | .timeSet m slow => some (m, 0x0A01, slow)
  | .timeStatus m slow => some (m, 0x0A02, slow)
  | .keyEnrol m slow => some (m, 0x0B01, slow)
  | .keyRevoke m slow => some (m, 0x0B02, slow)
  | .dbgChallenge m slow => some (m, 0x0B03, slow)
  | .dbgUnlock m slow => some (m, 0x0B04, slow)
  | .dbgLock m slow => some (m, 0x0B05, slow)
  | .flashProgram m slow => some (m, 0x0B06, slow)
  | .ledgerRead m slow => some (m, 0x0C01, slow)
  | .actCntRead m slow false => some (m, 0x0C02, slow)
  | .queueRead m slow false => some (m, 0x0C03, slow)
  | .exportSet m slow => some (m, 0x0C04, slow)
  | _ => none

/-- A row that judges one record of a RECORDS descriptor: channel, SPACE, OP and how many OPs the SPACE has, descriptor, record, facts,
and the judgement. -/
structure RecRow where
  ch    : Nat
  space : Nat
  op    : Nat
  ops   : Nat
  desc  : List Nat
  record : List Nat
  facts : DmaFacts
  judge : Dev → Dev × RecEnd

/-- The rows of records (R153, R219, R339). -/
def recordRowOf : Instr → Option RecRow
  | .bankWrite c w r f => some (bank c 1 w r f)
  | .bankInvalidate c w r f => some (bank c 2 w r f)
  | .bankRead c w r f => some (bank c 3 w r f)
  | .tblRead c w r bad f => some (tbl c 1 w r bad f)
  | .tblWrite c w r f => some (tbl c 2 w r false f)
  | .tblCreate c w r f => some (tbl c 3 w r false f)
  | .tblDelete c w r f => some (tbl c 4 w r false f)
  | .tblLock c w r f => some (tbl c 5 w r false f)
  | .tblUnlock c w r f => some (tbl c 6 w r false f)
  | .tblFind c w r bad f => some (tbl c 7 w r bad f)
  | .schedWrite c w r f => some (sched c 1 w r f)
  | .schedRead c w r f => some (sched c 2 w r f)
  | .schedFlush c w r f => some (sched c 3 w r f)
  | _ => none
where
  words {n : Nat} (v : Vector (BitVec 32) n) : List Nat := v.toList.map (·.toNat)
  bank (c op : Nat) (w : Vector (BitVec 32) 16) (r : Vector (BitVec 32) 48) (f : DmaFacts) : RecRow :=
    ⟨c, 0, op, 3, words w, words r, f, fun d => d.bankRecord (words r)⟩
  tbl (c op : Nat) (w : Vector (BitVec 32) 16) (r : Vector (BitVec 32) 40) (bad : Bool) (f : DmaFacts) : RecRow :=
    ⟨c, 1, op, 7, words w, words r, f, fun d => d.tblRecord c (words r) bad⟩
  sched (c op : Nat) (w r : Vector (BitVec 32) 16) (f : DmaFacts) : RecRow :=
    ⟨c, 2, op, 3, words w, words r, f, fun d => d.schedRecord (words r)⟩

/-- An operation of the units ALU and SHIFT: engine, unit and code, which operands it reads, and its result from the width, the two
operands and the nanoword (R380, R381). -/
structure AluRow where
  set   : Nat
  pos   : Nat
  unit  : Nat
  op    : Nat
  usesA : Bool
  usesB : Bool
  f     : Nat → Nat → Nat → Nat → Nat

/-- The lesser or greater of two operands at a width; whether they compare as signed is the device's. -/
def pick (least : Bool) (w a b : Nat) : Nat :=
  let le : Bool := if Config.minMaxSigned then toSigned w a ≤ toSigned w b else a ≤ b
  if le = least then a else b

/-- The rows of ALU and SHIFT that write a register, from a fetch without error. -/
def aluRow : Instr → Option AluRow
  | .engAdd s p false => some ⟨s, p, 1, 0, true, true, fun _ a b _ => a + b⟩
  | .engSub s p false => some ⟨s, p, 1, 1, true, true, fun w a b _ => a + 2 ^ w - b⟩
  | .engAnd s p false => some ⟨s, p, 1, 2, true, true, fun _ a b _ => a &&& b⟩
  | .engOr s p false => some ⟨s, p, 1, 3, true, true, fun _ a b _ => a ||| b⟩
  | .engXor s p false => some ⟨s, p, 1, 4, true, true, fun _ a b _ => a ^^^ b⟩
  | .engMov s p false => some ⟨s, p, 1, 5, false, true, fun _ _ b _ => b⟩
  | .engMin s p false => some ⟨s, p, 1, 6, true, true, fun w a b _ => pick true w a b⟩
  | .engMax s p false => some ⟨s, p, 1, 7, true, true, fun w a b _ => pick false w a b⟩
  | .engShl s p false => some ⟨s, p, 2, 0, true, true, fun _ a b _ => a * 2 ^ b⟩
  | .engShr s p false => some ⟨s, p, 2, 1, true, true, fun _ a b _ => a / 2 ^ b⟩
  | .engSar s p false => some ⟨s, p, 2, 2, true, true, fun w a b _ => ofSigned w (toSigned w a / 2 ^ b)⟩
  | .engBswap s p false => some ⟨s, p, 2, 5, true, false, fun w a _ _ => ofBE (leBytes (w / 8) a)⟩
  | .engPopcnt s p false => some ⟨s, p, 2, 6, true, false, fun w a _ _ => ((List.range w).filter fun i => a.testBit i).length⟩
  | _ => none

/-- The frame of the rows whose effect is confined to a few parts of the block: all else of `d` stays, whatever those parts are in
`t`. -/
def frameOf : Instr → Option (Dev → Dev → Dev)
  | .rcFieldRead .. | .counterLoRead .. | .domainOffAccess .. =>
    some fun d t => { d with regs := t.regs, cnts := t.cnts, latch := t.latch, readData := t.readData, out := t.out,
                             msixPend := t.msixPend, faults := t.faults, sched := t.sched }
  | .timNsRead | .timMonoLoRead =>
    some fun d t => { d with regs := t.regs, readData := t.readData }
  | .refselTakeover | .discTimeout | .referenceLoss .. =>
    some fun d t => { d with regs := t.regs, cnts := t.cnts, out := t.out, msixPend := t.msixPend, faults := t.faults,
                             time := t.time, sched := t.sched }
  | .ppsEdgeMissing =>
    some fun d t => { d with regs := t.regs, out := t.out, msixPend := t.msixPend, time := t.time }
  | .speedWindowEnd .. | .vddUndervolt | .vddOvervolt | .smbLimitWrite .. | .smbFixedWrite .. | .fltInjError ..
  | .fltInjZeros .. | .fltInjOnes .. | .railOutOfRange .. =>
    some fun d t => { d with regs := t.regs, cnts := t.cnts, out := t.out, msixPend := t.msixPend, faults := t.faults }
  | .pfcPauseExpiry .. =>
    some fun d t => { d with sched := t.sched, ports := t.ports }
  | .autonegResolved .. | .trainAttemptTimeout .. | .retryGapEnd .. | .preemptVerifyResult .. =>
    some fun d t => { d with regs := t.regs, cnts := t.cnts, out := t.out, msixPend := t.msixPend, faults := t.faults,
                             ports := t.ports }
  | .pfcRecoverEnd .. =>
    some fun d t => { d with ports := t.ports }
  | .pfcTxRefresh .. =>
    some fun d t => { d with cnts := t.cnts, out := t.out }
  | .fecWindowEnd .. =>
    some fun d t => { d with regs := t.regs, cnts := t.cnts, out := t.out, msixPend := t.msixPend, faults := t.faults,
                             lanes := t.lanes }
  | .preemptVerifySend .. =>
    some fun d t => { d with out := t.out, ports := t.ports }
  | .contextWriteBack .. =>
    some fun d t => { d with slices := t.slices, store := t.store, badCtx := t.badCtx }
  | .pendExpiry .. =>
    some fun d t => { d with slices := t.slices }
  | .learnNoticeApply .. =>
    some fun d t => { d with regs := t.regs, cnts := t.cnts, out := t.out, msixPend := t.msixPend, faults := t.faults,
                             courses := t.courses }
  | .pinHoldEnd .. | .fragEntryExpiry .. | .mortarWindowEnd .. =>
    some fun d t => { d with courses := t.courses }
  | .l2SweepVisit .. =>
    some fun d t => { d with regs := t.regs, cnts := t.cnts, out := t.out, msixPend := t.msixPend, courses := t.courses }
  | .scanStart .. =>
    some fun d t => { d with cnts := t.cnts, aus := t.aus, streams := t.streams }
  | .auBudgetWindow .. =>
    some fun d t => { d with regs := t.regs, aus := t.aus }
  | .bankScannerVisit .. =>
    some fun d t => { d with regs := t.regs, cnts := t.cnts, out := t.out, msixPend := t.msixPend, faults := t.faults,
                             banks := t.banks }
  | .bankSweepDone =>
    some fun d t => { d with regs := t.regs, out := t.out, msixPend := t.msixPend, epochs := t.epochs, banks := t.banks,
                             tiles := t.tiles }
  | .refusalNotice .. =>
    some fun d t => { d with regs := t.regs, cnts := t.cnts, out := t.out, msixPend := t.msixPend, sched := t.sched }
  | .brickSweepVisit .. =>
    some fun d t => { d with regs := t.regs, cnts := t.cnts, out := t.out, msixPend := t.msixPend, faults := t.faults,
                             west := t.west, east := t.east, ports := t.ports }
  | .figureBoundary .. | .reelReplaced .. =>
    some fun d t => { d with regs := t.regs, cnts := t.cnts, out := t.out, msixPend := t.msixPend, faults := t.faults,
                             sched := t.sched }
  | .tileSealDone .. =>
    some fun d t => { d with regs := t.regs, cnts := t.cnts, out := t.out, msixPend := t.msixPend, faults := t.faults,
                             tiles := t.tiles, mbxs := t.mbxs }
  | .commitAt =>
    some fun d t => { d with regs := t.regs, out := t.out, msixPend := t.msixPend, sched := t.sched, epochs := t.epochs,
                             banks := t.banks, tiles := t.tiles, pair := t.pair }
  | .drainCountZero =>
    some fun d t => { d with epochs := t.epochs }
  | .routeFoldDone =>
    some fun d t => { d with regs := t.regs, out := t.out, msixPend := t.msixPend, epochs := t.epochs, tiles := t.tiles }
  | .engineReply .. =>
    some fun d t => { d with sets := t.sets }
  | .engineMigration .. =>
    some fun d t => { d with regs := t.regs, cnts := t.cnts, out := t.out, msixPend := t.msixPend, faults := t.faults,
                             sets := t.sets, mbxs := t.mbxs, wear := t.wear }
  | .tj108Timeout | .avsCurrentRead .. | .avsTransactionDone .. | .railSettleTimeout | .smbWakeWrite .. =>
    some fun d t => { d with regs := t.regs, cnts := t.cnts, out := t.out, msixPend := t.msixPend, faults := t.faults,
                             power := t.power }
  | .callerDecision .. =>
    some fun d t => { d with regs := t.regs, cnts := t.cnts, out := t.out, msixPend := t.msixPend, sched := t.sched,
                             power := t.power }
  | .railSettled | .dmaTailWrite .. | .dmaEnableWrite .. | .dmaResume .. | .dmaHostqWrite .. | .injMon =>
    some fun d t => { d with regs := t.regs }
  | .pwrBrakeNEdge .. =>
    some fun d t => { d with regs := t.regs, cnts := t.cnts, out := t.out, msixPend := t.msixPend, power := t.power }
  | .limitUnmetTimeout =>
    some fun d t => { d with regs := t.regs, cnts := t.cnts, out := t.out, msixPend := t.msixPend, faults := t.faults,
                             sched := t.sched, power := t.power }
  | .wakeSourceEvent .. | .wakeLatchFire =>
    some fun d t => { d with regs := t.regs, cnts := t.cnts, power := t.power }
  | .flr | .hotReset | .perst =>
    some fun d t => { d with regs := t.regs, cnts := t.cnts, out := t.out, msixPend := t.msixPend, chans := t.chans,
                             mbxs := t.mbxs }
  | .pcieLinkLoss =>
    some fun d t => { d with regs := t.regs, cnts := t.cnts, out := t.out, msixPend := t.msixPend, faults := t.faults,
                             chans := t.chans }
  | .busMasterDisable =>
    some fun d t => { d with regs := t.regs, cnts := t.cnts, out := t.out, msixPend := t.msixPend, chans := t.chans }
  | .msixModerationTimeout .. =>
    some fun d t => { d with out := t.out, msixPend := t.msixPend, chans := t.chans }
  | .mbxDoorbell .. | .mbxRequestAreaWrite .. =>
    some fun d t => { d with regs := t.regs, mbxs := t.mbxs }
  | .mbxAck .. =>
    some fun d t => { d with mbxs := t.mbxs }
  | .mbxCancel .. | .mbxCringTailWrite .. =>
    some fun d t => { d with regs := t.regs, out := t.out, msixPend := t.msixPend, mbxs := t.mbxs }
  | .mbxNotTaken .. | .mbxStalled .. =>
    some fun d t => { d with regs := t.regs, cnts := t.cnts, out := t.out, msixPend := t.msixPend, faults := t.faults,
                             mbxs := t.mbxs }
  | .devInfo .. | .devCancel .. | .portStatus .. | .tileList .. | .epochStatus .. | .ctxReval .. | .tblStatus ..
  | .schStatus .. | .setStatus .. | .pwrStatus .. | .pairReport .. | .spareStatus .. | .wearRead .. | .timeStatus ..
  | .ledgerRead .. | .actCntRead .. =>
    some fun d t => { d with regs := t.regs, cnts := t.cnts, fresh := t.fresh, out := t.out, msixPend := t.msixPend,
                             faults := t.faults, mbxs := t.mbxs }
  | .tileOpen .. | .tileSeal .. | .tileFree .. =>
    some fun d t => { d with regs := t.regs, cnts := t.cnts, fresh := t.fresh, out := t.out, msixPend := t.msixPend,
                             faults := t.faults, tiles := t.tiles, mbxs := t.mbxs }
  | .epochStage .. =>
    some fun d t => { d with regs := t.regs, cnts := t.cnts, fresh := t.fresh, out := t.out, msixPend := t.msixPend,
                             faults := t.faults, epochs := t.epochs, mbxs := t.mbxs }
  | .l2Flush .. =>
    some fun d t => { d with regs := t.regs, cnts := t.cnts, fresh := t.fresh, out := t.out, msixPend := t.msixPend,
                             faults := t.faults, courses := t.courses, mbxs := t.mbxs }
  | .pairStatus .. | .pairRoleSet .. =>
    some fun d t => { d with regs := t.regs, cnts := t.cnts, fresh := t.fresh, out := t.out, msixPend := t.msixPend,
                             faults := t.faults, mbxs := t.mbxs, pair := t.pair }
  | .stewardSwap .. =>
    some fun d t => { d with regs := t.regs, cnts := t.cnts, fresh := t.fresh, out := t.out, msixPend := t.msixPend,
                             faults := t.faults, mbxs := t.mbxs, stw := t.stw }
  | .keyEnrol .. | .keyRevoke .. =>
    some fun d t => { d with regs := t.regs, cnts := t.cnts, fresh := t.fresh, out := t.out, msixPend := t.msixPend,
                             faults := t.faults, tileKeys := t.tileKeys, mbxs := t.mbxs }
  | .dbgChallenge .. =>
    some fun d t => { d with regs := t.regs, cnts := t.cnts, fresh := t.fresh, out := t.out, msixPend := t.msixPend,
                             faults := t.faults, mbxs := t.mbxs, dbg := t.dbg }
  | .flashProgram .. =>
    some fun d t => { d with regs := t.regs, cnts := t.cnts, fresh := t.fresh, out := t.out, msixPend := t.msixPend,
                             faults := t.faults, mbxs := t.mbxs, boot := t.boot }
  | .queueRead .. =>
    some fun d t => { d with regs := t.regs, cnts := t.cnts, fresh := t.fresh, out := t.out, msixPend := t.msixPend,
                             faults := t.faults, sched := t.sched, mbxs := t.mbxs }
  | .exportSet .. =>
    some fun d t => { d with regs := t.regs, cnts := t.cnts, fresh := t.fresh, out := t.out, msixPend := t.msixPend,
                             faults := t.faults, mbxs := t.mbxs, export_ := t.export_ }
  | .exportPeriod .. =>
    some fun d t => { d with regs := t.regs, cnts := t.cnts, out := t.out, msixPend := t.msixPend, faults := t.faults,
                             sched := t.sched, export_ := t.export_ }
  | .heartbeatSend | .ackSend | .reorderGapTimeout | .creditRecordSend =>
    some fun d t => { d with cnts := t.cnts, out := t.out, pair := t.pair }
  | .markSetSend =>
    some fun d t => { d with regs := t.regs, cnts := t.cnts, out := t.out, pair := t.pair }
  | .fltPop =>
    some fun d t => { d with faults := t.faults }
  | .pseudoChannelMove .. =>
    some fun d t => { d with regs := t.regs, cnts := t.cnts, out := t.out, msixPend := t.msixPend, faults := t.faults,
                             mbxs := t.mbxs, wear := t.wear }
  | .moveRetry =>
    some fun d t => { d with regs := t.regs, cnts := t.cnts, out := t.out, msixPend := t.msixPend, faults := t.faults,
                             mbxs := t.mbxs, pair := t.pair, wear := t.wear }
  | .ledgerPageWrite .. =>
    some fun d t => { d with regs := t.regs, cnts := t.cnts, out := t.out, msixPend := t.msixPend, faults := t.faults,
                             wear := t.wear, boot := t.boot }
  | .romSelfCheckTimeout =>
    some fun d t => { d with stw := t.stw }
  | .attentionSequence =>
    some fun d t => { d with regs := t.regs, cnts := t.cnts, power := t.power, dbg := t.dbg }
  | .debugNop .. | .debugUnlock .. | .stewardStep .. | .extest | .clamp | .highz | .extestPulse | .extestTrain =>
    some fun d t => { d with regs := t.regs, cnts := t.cnts, out := t.out, msixPend := t.msixPend, faults := t.faults,
                             dbg := t.dbg }
  | .debugRead .. | .debugChallenge .. =>
    some fun d t => { d with regs := t.regs, cnts := t.cnts, fresh := t.fresh, out := t.out, msixPend := t.msixPend,
                             faults := t.faults, dbg := t.dbg }
  | .unlockVerifyDone | .debugLock .. =>
    some fun d t => { d with regs := t.regs, cnts := t.cnts, out := t.out, msixPend := t.msixPend, faults := t.faults,
                             sets := t.sets, stw := t.stw, dbg := t.dbg }
  | .nonceExpiry .. | .tapReset | .bypass =>
    some fun d t => { d with dbg := t.dbg }
  | .lockoutEnd =>
    some fun d t => { d with regs := t.regs, dbg := t.dbg }
  | .engineResume .. | .stepMicro .. =>
    some fun d t => { d with regs := t.regs, cnts := t.cnts, out := t.out, msixPend := t.msixPend, faults := t.faults,
                             sets := t.sets, dbg := t.dbg }
  | .stewardHalt .. | .stewardResume .. =>
    some fun d t => { d with regs := t.regs, cnts := t.cnts, out := t.out, msixPend := t.msixPend, faults := t.faults,
                             stw := t.stw, dbg := t.dbg }
  | .samplePreload .. | .idcode =>
    some fun d t => { d with out := t.out, dbg := t.dbg }
  | .msixVectorUnmask .. =>
    some fun d t => { d with out := t.out, unmasked := t.unmasked, msixPend := t.msixPend }
  | _ => none

end Sys2Proof.Machine
end

