-- ==== Sys2Proof/Certificates/Slice0/Obligations.lean ====
section
/-! DEFINITION. The statements for the provers: what the commands of every family do, what they leave alone, and what every step keeps. -/

open Sys2Proof Sys2Proof.Machine

/-! ### The whole block -/

/-- A step takes the command at the front of the queue and runs it with the queue's rest. -/
def Obligations.StepRunsTheFrontCommand : Prop :=
  ∀ (c : Instr) (rest : List Instr) (s : State), s.pending = c :: rest → step s = exec c { s with pending := rest }

/-- With no command waiting the block idles: the model's choice, log entry 1. -/
def Obligations.EmptyQueueIdles : Prop :=
  ∀ s : State, s.pending = [] → step s = .next s

/-- Every command answers a next state and leaves the queue of those that wait. -/
def Obligations.NoCommandStops : Prop :=
  (∀ (c : Instr) (s : State), Completes c s fun _ => True) ∧
  ∀ s : State, ∃ t : State, step s = .next t ∧ t.pending = s.pending.tail

/-- The canonical form of registers, counters and set memories is kept by every step. -/
def Obligations.CanonicalFormIsKept : Prop :=
  ∀ s t : State, s.dev.Canonical → step s = .next t → t.dev.Canonical

/-- The invariant holds at reset. -/
def Obligations.CanonicalFormAtReset : Prop :=
  State.reset.dev.Canonical ∧ State.reset.pending = []

/-- OTP's fuses are never undone: FW_SVN never falls and a revoked key slot stays revoked. -/
def Obligations.FusesOnlyGrow : Prop :=
  ∀ (n : Nat) (slots : List Nat) (s t : State),
    s.dev.FusesAtLeast n slots → step s = .next t → t.dev.FusesAtLeast n slots

/-- R653: nothing but a start-up (R658) writes OTP's key slots and FW_SVN. -/
def Obligations.OnlyStartUpWritesOtp : Prop :=
  ∀ (c : Instr) (s t : State), (∀ f, c ≠ .startUp f) → exec c s = .next t →
    t.dev.boot.keys = s.dev.boot.keys ∧ t.dev.boot.fwSvn = s.dev.boot.fwSvn

/-- The tile key table is written by its two commands and by a start-up's check of OTP alone. -/
def Obligations.OnlyKeyCommandsWriteTileKeys : Prop :=
  ∀ (c : Instr) (s t : State), (match c with | .keyEnrol .. => False | .keyRevoke .. => False | .startUp _ => False | _ => True) → exec c s = .next t → t.dev.tileKeys = s.dev.tileKeys

/-! ### Registers and the host's accesses to them -/

/-- R5, R7 to R9: what a host write leaves in each field. -/
def Obligations.RegisterWriteByFields : Prop :=
  ∀ (s : State) (a : BitVec 24) (v : BitVec 32) (r : RegDef) (f : Field),
    s.dev.Canonical → s.dev.bar0 = true → a.toNat % 4 = 0 → s.dev.unpowered a.toNat = false →
    a.toNat < 0x10000 ∨ 0x50000 ≤ a.toNat ∧ a.toNat < 0x200000 ∨ 0x280000 ≤ a.toNat ∧ a.toNat < 0x301000 ∨
      0x600000 ≤ a.toNat ∧ a.toNat < 0x700000 →
    reg? a.toNat = some r → f ∈ r.fields →
    Completes (.registerWrite a 15 v) s fun d =>
      let x := bits v.toNat f.hi f.lo
      let old := s.dev.fld a.toNat f.hi f.lo
      match f.acc, f.cls with
      | .w1c, _ => ∀ i, f.lo ≤ i → i ≤ f.hi → d.flag a.toNat i = (s.dev.flag a.toNat i && !v.toNat.testBit i)
      | .w1s, _ => ∀ i, f.lo ≤ i → i ≤ f.hi → d.flag a.toNat i = (s.dev.flag a.toNat i || v.toNat.testBit i)
      | .rw, .now => d.fld a.toNat f.hi f.lo = f.limit x % 2 ^ (f.hi + 1 - f.lo)
      | .rw, .epoch => d.fld a.toNat f.hi f.lo = old
      | .rw, .idle =>
        d.fld a.toNat f.hi f.lo = (if s.dev.blockIdle a.toNat then f.limit x % 2 ^ (f.hi + 1 - f.lo) else old) ∧
          (s.dev.blockIdle a.toNat = false → f.limit x ≠ old → d.flag (Dev.rejectAt a.toNat) 31 = true)
      | _, _ => d.fld a.toNat f.hi f.lo = old

/-- R3, R4: partial and stray writes. -/
def Obligations.PartialAndStrayWrites : Prop :=
  (∀ (s : State) (a : BitVec 24) (be : BitVec 4) (v : BitVec 32), s.dev.bar0 = true → be ≠ 15 →
    Completes (.registerWrite a be v) s fun d =>
      d.Raised 0xD080 0xD001 ∧ d = { s.dev with faults := d.faults }) ∧
  ∀ (s : State) (a : BitVec 24) (v : BitVec 32), s.dev.bar0 = true → s.dev.unpowered a.toNat = false →
    ¬(0x10000 ≤ a.toNat ∧ a.toNat < 0x20000) → reg? (a.toNat / 4 * 4) = none →
    Completes (.registerWrite a 15 v) s fun d => d = s.dev

/-- R5, R43, R91: what the reads with side effects return and leave. -/
def Obligations.ReadsWithSideEffects : Prop :=
  (∀ (s : State) (a : BitVec 24) (r : RegDef) (f : Field), s.dev.Canonical → s.dev.bar0 = true →
    s.dev.unpowered a.toNat = false → a.toNat ≠ 0x40008 → a.toNat ≠ 0x4002C → reg? a.toNat = some r → f ∈ r.fields → f.acc = .rc →
    Completes (.rcFieldRead a) s fun d =>
      d.readData = BitVec.ofNat 32 (s.dev.peek a.toNat) ∧ d.fld a.toNat f.hi f.lo = 0) ∧
  (∀ (s : State) (a : BitVec 24), s.dev.Canonical → s.dev.bar0 = true → s.dev.unpowered a.toNat = false → cnt? a.toNat = some a.toNat →
    Completes (.counterLoRead a) s fun d =>
      d.readData = BitVec.ofNat 32 (s.dev.cnt a.toNat) ∧ d.peek (a.toNat + 4) = s.dev.cnt a.toNat / 2 ^ 32 ∧ d.cnts = s.dev.cnts) ∧
  (∀ s : State, s.dev.Canonical → s.dev.bar0 = true →
    Completes .timNsRead s fun d =>
      d.readData = BitVec.ofNat 32 (s.dev.time.wall / 2 ^ 24 % 1000000000) ∧
      d.reg 0x4000C = s.dev.time.wall / (2 ^ 24 * 1000000000) % 2 ^ 32 ∧
      d.reg 0x40010 = (s.dev.time.wall % 2 ^ 24 / 2 ^ 8 * 65536 + s.dev.time.wall / (2 ^ 24 * 1000000000) / 2 ^ 32) % 2 ^ 32 ∧
      (∀ a, a ≠ 0x4000C → a ≠ 0x40010 → d.reg a = s.dev.reg a) ∧ d = { s.dev with regs := d.regs, readData := d.readData }) ∧
  (∀ s : State, s.dev.Canonical → s.dev.bar0 = true →
    Completes .timMonoLoRead s fun d =>
      d.readData = BitVec.ofNat 32 (s.dev.time.mono / 2 ^ 24) ∧
      d.reg 0x40030 = s.dev.time.mono / 2 ^ 24 / 2 ^ 32 % 2 ^ 32 ∧
      (∀ a, a ≠ 0x40030 → d.reg a = s.dev.reg a) ∧ d = { s.dev with regs := d.regs, readData := d.readData })

/-- R447: a register in a domain that is not ON. -/
def Obligations.AccessToAnUnpoweredRegister : Prop :=
  ∀ (s : State) (a : BitVec 24) (write : Bool), s.dev.bar0 = true → s.dev.unpowered a.toNat = true →
    Completes (.domainOffAccess a write) s fun d =>
      d.Raised 0xD080 0xD002 ∧ (write = false → d.readData = 0) ∧
      d = { s.dev with faults := d.faults, readData := if write then s.dev.readData else 0 }

/-- The rows of single registers. -/
def Obligations.RegisterRowsStoreTheirValue : Prop :=
  (∀ (s : State) (i : Fin 96) (en : Bool), s.dev.Canonical → s.dev.bar0 = true → isIface i = true →
    s.dev.unpowered (portBase i) = false →
    Completes (.portEnableWrite i en) s fun d => d.flag (portBase i) 0 = en) ∧
  (∀ (s : State) (n : Fin 16) (split : Bool), s.dev.Canonical → s.dev.bar0 = true → s.dev.unpowered (portBase (64 + n)) = false →
    s.dev.blockIdle (portBase (64 + n)) = true ∨ s.dev.breakout n = split →
    Completes (.breakoutWrite n split) s fun d => d.breakout n = split) ∧
  (∀ (s : State) (bay : Fin 48) (k : Fin 16) (v : BitVec 32), s.dev.Canonical → s.dev.bar0 = true →
    s.dev.unpowered (portBase bay + 0x84 + 8 * k) = false →
    Completes (.prtBindHiWrite bay k v) s fun d =>
      d.reg (portBase bay + 0x84 + 8 * k) = (v &&& 0x8FFFFFFF).toNat) ∧
  (∀ (s : State) (u : Fin 16) (en : Bool), s.dev.Canonical → s.dev.bar0 = true → s.dev.unpowered (Dev.auBase u) = false →
    Completes (.auEnableWrite u en) s fun d => d.flag (Dev.auBase u) 0 = en) ∧
  (∀ (s : State) (h : Fin 2) (cls : Fin 8) (v : BitVec 32), s.dev.Canonical → s.dev.bar0 = true →
    s.dev.unpowered (Dev.brkBase h + 0x40 + 8 * cls) = false → s.dev.resvOk h cls (v.toNat % 2 ^ 21) = true →
    Completes (.brkResvWrite h cls v) s fun d => d.reg (Dev.brkBase h + 0x40 + 8 * cls) = v.toNat % 2 ^ 21) ∧
  (∀ (s : State) (h : Fin 2) (k : Fin 4) (v : BitVec 32), s.dev.Canonical → s.dev.bar0 = true →
    s.dev.unpowered (Dev.brkBase h + 0x10 + 4 * k) = false → s.dev.threshOk h k (v.toNat % 2 ^ 21) = true →
    Completes (.brkThreshWrite h k v) s fun d => d.reg (Dev.brkBase h + 0x10 + 4 * k) = v.toNat % 2 ^ 21) ∧
  ∀ (s : State) (i : Fin 96) (v : BitVec 32), s.dev.Canonical → s.dev.bar0 = true → isIface i = true →
    s.dev.unpowered (schBase i + 8) = false → (s.dev.plainWrite (schBase i + 8) v.toNat).cirOk i = true →
    Completes (.schIfRateWrite i v) s fun d => d.fld (schBase i + 8) 19 0 = v.toNat % 2 ^ 20

/-- R615: the injection bits. `injectionBit` names each row's register and bit. -/
def Obligations.InjectionRowsArmTheirBit : Prop :=
  ∀ (s : State) (c : Instr) (a i : Nat), s.dev.Canonical → s.dev.bar0 = true → injectionBit c = some (a, i) →
    s.dev.unpowered a = false →
    Completes c s fun d => d.flag a i = true ∧ ∀ j, j ≠ i → j < 32 → d.flag a j = s.dev.flag a j

/-- R451: the mask bits of the MSI-X table. -/
def Obligations.MsixMaskWrites : Prop :=
  ∀ (s : State) (v : BitVec 8), s.dev.bar0 = true →
    (Completes (.msixVectorUnmask v true) s fun d =>
      d.unmasked.contains v.toNat = false ∧ d = { s.dev with unmasked := d.unmasked }) ∧
    Completes (.msixVectorUnmask v false) s fun d =>
      d.unmasked.contains v.toNat = true ∧ d.msixPend.contains v.toNat = false ∧
      d.out = s.dev.out ++ (if s.dev.msixPend.contains v.toNat then [.msix v.toNat] else []) ∧
      d = { s.dev with unmasked := d.unmasked, msixPend := d.msixPend, out := d.out }

/-! ### The time island -/

/-- R40, R42, R45: one cycle of 6.4 ns. -/
def Obligations.TimeAdvancesByTheIncrement : Prop :=
  ∀ (s : State) (on156 on10 : Bool),
    (s.dev.time.running = true →
      Completes (.timeIslandCycle on156 on10) s fun d =>
        let inc := effectiveIncr (s.dev.reg 0x40014) s.dev.adj
        d.time.mono = (s.dev.time.mono + inc) % (2 ^ 64 * nsUnit) ∧ d.time.distMono = d.time.mono ∧ d.time.steps = [] ∧
        (s.dev.time.steps = [] →
          d.time.wall = (s.dev.time.wall + inc) % wallSpan ∧ d.time.distWall = d.time.wall ∧ d = { s.dev with time := d.time }) ∧
        ∀ ns : Int, s.dev.time.steps = [ns] → d.time.wall = (((s.dev.time.wall : Int) + ns * nsUnit).toNat + inc) % wallSpan) ∧
    (s.dev.time.running = false →
      Completes (.timeIslandCycle on156 on10) s fun d =>
        d.refPresent 0 = (s.dev.refPresent 0 || on156) ∧ d.refPresent 1 = (s.dev.refPresent 1 || on10) ∧
        d = { s.dev with time := { s.dev.time with ref156 := d.time.ref156, ref10 := d.time.ref10 } })

/-- R45: refused steps, through TIM_STEP and at once. -/
def Obligations.StepsOutOfRangeAreRefused : Prop :=
  (∀ (s : State) (v : BitVec 32), s.dev.Canonical → s.dev.bar0 = true →
    let w := s.dev.time.steps.foldl (fun (w : Int) x => w + x * nsUnit) (s.dev.time.wall : Int) + v.toInt * nsUnit
    w < 0 ∨ (wallSpan : Int) ≤ w →
    Completes (.timStepWrite v) s fun d =>
      d.flag 0x40004 5 = true ∧ d.Raised 0xB000 0xB005 ∧ d.time = s.dev.time) ∧
  ∀ (d : Dev) (ns : Int), d.Canonical →
    let w := d.time.steps.foldl (fun (w : Int) x => w + x * nsUnit) (d.time.wall : Int) + ns * nsUnit
    w < 0 ∨ (wallSpan : Int) ≤ w →
    (d.stepNow ns).flag 0x40004 5 = true ∧ (d.stepNow ns).Raised 0xB000 0xB005 ∧ (d.stepNow ns).time = d.time

/-- R45, R46, R48: writes of the time island's registers. -/
def Obligations.TimeRegisterRows : Prop :=
  (∀ (s : State) (v : BitVec 32), s.dev.bar0 = true → s.dev.stepOk v.toInt = true →
    Completes (.timStepWrite v) s fun d =>
      d.time.steps = s.dev.time.steps ++ [v.toInt] ∧ d.time.wall = s.dev.time.wall ∧ d = { s.dev with time := d.time }) ∧
  (∀ (s : State) (v : BitVec 32), s.dev.Canonical → s.dev.bar0 = true →
    Completes (.timAdjWrite v) s fun d =>
      d.adj = max (-2147483) (min 2147483 v.toInt) ∧ d.time.freq = d.adj * 1000000000 ∧
      d = { s.dev with regs := d.regs, time := { s.dev.time with freq := d.time.freq } }) ∧
  (∀ (s : State) (v : BitVec 32), s.dev.bar0 = true → s.dev.disc = 0 ∨ s.dev.disc = 2 →
    Completes (.timServoWrite v) s fun d => d = s.dev) ∧
  (∀ (s : State) (v : BitVec 32), s.dev.bar0 = true → s.dev.disc = 3 →
    Completes (.timServoWrite v) s fun d =>
      d = { s.dev with time := { s.dev.time with lastUpdate := s.dev.time.mono / nsUnit, silent := false } }) ∧
  (∀ (s : State) (v : BitVec 32), s.dev.bar0 = true → s.dev.disc = 1 → -100 ≤ v.toInt → v.toInt ≤ 100 →
    Completes (.timServoWrite v) s fun d =>
      d.time.lockCount = satAdd 8 s.dev.time.lockCount 1 ∧ d.time.outRun = 0 ∧
      (7 ≤ s.dev.time.lockCount → d.time.st = .locked) ∧ (s.dev.time.lockCount < 7 → d.time.st = s.dev.time.st)) ∧
  (∀ (s : State) (v : BitVec 2), s.dev.Canonical → s.dev.bar0 = true → v.toNat ≠ s.dev.disc →
    Completes (.discWrite v) s fun d => d.disc = v.toNat ∧ d.time.lockCount = 0 ∧ d.time.outRun = 0 ∧ d.time.four = []) ∧
  ∀ (s : State) (v : BitVec 1), s.dev.Canonical → s.dev.bar0 = true → s.dev.refPresent v.toNat = true →
    Completes (.refselWrite v) s fun d =>
      d.flag 0x40000 0 = v.getLsbD 0 ∧ d.time.active = s.dev.time.active ∧
      d.time.takeover = (if s.dev.time.active = v.toNat then none else some v.toNat)

/-- R36, R46, R48, R50, R56 to R59: events of the time island. -/
def Obligations.TimeEvents : Prop :=
  (∀ (s : State) (r : Nat), s.dev.time.takeover = some r → s.dev.refPresent r = true →
    Completes .refselTakeover s fun d =>
      d.time.active = r ∧ d.time.takeover = none ∧ d.time.st ≠ .locked ∧ d.faults = s.dev.faults) ∧
  (∀ (s : State) (rising : Bool), s.dev.Canonical → rising = !s.dev.flag 0x40000 7 → s.dev.time.running = true →
    Completes (.ppsInEdge rising) s fun d =>
      (s.dev.disc < 2 → d.reg 0x40028 = s.dev.time.wall / secUnit % 4 * 2 ^ 30 + s.dev.time.wall / nsUnit % 1000000000 ∧
        d = { s.dev with regs := d.regs }) ∧
      (2 ≤ s.dev.disc → s.dev.secondOffset < -1000 ∨ 1000 < s.dev.secondOffset →
        d.flag 0x40004 6 = true ∧ d.Raised 0xB000 0xB003)) ∧
  (∀ s : State, s.dev.Canonical → 2 ≤ s.dev.disc →
    s.dev.time.lastEdge + 1500000000 + s.dev.time.missed * 1000000000 ≤ s.dev.time.mono / nsUnit →
    Completes .ppsEdgeMissing s fun d =>
      d.flag 0x40004 6 = true ∧ d.time.lockCount = 0 ∧ d.time.four = [] ∧ d.faults = s.dev.faults) ∧
  (∀ s : State, s.dev.disc ≠ 0 → s.dev.time.silent = false →
    s.dev.time.lastUpdate + max 1 (s.dev.fld 0x40000 19 16) * 1000000000 ≤ s.dev.time.mono / nsUnit →
    Completes .discTimeout s fun d =>
      d.time.silent = true ∧ d.Raised 0xB000 0xB002 ∧ d.time.st ≠ .locked) ∧
  (∀ (s : State) (ref : Fin 2), s.dev.time.active = ref →
    Completes (.referenceLoss ref) s fun d =>
      d.Raised 0xB000 0xB001 ∧ d.refPresent ref = false ∧ d.time.active ≠ ref ∧ d.time.st ≠ .locked ∧
      d.time.wall = s.dev.time.wall ∧ d.time.mono = s.dev.time.mono) ∧
  (∀ (s : State) (counter : BitVec 48), s.dev.time.snapAsked = true → s.dev.time.running = true →
    Completes (.timeSnapshot counter) s fun d =>
      ∃ w, d.time.snapshot = some w ∧ w.wall = s.dev.time.wall ∧ w.mono = s.dev.time.mono ∧ w.counter = counter.toNat ∧
        d.time.running = false) ∧
  (∀ (s : State) (counter : BitVec 48) (w : Snapshot), s.dev.time.running = false → 3 ≤ s.dev.power.backStep →
    s.dev.time.snapshot = some w →
    Completes (.wakeTimeLoad counter) s fun d =>
      let n := (counter.toNat + 2 ^ 48 - w.counter) % 2 ^ 48
      d.time.running = true ∧ d.time.wall = (w.wall + n * secUnit / 32768) % wallSpan ∧ d.time.mono = w.mono + n * secUnit / 32768 ∧
      d.time.st = (if w.st = .unknown then .unknown else .coasted)) ∧
  (∀ (s : State) (counter : BitVec 48), s.dev.Canonical → s.dev.time.running = false → 3 ≤ s.dev.power.backStep →
    s.dev.time.snapshot = none →
    Completes (.wakeTimeLoad counter) s fun d =>
      d.time.running = true ∧ d.time.st = .unknown ∧ d.time.wall = 0 ∧ d.time.mono = s.dev.time.sramMono ∧
      d.flag 0x40004 7 = true ∧ d.Raised 0xB000 0xB004) ∧
  (∀ (s : State) (c : Fin 18) (rate : BitVec 16) (mv tj : Nat), s.dev.Canonical → s.dev.isOn (4 + c) = true →
    Completes (.speedWindowEnd c rate mv tj) s fun d =>
      d.fld (0x100010 + c * 0x8000) 15 0 = rate.toNat ∧ d.flag (0x100010 + c * 0x8000) 31 = true)

/-! ### Bays and network ports -/

/-- R69, R70, R74, R80: the moves of an interface's state. -/
def Obligations.InterfaceStateMoves : Prop :=
  ∀ (s : State) (i : Fin 96), s.dev.Canonical → isIface i = true →
    (let p := s.dev.port i
     (p.st = .empty → s.dev.enabled i = true → s.dev.inMode i = true →
       Completes (.presenceChange i true) s fun d => (d.port i).st = .training ∧ (d.port i).present = true) ∧
     (p.st ≠ .withdrawn →
       Completes (.presenceChange i false) s fun d => (d.port i).st = .empty ∧ (d.port i).present = false) ∧
     (∀ partner m, p.st = .training → p.gapFrom = none → s.dev.flag (portBase i) 5 = true →
       ((s.dev.advertised i).find? fun m => partner.testBit m) = some m →
       Completes (.autonegResolved i partner) s fun d => (d.port i).mode = m ∧ d = { s.dev with ports := d.ports }) ∧
     (p.st = .training → p.gapFrom = none → p.tryStart + s.dev.fld (portBase i + 0x18) 31 16 * 1000000 ≤ s.dev.now →
       Completes (.trainAttemptTimeout i) s fun d => d.Raised (srcIf i) 0x1001 ∧ (d.port i).st = .training) ∧
     (∀ t, p.st = .training → p.gapFrom = some t → t + s.dev.fld (portBase i + 0x18) 11 0 * 1000000000 ≤ s.dev.now →
       Completes (.retryGapEnd i) s fun d =>
         (d.port i).modesOut = 0 ∧ (d.advertised i ≠ [] → (d.port i).gapFrom = none)) ∧
     (p.st = .training → p.mode ≠ 0 → p.gapFrom = none →
       Completes (.linkUp i) s fun d =>
         (d.port i).st = (if p.quarPending then .quarantined else .admitted) ∧ (d.port i).speed = p.mode) ∧
     (p.st = .admitted ∨ p.st = .quarantined →
       Completes (.lockLostTimeout i) s fun d => (d.port i).st = .training ∧ d.flag (portBase i + 0x20) 0 = true) ∧
     ((i : Nat) < 48 → p.winStart + 1000000000 ≤ s.dev.now →
       Completes (.quarWindowEnd i) s fun d =>
         (d.port i).trig = [] ∧ (d.port i).trigHit = false ∧ (d.port i).winStart = s.dev.now / 1000000000 * 1000000000))

/-- R705, R84: what a received frame comes to. -/
def Obligations.ReceivedFrameOutcome : Prop :=
  ∀ (s : State) (i : Fin 96) (f : RxFrame), s.dev.Canonical → isIface i = true → f.taken = true →
    (f.malformed = true →
      Completes (.frameReceived i f) s fun d =>
        d.cnt (portBase i + 0x100 + 8 * 4) = (s.dev.cnt (portBase i + 0x100 + 8 * 4) + 1) % 2 ^ 64 ∧ d.staging = s.dev.staging) ∧
    (f.malformed = false → f.overrun = false → f.fecBad = false → f.reassembly = false →
      let n := f.bytes.length
      let covered := f.bytes.take (n - 4)
      (fcs covered ≠ f.bytes.drop (n - 4) →
        Completes (.frameReceived i f) s fun d =>
          d.cnt (portBase i + 0x100 + 8 * 1) = (s.dev.cnt (portBase i + 0x100 + 8 * 1) + 1) % 2 ^ 64 ∧ d.staging = s.dev.staging) ∧
      (fcs covered = f.bytes.drop (n - 4) → 64 ≤ n → n ≤ s.dev.fld (portBase i + 8) 13 0 →
        tpids (s.dev.fld (portBase i + 8) 31 16) covered 3 12 = [] → field covered 12 2 ≠ 0x8808 →
        (s.dev.port i).active = true → s.dev.given i = false → field covered 6 6 / 2 ^ 40 % 2 = 0 →
        s.dev.flag (portBase i) 7 = false → controlClass (field covered 0 6) (field covered 12 2) = none →
        (s.dev.port i).st = .admitted → s.dev.isOn (4 + s.dev.physical (courseOf i)) = true →
        Completes (.frameReceived i f) s fun d =>
          (d.port i).seq = ((s.dev.port i).seq + 1) % 2 ^ 48 ∧ d.nextPid = s.dev.nextPid + 1 ∧
          ∃ x : Desc, x.aseq = (s.dev.port i).seq ∧ x.mortar = crc32c covered ∧ x.mlen = n - 4 ∧
            d.staging = Map.upd s.dev.staging (s.dev.physical (courseOf i)) [] fun l => l ++ [Staged.mk x covered]))

/-- R78, R83, R86, R300, R315. -/
def Obligations.PauseLaneAndVerifyRows : Prop :=
  (∀ (s : State) (i : Fin 96), s.dev.Canonical → isIface i = true →
    let p := s.dev.port i
    (∀ (q : Fin 8) t, Map.get? p.paused q = some t → t ≤ s.dev.now →
      Completes (.pfcPauseExpiry i q) s fun d =>
        (d.port i).paused = Map.erase p.paused q ∧ d = { s.dev with sched := d.sched, ports := d.ports }) ∧
    (∀ (q : Fin 8) t, Map.get? p.wdStart q = some t → s.dev.reg (portBase i + 0x10) ≠ 0 → s.dev.pfcHeld i q = true →
      s.dev.classWaits i q = true → t + s.dev.reg (portBase i + 0x10) * 1000 ≤ s.dev.now →
      Completes (.pfcWatchdogTrip i q) s fun d =>
        d.Raised (srcIf i) 0x1010 ∧ (d.port i).recover = Map.put p.recover q s.dev.now) ∧
    (∀ (q : Fin 8) t, Map.get? p.recover q = some t →
      t + max 1 (s.dev.fld (portBase i + 0x0C) 31 16) * 1000000 ≤ s.dev.now →
      Completes (.pfcRecoverEnd i q) s fun d =>
        (d.port i).recover = Map.erase p.recover q ∧ d = { s.dev with ports := d.ports }) ∧
    (p.xoffSent = true → p.active = true → p.st = .admitted → s.dev.fld (portBase i + 0x0C) 15 8 ≠ 0 →
      Completes (.pfcTxRefresh i) s fun d =>
        d.out.length = s.dev.out.length + 1 ∧ d = { s.dev with cnts := d.cnts, out := d.out }) ∧
    (p.verifying = true → p.verifyTries < 3 → p.active = true → p.st = .admitted ∨ p.st = .quarantined →
      Completes (.preemptVerifySend i) s fun d =>
        (d.port i).verifyTries = p.verifyTries + 1 ∧ d.out = s.dev.out ++ [.verify i] ∧ d = { s.dev with ports := d.ports, out := d.out }) ∧
    (p.verifying = true →
      (Completes (.preemptVerifyResult i true) s fun d =>
        (d.port i).preActive = true ∧ (d.port i).verifying = false ∧ d.faults = s.dev.faults) ∧
      (3 ≤ p.verifyTries →
        Completes (.preemptVerifyResult i false) s fun d => (d.port i).preActive = false ∧ d.Raised (srcIf i) 0x1040))) ∧
  ∀ (s : State) (die : Fin 4) (x : Fin 82) (corr unc : Nat), s.dev.Canonical →
    Completes (.fecWindowEnd die x corr unc) s fun d =>
      let base := 0x280000 + (die : Nat) * 0x10000 + s.dev.laneAt die x * 0x100
      d.cnt (base + 0x10) = (s.dev.cnt (base + 0x10) + corr) % 2 ^ 64 ∧
      d.cnt (base + 0x18) = (s.dev.cnt (base + 0x18) + unc) % 2 ^ 64 ∧
      (s.dev.fld (base + 4) 7 0 < unc → d.Raised (srcLane die (s.dev.laneAt die x)) 0x1021)

/-! ### Courses, automata, banks, learned entries and contexts -/

/-- R21, R135, R136, R139, R199: what enters a pass, and from where. -/
def Obligations.CourseSlotSelection : Prop :=
  (∀ (s : State) (c : Fin 18) (up : Upsets), s.dev.servingCourses.contains (c : Nat) = true →
    s.dev.faults.isolated.contains (srcCourse c) = false →
    (∀ x rest, Map.getD s.dev.staging c [] = x :: rest →
      Completes (.coursePass c up) s fun d =>
        d = Dev.takePass { s.dev with staging := Map.putD s.dev.staging c [] rest } c { desc := x.desc } x.bytes
          (if x.desc.admIf < 48 then bits (word (s.dev.slot x.desc.tag).graph.hdr 0) 9 0
            else bits (word (s.dev.slot x.desc.tag).graph.hdr 1) 9 0) true up) ∧
    (∀ r rest, Map.getD s.dev.staging c [] = [] → s.dev.west.level < 2 → s.dev.east.level < 2 →
      (s.dev.course c).recirc = r :: rest →
      Completes (.coursePass c up) s fun d =>
        ∃ e : Dev, e = s.dev.setCourse c (fun x => { x with recirc := rest }) ∧
          d = e.takePass c { desc := r.desc, chained := true } (e.passBytes { desc := r.desc, chained := true })
            (if r.released then e.rootOf r.desc else r.node) r.released up) ∧
    (∀ i rest, Map.getD s.dev.staging c [] = [] → s.dev.west.level < 2 → s.dev.east.level < 2 →
      (s.dev.course c).recirc = [] → (s.dev.course c).inject = i :: rest →
      Completes (.coursePass c up) s fun d =>
        ∃ (e : Dev) (x : Desc) (b : List Byte) (n : Nat), e = s.dev.setCourse c (fun x => { x with inject := rest }) ∧
          x = (if i.ret then i.desc else { i.desc with tag := s.dev.epochs.curTag }) ∧ (i.node ≠ 0 → n = i.node) ∧
          d = e.takePass c { desc := x, chained := true } b n false up)) ∧
  (∀ (s : State) (c : Fin 18) (i : Nat) (bad : Bool) (ups : List Upsets) (p0 : Pass) (tpl : Nat) (key : List Byte),
    s.dev.Canonical → (s.dev.course c).missq[i]? = some p0 → p0.look.key = some (tpl, key) →
    Completes (.contextMissReturn c i bad ups) s fun d =>
      ∃ (e : Dev) (a : Dev.Answer) (l : List (Nat × Pass)),
        (∀ k < 18, ∀ p ∈ (e.course k).missq, ¬(p.look.key = some (tpl, key) ∧ p.look.ctxOut = .notMade)) ∧
        (∀ x, x ∈ l ↔ x.1 < 18 ∧ x.2 ∈ (s.dev.course x.1).missq ∧ x.2.look.key = some (tpl, key) ∧ x.2.look.ctxOut = .notMade) ∧
        l.Pairwise (fun x y => x.2.desc.aseq ≤ y.2.desc.aseq) ∧ (bad = true → a = .error) ∧
        d = l.zipIdx.foldl (fun d x => d.rejoin x.1.1 x.1.2 a (x.1.2 = p0) (ups.getD x.2 noUpset)) e) ∧
  (∀ (s : State) (c : Fin 18) (i : Nat) (h : Held), (s.dev.course c).hold[i]? = some h →
    (h.since + h.hold ≤ s.dev.now →
      Completes (.fragHoldExpiry c i false) s fun d =>
        d = (s.dev.setCourse c fun x => { x with hold := x.hold.eraseIdx i }).dropPass h.pass 0x14) ∧
    Completes (.fragHoldExpiry c i true) s fun d =>
      d = ((s.dev.setCourse c fun x => { x with hold := x.hold.eraseIdx i }).raise (srcCourse c) 0x2004).dropPass h.pass 0x1B) ∧
  ∀ (s : State) (c : Fin 18) (i : Nat) (e : FragEntry), s.dev.Canonical → (s.dev.course c).frags[i]? = some e → s.dev.fragValid e = false →
    Completes (.fragEntryExpiry c i) s fun d =>
      (d.course c).frags = (s.dev.course c).frags.eraseIdx i ∧ d = { s.dev with courses := d.courses }

/-- R107, R170, R171, R174. -/
def Obligations.ScansAndWindows : Prop :=
  (∀ (s : State) (u : Fin 16) (i : Nat) (x : Scan), s.dev.Canonical → s.dev.auServes u = true →
    ((s.dev.au u).queue.findIdx? fun y => !Dev.flowBusy (s.dev.au u) y) = some i → (s.dev.au u).queue[i]? = some x →
    ((s.dev.au u).spend < (if x.inline then s.dev.auBudget u else s.dev.auBudget u - (s.dev.au u).inlinePrev) →
      Completes (.scanStart u) s fun d =>
        (d.au u).queue = (s.dev.au u).queue.eraseIdx i ∧ (d.au u).running = (s.dev.au u).running ++ [x] ∧
        (d.au u).spend = (s.dev.au u).spend + (x.stop - x.start) ∧ d = { s.dev with aus := d.aus }) ∧
    (x.inline = false → s.dev.auBudget u - (s.dev.au u).inlinePrev ≤ (s.dev.au u).spend →
      Completes (.scanStart u) s fun d =>
        (d.au u).queue = (s.dev.au u).queue.eraseIdx i ∧ (d.au u).running = (s.dev.au u).running)) ∧
  (∀ (s : State) (u : Fin 16) (i : Nat) (x : Scan) (upset : ScanUpset) (fetches : Nat) (up : Upsets), (s.dev.au u).running[i]? = some x →
    Completes (.scanComplete u i upset fetches up) s fun d =>
      ∃ (e : Dev) (o : AutoOut), s.dev.scanEnd u x upset fetches = (e, o) ∧
        let f := (e.setAu u fun a => { a with running := a.running.eraseIdx i }).freesDue
        let p := { x.pass with look := { x.pass.look with auto := o } }
        d = if x.inline then f.finishPass p.desc.course p (f.passBytes p) up else f) ∧
  (∀ (s : State) (u : Fin 16), s.dev.Canonical → (s.dev.au u).window + 1000 ≤ s.dev.now →
    Completes (.auBudgetWindow u) s fun d =>
      (d.au u).spend = (s.dev.au u).spend - s.dev.auBudget u ∧ (d.au u).inlinePrev = (s.dev.au u).inlineNow ∧ (d.au u).inlineNow = 0 ∧
      (d.au u).queue = (s.dev.au u).queue ∧ d = { s.dev with regs := d.regs, aus := d.aus }) ∧
  ∀ (s : State) (c : Fin 18), s.dev.Canonical → s.dev.now / 1000000000 ≠ (s.dev.course c).missAt →
    Completes (.mortarWindowEnd c) s fun d =>
      (d.course c).missWin = 0 ∧ (d.course c).missOut = false ∧ (d.course c).missAt = s.dev.now / 1000000000 ∧
      d = { s.dev with courses := d.courses }

/-- R159, R161: the bank scanner and the bank's replacement. -/
def Obligations.BankScanAndReplacement : Prop :=
  (∀ (s : State) (b : Fin 68) (u : Fin 2048), s.dev.Canonical → s.dev.flag (Dev.bankBase b) 2 = true → s.dev.flag (Dev.bankBase b + 0x0C) 0 = false →
    (Completes (.bankScannerVisit b u true true true none) s fun d => d = s.dev) ∧
    (∀ p, Completes (.bankScannerVisit b u p true false none) s fun d => d.Raised (srcBank b) 0x3001 ∧ d.banks = s.dev.banks) ∧
    (∀ e, Completes (.bankScannerVisit b u true false e none) s fun d => d.Raised (srcBank b) 0x3002 ∧ d.banks = s.dev.banks) ∧
    ∀ e, Completes (.bankScannerVisit b u false false e none) s fun d =>
      d.Raised (srcBank b) 0x3003 ∧
      ∀ f y, s.dev.holderOf b u = some (f, y) → (d.bank b).entries = Map.erase (s.dev.bank b).entries f) ∧
  ∀ (s : State) (b : Fin 68) (lb sp : Nat), s.dev.logBank b = some lb → s.dev.spareBank (b.val < 34) = some sp → s.dev.bankState sp = 2 →
    s.dev.bankState b = 3 →
    (Completes (.bankReplace b true) s fun d =>
      d.asmMap = Map.put s.dev.asmMap lb sp ∧ (d.bank b).st = some 4 ∧ (d.bank b).entries = []) ∧
    Completes (.bankReplace b false) s fun d => d.Raised (srcBank sp) 0x3010 ∧ d.asmMap = s.dev.asmMap

/-- R206, R209, R214, R222. -/
def Obligations.LearnedEntryRows : Prop :=
  (∀ (s : State) (c : Fin 18) (n : Notice2) (rest : List Notice2), s.dev.Canonical → (s.dev.course c).notices = n :: rest →
    (s.dev.l2? c n.key = none → s.dev.l2Room c n.key = true →
      Completes (.learnNoticeApply c) s fun d => d.l2? c n.key = some { iface := n.iface } ∧ (d.course c).notices = rest) ∧
    ∀ e : L2Entry, s.dev.l2? c n.key = some e → e.lock = none → e.iface = n.iface →
      Completes (.learnNoticeApply c) s fun d =>
        d.l2? c n.key = some { e with aged := false, stale := false } ∧ (d.course c).notices = rest) ∧
  (∀ (s : State) (c : Fin 18) (bd : BitVec 14) (mac : BitVec 48) (e : L2Entry) (t w : Nat), s.dev.Canonical →
    let key := bd.toNat * 2 ^ 48 + mac.toNat
    let hold := s.dev.fld (Dev.crsBase ((s.dev.nameOf c).getD c) + 0xC08) 25 18
    s.dev.l2? c key = some e → e.pinned = true → e.flap = some (t, w) → hold ≠ 0 → t + hold * 1000000000 ≤ s.dev.now →
    Completes (.pinHoldEnd c bd mac) s fun d => d.l2? c key = some { e with pinned := false, moves := 0, flap := none }) ∧
  (∀ (s : State) (c : Fin 18) (bd : BitVec 14) (mac : BitVec 48) (e : L2Entry), s.dev.Canonical →
    let key := bd.toNat * 2 ^ 48 + mac.toNat
    s.dev.l2? c key = some e → e.lock = none → e.static = false → e.stale = false →
    s.dev.fld (Dev.crsBase ((s.dev.nameOf c).getD c) + 0xC0C) 15 0 ≠ 0 →
    (e.aged = false → Completes (.l2SweepVisit c bd mac false) s fun d => d.l2? c key = some { e with aged := true }) ∧
    (e.aged = true → Completes (.l2SweepVisit c bd mac false) s fun d =>
      (d.course c).learned = Map.erase (s.dev.course c).learned key)) ∧
  (∀ (s : State) (c : Fin 18) (bd : BitVec 14) (mac : BitVec 48) (e : L2Entry) (ch t : Nat), s.dev.Canonical →
    let key := bd.toNat * 2 ^ 48 + mac.toNat
    s.dev.l2? c key = some e → e.lock = some (ch, t) → t + 1000000 ≤ s.dev.now →
    Completes (.lockExpiry (.learned c bd mac)) s fun d =>
      d.l2? c key = some { e with lock := none } ∧ d.Raised (srcCourse c) 0x4030) ∧
  ∀ (s : State) (idx : BitVec 24) (ch t : Nat), (s.dev.ctx idx.toNat).lock = some (ch, t) → t + 1000000 ≤ s.dev.now →
    Completes (.lockExpiry (.context idx)) s fun d => d.Raised (srcCourse (s.dev.physical (idx.toNat % 16))) 0x4030

/-- R196, R200, R215. -/
def Obligations.ContextCacheRows : Prop :=
  (∀ (s : State) (idx : BitVec 24) (set t0 : Nat) (c0 c1 : Ctx), s.dev.lineOf idx.toNat = some (set, c1) →
    Way.line idx.toNat c0 (some t0) ∈ Map.getD (s.dev.slice (idx.toNat % 16)).sets set [] →
    (∀ c t, Way.line idx.toNat c t ∈ Map.getD (s.dev.slice (idx.toNat % 16)).sets set [] → c = c0 ∧ t = some t0) →
    c0.valid = true → t0 + max 1 (s.dev.fld 0x100D04 7 0) * 100000 ≤ s.dev.now →
    Completes (.contextWriteBack idx) s fun d => Map.get? d.store idx.toNat = some c0) ∧
  (∀ (s : State) (n : Fin 16) (set : Fin 1024), s.dev.Canonical →
    Completes (.pendExpiry n set) s fun d =>
      (∀ t k u, Way.pend t k u ∈ Map.getD (d.slice n).sets set [] → s.dev.now < u) ∧
      (∀ i c m, Way.line i c m ∈ Map.getD (d.slice n).sets set [] ↔ Way.line i c m ∈ Map.getD (s.dev.slice n).sets set []) ∧
      d = { s.dev with slices := d.slices }) ∧
  ∀ (s : State) (idx : BitVec 24),
    let c := s.dev.ctx idx.toNat
    let k := s.dev.fld (Dev.crsBase (idx.toNat % 16) + 0xC20 + 4 * c.ageClass) 15 0
    s.dev.lineOf idx.toNat = none → s.dev.ctxBad idx.toNat = false → c.valid = true → c.lock = none → c.ageEn = true → c.stale = false → c.aged = false →
    s.dev.ctxHolder idx.toNat = none → k ≠ 0 → (s.dev.slice (idx.toNat % 16)).lapNo % k = 0 →
    Completes (.contextSweepVisit idx false) s fun d => d.ctx idx.toNat = { c with aged := true }

/-! ### Queues, egress, reels, bricks -/

/-- R104, R327, R333, R335. -/
def Obligations.EgressRows : Prop :=
  (∀ (s : State) (i : Fin 96) (e f : Dev) (q : Nat) (w : Waiting) (y : Patched), isIface i = true → s.dev.inMode i = true →
    s.dev.takes i = true → Map.get? s.dev.sched.sending i = none → Map.get? s.dev.sched.held i = none →
    e = ((s.dev.dropNever i).noteHeld i) →
    (e.ageChosen i (e.mayStart i false) (e.queuesOf i).length).takeHead i
      ((e.ageChosen i (e.mayStart i false) (e.queuesOf i).length).mayStart i false)
      (e.ageChosen i (e.mayStart i false) (e.queuesOf i).length).markRoom = (f, some (q, w)) →
    f.onWire w = .ok y →
    Completes (.schedulerRelease i false) s fun d => Map.get? d.sched.sending i = some w ∧ d = f.startFrame i w) ∧
  (∀ (s : State) (i : Fin 96) (x : TxFacts) (w : Waiting) (c : Chain) (y : Patched), isIface i = true →
    Map.get? s.dev.sched.sending i = some w → Map.get? s.dev.sched.sendEnd i = none → s.dev.chain? w.desc.chain w.desc.gen = some c →
    c.poison = false → x.bad = false → x.link = false → c.broken = none →
    s.dev.flag (Dev.brkBase (Dev.halfAddr w.desc.chain) + 0x0C) 1 = false → w.desc.tsOp = 0 →
    (s.dev.setReels i fun r => { r with stepped := false }).onWire w = .ok y →
    (crc32c (x.seen.getD y.bytes) = y.mortar →
      Completes (.egressFrameEnd i x) s fun d =>
        ∃ (e : Dev) (b : List Byte), e.out = s.dev.out ++ [Emission.frame i (b ++ fcs b) false] ∧
          b = x.seen.getD y.bytes ++ List.replicate (60 - (x.seen.getD y.bytes).length) 0 ∧
          Map.get? e.sched.sending i = Map.get? (Map.erase s.dev.sched.sending i) i ∧
          d = (e.release w.desc.chain w.desc.gen).endCopy w.desc .departed) ∧
    (crc32c (x.seen.getD y.bytes) ≠ y.mortar → s.dev.flag (mrtBase (courseOf i)) (portIndex i) = true →
      Completes (.egressFrameEnd i x) s fun d =>
        ∃ e : Dev, e.Raised (srcIf i) 0x5010 ∧ e.out = s.dev.out ∧ d = e.endWaiting w 0x58)) ∧
  (∀ (s : State) (c : Fin 18) (i : Nat),
    (∀ h, (s.dev.course c).hold[i]? = some h → s.dev.aged h.pass.desc = true →
      Completes (.agerVisit (.hold c i) none) s fun d =>
        d = ((s.dev.setCourse c fun x => { x with hold := x.hold.eraseIdx i }).countGlobal 0x7E).dropPass h.pass 0x7E) ∧
    ∀ r, (s.dev.course c).recirc[i]? = some r → s.dev.aged r.desc = true →
      Completes (.agerVisit (.recirc c i) none) s fun d =>
        d = ((s.dev.setCourse c fun x => { x with recirc := x.recirc.eraseIdx i }).countGlobal 0x7E).dropPass
          { desc := r.desc, chained := true } 0x7E) ∧
  ∀ (s : State) (b : Fin 48),
    let n := Map.getD s.dev.sched.notices b {}
    s.dev.flag (schBase b) 8 = true → n.counts ≠ [] → (∀ t, n.lastAt = some t → t + s.dev.fld (schBase b + 0x10) 25 16 * 1000 ≤ s.dev.now) →
    s.dev.pfcHeld b (s.dev.fld (schBase b) 11 9) = false → s.dev.gateOpen b (s.dev.fld (schBase b) 11 9) = true →
    s.dev.fit b (s.dev.fld (schBase b) 11 9) (s.dev.noticeLen b) ≠ .no → s.dev.takes b = true →
    Dev.usedOf (s.dev.half (halfOf b)) 3 < s.dev.resv (halfOf b) 3 →
    Completes (.refusalNotice b) s fun d =>
      Emission.frame b (s.dev.noticeFrame b n) false ∈ d.out ∧
      d.sched.notices = Map.putD s.dev.sched.notices b {} { counts := [], lastAt := some s.dev.now, seq := (n.seq + 1) % 65536 }

/-- R307, R308, R346, R352, R365. -/
def Obligations.ReelAndSweeperRows : Prop :=
  (∀ (s : State) (i : Fin 96), s.dev.Canonical → isIface i = true →
    (Completes (.figureBoundary i false) s fun d => (d.reels i).gates = s.dev.gatesNow i) ∧
    ((s.dev.reels i).cur.isSome = true →
      Completes (.figureBoundary i true) s fun d => (d.reels i).broken = true ∧ d.Raised (srcHalf (halfOf i)) 0x7020) ∧
    (∀ r, (s.dev.reels i).pend = some r → r.start ≤ s.dev.wallTotal →
      Completes (.reelSwitch i) s fun d =>
        (d.reels i).pend = none ∧ (d.reels i).cur = if r.figures.isEmpty then none else some r) ∧
    ((s.dev.reels i).broken = true →
      (Completes (.reelReplaced i false) s fun d => (d.reels i).broken = false) ∧
      Completes (.reelReplaced i true) s fun d => d.Raised (srcHalf (halfOf i)) 0x7022 ∧ (d.reels i).broken = true)) ∧
  ∀ (s : State) (h : Fin 2) (b : Nat), s.dev.Canonical → s.dev.flag (Dev.brkBase h) 0 = true → s.dev.halfOn h = true →
    (Map.get? (s.dev.half h).orphans b = none → Completes (.brickSweepVisit h b none) s fun d => d = s.dev) ∧
    ∀ o, Map.get? (s.dev.half h).orphans b = some o →
      (o.seen = 0 ∨ o.seen ≠ (s.dev.half h).lapNo →
        Completes (.brickSweepVisit h b none) s fun d =>
          Map.get? (d.half h).orphans b = some { o with seen := (s.dev.half h).lapNo + 1 } ∧ d.faults = s.dev.faults) ∧
      (o.seen ≠ 0 → o.seen = (s.dev.half h).lapNo → (s.dev.half h).lapFreed = false →
        Completes (.brickSweepVisit h b none) s fun d =>
          d.Raised (srcHalf h) 0x6031 ∧ d.cnt (Dev.brkBase h + 0x340) = (s.dev.cnt (Dev.brkBase h + 0x340) + 1) % 2 ^ 64)

/-! ### Epochs -/

/-- R270 to R276. -/
def Obligations.EpochPlacementCommitAndDrain : Prop :=
  (∀ (s : State) (rs : List Route), s.dev.epochs.pend = 1 → s.dev.epochs.stageDown = false →
    Dev.newRoutes (s.dev.slot s.dev.epochs.curTag).routes (Dev.listedImage (s.dev.tilesOf s.dev.epochs.listed) 7 0xFF) = .ok rs →
    Completes (.epochStageDone none) s fun d =>
      d.epochs.pend = 2 ∧ d.epochs.listed = s.dev.epochs.listed ∧ d.epochs.curTag = s.dev.epochs.curTag ∧
      ∀ h ∈ s.dev.epochs.listed, Map.has s.dev.tiles h = true → (Map.get? d.tiles h).map (·.st) = some 2) ∧
  (∀ (s : State) bad, s.dev.epochs.pend = 1 → s.dev.epochs.stageDown = true →
    Completes (.epochStageDone bad) s fun d => d.epochs.pend = 0 ∧ d.epochs.listed = [] ∧ d.flag 0x11C 0 = true) ∧
  (∀ s : State, s.dev.epochs.pend = 3 → s.dev.epochs.commitAt ≤ s.dev.now → s.dev.epochs.curTag < 2 →
    Completes .commitAt s fun d =>
      d.epochs.curTag = 1 - s.dev.epochs.curTag ∧ (d.slot d.epochs.curTag).num = s.dev.epochs.newNum ∧ d.epochs.draining = true ∧
      d.epochs.pend = 0 ∧ d.epochs.zero = false ∧ d.flag 0x11C 1 = true) ∧
  (∀ s : State, s.dev.epochs.draining = true → s.dev.epochs.zero = false → s.dev.drainCount s.dev.otherTag = 0 →
    Completes .drainCountZero s fun d => d.epochs.zero = true ∧ d = { s.dev with epochs := d.epochs }) ∧
  (∀ s : State, s.dev.epochs.draining = true → s.dev.epochs.zero = true →
    (s.dev.epochs.swept = false → s.dev.epochs.folded = true →
      Completes .bankSweepDone s fun d =>
        d.epochs.swept = true ∧ d.epochs.draining = false ∧ d.slot d.otherTag = {} ∧ d.flag 0x11C 2 = true) ∧
    (s.dev.epochs.swept = false → s.dev.epochs.folded = false →
      Completes .bankSweepDone s fun d => d.epochs.swept = true ∧ d.epochs.draining = true) ∧
    (s.dev.epochs.folded = false → s.dev.epochs.swept = true →
      Completes .routeFoldDone s fun d =>
        d.epochs.folded = true ∧ d.epochs.draining = false ∧ d.slot d.otherTag = {} ∧ d.flag 0x11C 2 = true) ∧
    (s.dev.epochs.folded = false → s.dev.epochs.swept = false →
      Completes .routeFoldDone s fun d => d.epochs.folded = true ∧ d.epochs.draining = true)) ∧
  (∀ s : State, s.dev.epochs.draining = true → s.dev.epochs.commitAt + 100000000 ≤ s.dev.now →
    Completes .epochEndDeadline s fun d => d = s.dev.endItems (1 - s.dev.epochs.curTag)) ∧
  ∀ s : State, s.dev.epochs.draining = true → s.dev.epochs.zero = false → s.dev.epochs.audited = false →
    s.dev.epochs.commitAt + 150000000 ≤ s.dev.now → s.dev.drainCount s.dev.otherTag ≠ 0 →
    Completes .drainAudit s fun d =>
      d.epochs.audited = true ∧ ∃ e : Dev, e.Raised 0xC000 0xC050 ∧ e.flag 0x11C 3 = true ∧
        d = (e.auditTag e.otherTag).setEpochs fun x => { x with audited := true }

/-! ### Service engines -/

/-- R380, R381: operations that compute. -/
def Obligations.ArithmeticOperations : Prop :=
  (∀ (s : State) (c : Instr) (r : AluRow) (m n : Nat), aluRow c = some r → s.dev.Runs r.set r.pos m n r.unit r.op →
    let k := (s.dev.eng r.set r.pos).core
    let w := widthOf n
    let b := k.operandB m n
    let bad := r.usesA && k.bad (mRa m) || r.usesB && b.2
    n.testBit 49 = false ∨ bad = false →
    Completes c s fun d => ∃ cf vf,
      s.dev.Retires d r.set r.pos m false
        (k.result (mRd m) w (r.f w (k.reg (mRa m) % 2 ^ w) (b.1 % 2 ^ w) n % 2 ^ w) bad (n.testBit 49) cf vf)
        (s.dev.eng r.set r.pos).journal ∧
      (r.unit = 1 → r.op = 0 →
        cf = decide (2 ^ w ≤ k.reg (mRa m) % 2 ^ w + b.1 % 2 ^ w) ∧
        vf = decide (toSigned w (r.f w (k.reg (mRa m) % 2 ^ w) (b.1 % 2 ^ w) n) ≠
          toSigned w (k.reg (mRa m) % 2 ^ w) + toSigned w (b.1 % 2 ^ w))) ∧
      (r.unit = 1 → r.op = 1 →
        cf = decide (k.reg (mRa m) % 2 ^ w < b.1 % 2 ^ w) ∧
        vf = decide (toSigned w (r.f w (k.reg (mRa m) % 2 ^ w) (b.1 % 2 ^ w) n) ≠
          toSigned w (k.reg (mRa m) % 2 ^ w) - toSigned w (b.1 % 2 ^ w))) ∧
      d = { s.dev with sets := d.sets, cnts := d.cnts, fresh := d.fresh }) ∧
  (∀ (s : State) (set : Fin 64) (pos : Fin 9) (m n : Nat), s.dev.Runs set pos m n 2 3 →
    let k := (s.dev.eng set pos).core
    n.testBit 49 = false ∨ k.bad (mRa m) = false →
    Completes (.engExt set pos false) s fun d => ∃ cf vf,
      s.dev.Retires d set pos m false
        (k.result (mRd m) (widthOf n) (bits (k.reg (mRa m)) (bits n 48 43 + bits n 42 37) (bits n 48 43) % 2 ^ widthOf n)
          (k.bad (mRa m)) (n.testBit 49) cf vf) (s.dev.eng set pos).journal) ∧
  (∀ (s : State) (set : Fin 64) (pos : Fin 9) (m n : Nat), s.dev.Runs set pos m n 2 4 →
    let k := (s.dev.eng set pos).core
    let b := k.operandB m n
    let lo := bits n 48 43
    let len := bits n 42 37 + 1
    n.testBit 49 = false ∨ (k.bad (mRa m) || b.2) = false →
    Completes (.engIns set pos false) s fun d => ∃ v cf vf,
      (∀ i, i < widthOf n → v.testBit i =
        if lo ≤ i ∧ i < lo + len then b.1.testBit (i - lo) else (k.reg (mRa m)).testBit i) ∧
      s.dev.Retires d set pos m false (k.result (mRd m) (widthOf n) (v % 2 ^ widthOf n) (k.bad (mRa m) || b.2) (n.testBit 49) cf vf)
        (s.dev.eng set pos).journal) ∧
  ∀ (s : State) (set : Fin 64) (pos : Fin 9) (m n : Nat), s.dev.Runs set pos m n 0 0 →
    Completes (.engNop set pos false) s fun d =>
      s.dev.Retires d set pos m false (s.dev.eng set pos).core (s.dev.eng set pos).journal ∧
      d = { s.dev with sets := d.sets, cnts := d.cnts }

/-- R379, R383, R391: flags, and the traps that any operation can meet. -/
def Obligations.FlagsAndTrapsOfOperations : Prop :=
  (∀ (s : State) (set : Fin 64) (pos : Fin 9) (m n : Nat), s.dev.Runs set pos m n 1 8 →
    let k := (s.dev.eng set pos).core
    let w := widthOf n
    let a := k.reg (mRa m) % 2 ^ w
    let b := (k.operandB m n).1 % 2 ^ w
    let v := (a + 2 ^ w - b) % 2 ^ w
    n.testBit 49 = false ∨ (k.bad (mRa m) || (k.operandB m n).2) = false →
    Completes (.engCmp set pos false) s fun d =>
      s.dev.Retires d set pos m false
        (if n.testBit 49 then
          { k with z := decide (a = b), n := v.testBit (w - 1), c := decide (a < b),
                   v := decide (toSigned w v ≠ toSigned w a - toSigned w b) }
         else k) (s.dev.eng set pos).journal ∧
      d = { s.dev with sets := d.sets, cnts := d.cnts }) ∧
  (∀ (s : State) (c : Instr) (r : AluRow) (m n : Nat), aluRow c = some r → s.dev.Runs r.set r.pos m n r.unit r.op →
    n.testBit 49 = true →
    (r.usesA && (s.dev.eng r.set r.pos).core.bad (mRa m) || r.usesB && ((s.dev.eng r.set r.pos).core.operandB m n).2) = true →
    Completes c s fun d => d = s.dev.trap r.set r.pos 0x05) ∧
  (∀ (s : State) (set : Fin 64) (pos : Fin 9) (bad : Bool), (s.dev.eng set pos).item.isSome = true →
    (s.dev.eng set pos).wait = false → (s.dev.eng set pos).seqDue = false → Dev.engState (s.dev.eng set pos) pos ≠ 3 →
    (s.dev.eng set pos).count < 1024 →
    let inj := s.dev.flag (Dev.setBase set + 0x0C) 0
    bad = true ∨ inj = true →
    Completes (.engNop set pos bad) s fun d =>
      d = (if inj then s.dev.clrBit (Dev.setBase set + 0x0C) 0 else s.dev).trap set pos 0x04 (inj && !bad)) ∧
  ∀ (d : Dev) (set pos code : Nat) (inj : Bool),
    (d.trapFault set pos code inj).Raised (srcEng set pos) (0x8000 + code)

/-- R381, R385, R388: the units MEM, PKT, CRC and TIME. -/
def Obligations.MemoryPacketAndTimeOperations : Prop :=
  ∀ (s : State) (set : Fin 64) (pos : Fin 9) (m n u o : Nat), s.dev.Canonical → s.dev.Runs set pos m n u o →
    let e := s.dev.eng set pos
    let k := e.core
    let b := k.operandB m n
    let a := (k.reg (mRa m) + b.1) % 2 ^ 64
    let w := widthOf n
    let bytes := w / 8
    let clean := k.bad (mRa m) = false ∧ b.2 = false
    let rd (v : Nat) (bad : Bool) : Core := k.set (mRd m) (v % 2 ^ w) bad
    let plain := n.testBit 49 = false
    let words := (e.item.map (·.words)).getD []
    (u = 3 → o = 0 → plain → clean → a + bytes ≤ 0x80000 →
      Completes (.engLd set pos false) s fun d =>
        s.dev.Retires d set pos m true (rd (ofLE (s.dev.memSeen set pos a bytes)) (s.dev.memPoison set pos a bytes)) e.journal) ∧
    (u = 3 → o = 1 → plain → clean → a + bytes ≤ 128 →
      Completes (.engLdi set pos false) s fun d =>
        s.dev.Retires d set pos m false (rd (ofLE (slice (wordsToLE words) a bytes)) false) e.journal) ∧
    (u = 3 → o = 2 → plain → clean → a + bytes ≤ 128 →
      Completes (.engLdc set pos false) s fun d =>
        s.dev.Retires d set pos m false (rd (ofLE (slice (wordsToLE k.buf) a bytes)) false) e.journal) ∧
    (u = 3 → o = 3 → clean → a + bytes ≤ 128 →
      Completes (.engStc set pos false) s fun d =>
        s.dev.Retires d set pos m false
          { k with buf := leWords 32 (patch (wordsToLE k.buf) a (leBytes bytes (k.reg (mRd m)))) } e.journal) ∧
    (u = 3 → o = 4 ∨ o = 5 → clean → k.bad (mRd m) = false → a + bytes ≤ 0x80000 → storeForbidden a bytes = false →
      e.journal.length < 16 →
      let x := k.reg (mRd m) % 2 ^ w
      (o = 4 → Completes (.engSt set pos false) s fun d =>
        s.dev.Retires d set pos m false k (e.journal ++ [.st a bytes x]) ∧ (d.set set).mem = (s.dev.set set).mem) ∧
      (o = 5 → Completes (.engAddc set pos false) s fun d =>
        s.dev.Retires d set pos m false k (e.journal ++ [.addc a bytes x]) ∧ (d.set set).mem = (s.dev.set set).mem)) ∧
    (∀ h g c, u = 4 → k.cur = some (h, g) → s.dev.halfOn (Dev.halfAddr h) = true → s.dev.chain? h g = some c →
      (o = 0 → plain → clean → a + bytes ≤ c.bytes.length → a + bytes ≤ 16383 →
        Completes (.engPld set pos false) s fun d =>
          s.dev.Retires d set pos m true
            { (rd (ofBE (slice c.bytes a bytes)) c.poison) with s := 0, pktEnd := false } e.journal) ∧
      (o = 1 → clean → c.refcnt = 1 → c.holder = set + 1 → a + bytes ≤ c.bytes.length → a + bytes ≤ 16383 →
        Dev.bricksFor c.bytes.length ≤ c.bricks.length →
        Completes (.engPst set pos false) s fun d =>
          s.dev.Retires d set pos m true { k with s := 0 } e.journal ∧
          (d.chain? h g).map (·.bytes) = some (patch c.bytes a (beBytes bytes (k.reg (mRd m))))) ∧
      (o = 2 → plain →
        Completes (.engPlen set pos false) s fun d =>
          s.dev.Retires d set pos m false { (rd c.bytes.length false) with s := 0 } e.journal)) ∧
    (u = 8 → o = 0 → plain → k.bad (mRd m) = false → k.reg (mRd m) + b.1 ≤ 0x80000 →
      Completes (.engCrc set pos false) s fun d =>
        s.dev.Retires d set pos m true
          (rd (crcOver polyC (k.reg (mRa m) % 2 ^ 32) (s.dev.memSeen set pos (k.reg (mRd m)) b.1) ^^^ 0xFFFFFFFF)
            (k.bad (mRa m) || b.2 || s.dev.memPoison set pos (k.reg (mRd m)) b.1)) e.journal) ∧
    (u = 8 → o = 1 → plain →
      Completes (.engHash set pos false) s fun d =>
        s.dev.Retires d set pos m false (rd (s.dev.ctxHash (keyOfWords k.buf).1 (keyOfWords k.buf).2) false) e.journal) ∧
    (u = 9 → o = 0 → mRd m ≠ 0 → mRd m ≠ 31 →
      Completes (.engRdw set pos false) s fun d =>
        s.dev.Retires d set pos m false ((k.set (mRd m) s.dev.wallSec false).set (mRd m + 1) s.dev.wallNs false) e.journal) ∧
    (u = 9 → o = 1 → plain →
      Completes (.engRdi set pos false) s fun d => s.dev.Retires d set pos m false (rd s.dev.now false) e.journal) ∧
    (u = 9 → s.dev.flag (Dev.setBase set + 0x10) 4 = true → k.bad (mRa m) = false → e.journal.length < 16 →
      let v := k.reg (mRa m) % 2 ^ 32
      (o = 2 → Completes (.engWservo set pos false) s fun d =>
        s.dev.Retires d set pos m false k (e.journal ++ [.wservo v]) ∧ d.time = s.dev.time) ∧
      (o = 3 → Completes (.engWadj set pos false) s fun d =>
        s.dev.Retires d set pos m false k (e.journal ++ [.wadj v]) ∧ d.time = s.dev.time) ∧
      (o = 4 → Completes (.engWstep set pos false) s fun d =>
        s.dev.Retires d set pos m false k (e.journal ++ [.wstep v]) ∧ d.time = s.dev.time))

/-- R381, R388: the units CTX, CHAIN and QUEUE. -/
def Obligations.ContextChainAndQueueOperations : Prop :=
  ∀ (s : State) (set : Fin 64) (pos : Fin 9) (m n u o : Nat), s.dev.Canonical → s.dev.Runs set pos m n u o →
    let e := s.dev.eng set pos
    let k := e.core
    let b := k.operandB m n
    let x := k.reg (mRa m)
    let i := bits x 23 0
    let key := keyFor s.dev set pos k m
    let home := s.dev.ctxHome key.1 key.2
    let clean := k.bad (mRa m) = false ∧ b.2 = false
    let plain := n.testBit 49 = false
    let room := e.journal.length < 16
    let ctxFree := s.dev.ctxCheck i (bits x 31 24) = none ∧ heldByOther s.dev set pos i = false ∧ keeperOn s.dev i = true
    let fits := s.dev.flag (Dev.setBase set + 0x0C) 1 = false
    (∀ j d', u = 5 → o = 0 → plain → keeperOn s.dev home = true → s.dev.findCtx key.1 key.2 false = (d', .ok j) →
      Completes (.engCtxFind set pos false false) s fun d =>
        s.dev.Retires d set pos m true
          { (k.set (mRd m) (handleOf j (d'.ctx j).gen % 2 ^ widthOf n) false) with s := 0, buf := (d'.ctx j).toWords } e.journal) ∧
    (u = 5 → o = 1 → clean → keeperOn s.dev i = true → s.dev.badCtx.contains i = false → s.dev.ctxCheck i (bits x 31 24) = none →
      Completes (.engCtxRead set pos false false) s fun d =>
        s.dev.Retires d set pos m true { k with s := 0, buf := (s.dev.ctx i).toWords } e.journal) ∧
    (u = 5 → o = 2 → clean → room → fits → ctxFree → bits n 42 37 ≤ 7 → bits n 48 43 + bits n 42 37 ≤ 31 →
      Completes (.engCtxWrite set pos false) s fun d =>
        s.dev.Retires d set pos m true { k with s := 0 }
          (e.journal ++ [.ctxWrite i (bits x 31 24) (bits n 48 43) ((k.buf.drop (bits n 48 43)).take (bits n 42 37 + 1))]) ∧
        d.ctx i = s.dev.ctx i) ∧
    (u = 5 → o = 4 → clean → room → fits → ctxFree →
      Completes (.engCtxFree set pos false) s fun d =>
        s.dev.Retires d set pos m true { k with s := 0 } (e.journal ++ [.ctxFree i (bits x 31 24)]) ∧ d.ctx i = s.dev.ctx i) ∧
    (∀ j, u = 5 → o = 3 → plain → room → fits → keeperOn s.dev home = true → s.dev.keyHolder key.1 key.2 = none →
      heldByOther s.dev set pos home = false → s.dev.placeBad key.1 key.2 = false → s.dev.placeFor key.1 key.2 = .ok j →
      Completes (.engCtxCreate set pos false) s fun d =>
        let gen := ((s.dev.ctx j).gen + 1) % 256
        ∃ image : Ctx, image.key = key.2 ∧ image.tpl = key.1 ∧ image.gen = gen ∧
          s.dev.Retires d set pos m true
            { (k.set (mRd m) (handleOf j gen % 2 ^ widthOf n) false) with s := 0 } (e.journal ++ [.ctxCreate j image]) ∧
          d.ctx j = s.dev.ctx j) ∧
    (u = 6 → o = 0 → k.bad (mRa m) = false →
      Completes (.engChainSel set pos false) s fun d =>
        s.dev.Retires d set pos m false { k with cur := some (nameChain x) } e.journal) ∧
    (∀ d' h g, u = 6 → o = 1 → plain → b.2 = false → room → fits → b.1 ≤ 128 → s.dev.halfOn (set / 32) = true →
      s.dev.allocN (set / 32) 2 (max 1 b.1) .new (set + 1) 0xFF [] = (d', .ok (h, g)) →
      d'.flag (Dev.setBase set + 0x0C) 1 = false → d'.eng set pos = e →
      Completes (.engChainAlloc set pos false) s fun d =>
        s.dev.Retires d set pos m true
          { (k.set (mRd m) (chainName h g % 2 ^ widthOf n) false) with s := 0 } (e.journal ++ [.chainAlloc h g]) ∧
        d.chain? h g = d'.chain? h g) ∧
    (∀ h g d' c, u = 6 → clean → room → fits → nameChain x = (h, g) → s.dev.halfOn (Dev.halfAddr h) = true →
      (o = 2 → s.dev.judgeHolder (set + 1) h g true = (d', some c) → c.refcnt < 255 → d' = s.dev →
        Completes (.engChainShare set pos false) s fun d =>
          s.dev.Retires d set pos m true { k with s := 0 } (e.journal ++ [.chainShare h g]) ∧ d.chain? h g = s.dev.chain? h g) ∧
      (s.dev.judgeHolder (set + 1) h g false = (d', some c) → d' = s.dev →
        (o = 3 → Completes (.engChainRelease set pos false) s fun d =>
          s.dev.Retires d set pos m true { k with s := 0 } (e.journal ++ [.chainRelease h g]) ∧ d.chain? h g = s.dev.chain? h g) ∧
        (o = 4 → Completes (.engChainFree set pos false) s fun d =>
          s.dev.Retires d set pos m true { k with s := 0 } (e.journal ++ [.chainFree h g]) ∧ d.chain? h g = s.dev.chain? h g) ∧
        (o = 5 → Dev.isHolder b.1 = true → Completes (.engChainGive set pos false) s fun d =>
          s.dev.Retires d set pos m true { k with s := 0 } (e.journal ++ [.chainGive h g (b.1 % 256)]) ∧
          d.chain? h g = s.dev.chain? h g))) ∧
    (∀ h g c d' w, u = 7 → o = 0 → k.bad (mRa m) = false → x < 65536 → room →
      (x < 55296 → allowed s.dev set 3 = true) → (63488 ≤ x → allowed s.dev set 2 = true) → k.cur = some (h, g) →
      s.dev.halfOn (Dev.halfOfQueue x) = true → s.dev.halfOn (Dev.halfAddr h) = true →
      (55296 ≤ x → x < 63488 → s.dev.isOn (38 + setOfQueue x) = true) → s.dev.judgeHolder (set + 1) h g false = (s.dev, some c) →
      s.dev.placeHeld (match ownPacket s.dev set pos k with
        | some p => { p with mlen := c.bytes.length }
        | none => originDesc s.dev.epochs.curTag s.dev.now 0 c.bytes.length h g) x true = (d', .ok w) → d'.eng set pos = e →
      Completes (.engEnq set pos false) s fun d =>
        s.dev.Retires d set pos m true { k with s := 0 }
          (e.journal ++ [.enq x w (h, g) (ownPacket s.dev set pos k).isSome])) ∧
    (∀ h g c, u = 7 → o = 1 → k.bad (mRa m) = false → allowed s.dev set 1 = true → room → x + 32 ≤ 0x80000 →
      s.dev.memPoison set pos x 32 = false → k.cur = some (h, g) →
      let w := s.dev.block set pos x 8
      let own := ownPacket s.dev set pos k
      let ret := (word w 0).testBit 31
      let name := if bits (word w 0) 28 24 = 31 then (own.map (·.ledger)).getD 0 else bits (word w 0) 28 24
      injectOk w = true → (ret = true → own.isSome = true) → s.dev.courseOn name = true → s.dev.halfOn (Dev.halfAddr h) = true →
      s.dev.judgeHolder (set + 1) h g false = (s.dev, some c) → s.dev.injectRoom name = true →
      Completes (.engQueueInject set pos false) s fun d => ∃ y : Desc,
        y.msrc = bits (word w 1) 17 16 ∧ y.tsSet = word w 4 ∧
        s.dev.Retires d set pos m true { k with s := 0 } (e.journal ++ [.inject name (bits (word w 0) 9 0) y ret])) ∧
    (∀ d' v, u = 7 → o = 2 → clean → allowed s.dev set 0 = true → room → x + 128 ≤ 0x80000 → 55296 ≤ b.1 → b.1 < 63488 →
      s.dev.memPoison set pos x 128 = false → s.dev.isOn (38 + setOfQueue b.1) = true → s.dev.halfOn (Dev.halfOfQueue b.1) = true →
      let w := s.dev.block set pos x 32
      let tag := s.dev.epochs.curTag
      let sent := withBits (word w 0) 27 27 tag :: (s.dev.set set).sends ::
        ((s.dev.slot tag).num <<< 16 + ((set : Nat) + 1) <<< 8 + word w 2 % 256) :: w.drop 3
      s.dev.itemPlace b.1 0 0 sent = (d', .ok v) → d'.eng set pos = e →
      Completes (.engSend set pos false) s fun d => ∃ y : Waiting,
        y.item = some sent ∧ y.brk = some v ∧
        s.dev.Retires d set pos m true { k with s := 0 } (e.journal ++ [.send b.1 y])) ∧
    (u = 7 → o = 3 → k.bad (mRa m) = false → room → x + 16 ≤ 0x80000 → s.dev.memPoison set pos x 16 = false →
      let w := s.dev.block set pos x 4
      Completes (.engTarm set pos false) s fun d =>
        s.dev.Retires d set pos m false k
          (e.journal ++ [.tarm (bits (word w 0) 11 0) (word w 1) (bits (word w 2) 26 24) (bits (word w 2) 23 20) (word w 3)]) ∧
        (d.set set).timers = (s.dev.set set).timers) ∧
    (u = 7 → o = 4 → k.bad (mRa m) = false → room → x < 4096 →
      Completes (.engTcancel set pos false) s fun d =>
        s.dev.Retires d set pos m false k (e.journal ++ [.tcancel x]) ∧ (d.set set).timers = (s.dev.set set).timers)

/-- R378, R386, R387, R391, R397, R403, R405. -/
def Obligations.SequencingAndItems : Prop :=
  (∀ (s : State) (set : Fin 64) (pos : Fin 9) (m n : Nat) (r : Running), s.dev.Sequences set pos m n r →
    let e := s.dev.eng set pos
    let goes (d : Dev) (pc : Nat) (stack : List Nat) : Prop :=
      (d.eng set pos).core = { e.core with pc := pc, stack := stack } ∧ (d.eng set pos).seqDue = false ∧
        (d.eng set pos).journal = e.journal ∧ d = { s.dev with sets := d.sets }
    (mSeq m = 1 → Completes (.engJump set pos) s fun d => goes d (mTarget m) e.core.stack) ∧
    (mSeq m = 2 → Completes (.engBranch set pos) s fun d =>
      goes d (if Dev.condHolds e.core (!e.intr.isEmpty) (mCond m) != m.testBit 54 then mTarget m else e.core.pc + 1) e.core.stack) ∧
    (mSeq m = 3 → e.core.stack.length < 8 →
      Completes (.engCall set pos) s fun d => goes d (mTarget m) ((e.core.pc + 1) :: e.core.stack)) ∧
    (mSeq m = 3 → 8 ≤ e.core.stack.length → Completes (.engCall set pos) s fun d => d = s.dev.trap set pos 0x08) ∧
    (∀ a l, mSeq m = 4 → e.core.stack = a :: l → Completes (.engReturn set pos) s fun d => goes d a l) ∧
    (mSeq m = 4 → e.core.stack = [] → Completes (.engReturn set pos) s fun d => d = s.dev.trap set pos 0x01) ∧
    (∀ t, mSeq m = 5 → (s.dev.progOfItem set r.words).jump (mTarget m % 16) (e.core.reg (mRa m) % 16) = some t →
      Completes (.engDispatch set pos) s fun d => goes d t e.core.stack) ∧
    (mSeq m = 5 → (s.dev.progOfItem set r.words).jump (mTarget m % 16) (e.core.reg (mRa m) % 16) = none →
      Completes (.engDispatch set pos) s fun d => d = s.dev.trap set pos 0x01) ∧
    (mSeq m = 6 → bits (mImm m) 15 14 = 0 → e.core.bad (mRa m) = false → e.journal = [] → r.trapped = none →
      Completes (.engEndDone set pos false) s fun d => d = s.dev.finishItem set pos 0 0 (e.core.reg (mRa m) % 2 ^ 32)) ∧
    (mSeq m = 6 → bits (mImm m) 15 14 = 1 → e.core.bad (mRa m) = false → r.trapped = none →
      Completes (.engEndFailed set pos) s fun d =>
        d = ((s.dev.undoJournal set e.journal).setEng set pos fun x => { x with journal := [] }).finishItem set pos 1
          (max 0x80 (bits (mImm m) 7 0)) (e.core.reg (mRa m) % 2 ^ 32))) ∧
  (∀ (s : State) (set : Fin 64) (pos : Fin 9), s.dev.Canonical →
    let e := s.dev.eng set pos
    (∀ m n, s.dev.fetch set pos = .word m n → mSafe m = true → e.atSafe = false → e.wait = false → e.seqDue = false →
      Dev.engState e pos ≠ 3 → (∀ mid, s.dev.breaks set pos mid = false) → e.journal = [] → e.intr = [] →
      Completes (.safePoint set pos false) s fun d =>
        d.eng set pos = { e with ckpt := e.core, count := 0, badJrnl := none, atSafe := true } ∧ d = { s.dev with sets := d.sets }) ∧
    (∀ m n j, s.dev.fetch set pos = .word m n → mSafe m = true → e.atSafe = false → e.wait = false → e.seqDue = false →
      Dev.engState e pos ≠ 3 → (∀ mid, s.dev.breaks set pos mid = false) → e.badJrnl = none → e.journal = [j] → e.intr = [] →
      Completes (.safePoint set pos false) s fun d =>
        d = (s.dev.commitJournal set pos).setEng set pos fun x => { x with ckpt := x.core, count := 0, badJrnl := none, atSafe := true }) ∧
    (e.wait = true → e.item.isSome = true → Completes (.engineReply set pos) s fun d =>
      d.eng set pos = { e with wait := false } ∧ d = { s.dev with sets := d.sets }) ∧
    (1024 ≤ e.count → e.item.isSome = true → Completes (.watchdogTrap set pos) s fun d => d = s.dev.trap set pos 0x02) ∧
    (∀ r, e.item = some r → r.start + r.limit * 1000 ≤ s.dev.now →
      Completes (.itemTimeTrap set pos) s fun d => d = s.dev.trap set pos 0x07) ∧
    (∀ t, Map.get? e.intr 2 = some t → t + 10000 ≤ s.dev.now →
      Completes (.interruptDeadline set pos) s fun d => d = s.dev.killItem set pos 0x22) ∧
    (Map.has e.intr 0 = true → e.item = none → e.halted = false → ∀ k, s.dev.sparePos set = some k → k ≠ pos →
      Completes (.engineMigration set pos true) s fun d =>
        Dev.engState (d.eng set k) k = 0 ∧ Dev.engState (d.eng set pos) pos = 6 ∧ d.flag (Dev.setBase set + 8) 1 = true)) ∧
  (∀ (s : State) (set : Fin 64) (pos pri cls pc : Nat) (q : Nat) (w : Waiting), s.dev.Canonical →
    let ws := w.item.getD []
    s.dev.setReady set = true → s.dev.flag (Dev.setBase set) 0 = true → s.dev.idleEngine set = some pos →
    s.dev.nextItem set = some (q, pri, cls, w) → w.nb = 1 → w.brk = none →
    (s.dev.progOfItem set ws).entryOf cls = some pc → Dev.tokenUnit ≤ (s.dev.tokensNow set).credit →
    Completes (.itemStart set) s fun d =>
      (d.eng set pos).core = Dev.startCore ws none pc ∧ (d.eng set pos).ckpt = (d.eng set pos).core ∧ (d.eng set pos).journal = [] ∧
      (d.eng set pos).item = some { words := ws, desc := none, start := s.dev.now, limit := s.dev.fld (Dev.setBase set) 31 18 } ∧
      (d.set set).tokens.credit = (s.dev.tokensNow set).credit - Dev.tokenUnit) ∧
  ∀ (s : State) (set : Fin 64) (t : Fin 4096) (x : Timer) (e : Dev), Map.get? (s.dev.set set).timers t = some x →
    x.shadow = false → x.deadline ≤ s.dev.now → s.dev.isOn (38 + set) = true → s.dev.flag (Dev.setBase set) 1 = false →
    let q := dispatchQueue set x.cls x.pri
    let id := s.dev.nextItemId (0x100 + set)
    let late := min (2 ^ 32 - 1) ((s.dev.now - x.deadline) / 1000)
    id.1.queueItem q (id.1.itemHead 4 s.dev.epochs.curTag x.pri x.cls 0 id.2 (set + 1) 0 none ++ [x.cookie, 0, t, late] ++
      List.replicate 24 0) = (e, none) →
    ((e.setSet set fun y => { y with timers := Map.erase y.timers t }).refuseIfDown q).flag (Dev.setBase set) 1 = false →
    Completes (.timerFire set t) s fun d =>
      d = (e.setSet set fun y => { y with timers := Map.erase y.timers t }).refuseIfDown q

/-! ### Mailboxes and their commands -/

/-- R482: the order of CANCEL and the take decides. -/
def Obligations.CancelActsOnlyInPosted : Prop :=
  (∀ (s : State) (m : Fin 8), s.dev.bar0 = true → (s.dev.mbx m).st = 1 →
    Completes (.mbxCancel m) s fun d =>
      (d.mbx m).st = 3 ∧
      (d.mbx m).rsp.getD 1 0 = 0x0B * 2 ^ 16 + 2 * 2 ^ 8 + 8 * s.dev.stw.active ∧
      (s.dev.stw.active < 2 → bits ((d.mbx m).rsp.getD 1 0) 31 16 = 0x0B ∧ bits ((d.mbx m).rsp.getD 1 0) 15 8 = 2 ∧
        bits ((d.mbx m).rsp.getD 1 0) 7 6 = 0)) ∧
  ∀ (s : State) (m : Fin 8), (s.dev.mbx m).st ≠ 1 → exec (.mbxCancel m) s = .next s

/-- R479 to R481, R486, R492. -/
def Obligations.MailboxHostSide : Prop :=
  ∀ (s : State) (m : Fin 8), s.dev.Canonical →
    let x := s.dev.mbx m
    let ev := Dev.mbxBase m + 0x0C
    (s.dev.bar0 = true →
      (∀ tag, x.st ≠ 1 → x.st ≠ 2 → Completes (.mbxDoorbell m tag) s fun d =>
        (d.mbx m).st = 1 ∧ (d.mbx m).door = tag.toNat ∧ (d.mbx m).postedAt = s.dev.now ∧ d = { s.dev with mbxs := d.mbxs }) ∧
      (∀ tag, x.st = 1 ∨ x.st = 2 → Completes (.mbxDoorbell m tag) s fun d =>
        d.flag ev 2 = true ∧ d = { s.dev with regs := d.regs }) ∧
      (∀ i v, x.st ≠ 1 → x.st ≠ 2 → Map.sorted x.req = true →
        Completes (.mbxRequestAreaWrite m i v) s fun d =>
          Map.getD (d.mbx m).req i 0 = v ∧ (d.mbx m).st = x.st ∧ d = { s.dev with mbxs := d.mbxs }) ∧
      (∀ i v, x.st = 1 ∨ x.st = 2 → Completes (.mbxRequestAreaWrite m i v) s fun d =>
        d.flag ev 3 = true ∧ d = { s.dev with regs := d.regs }) ∧
      (x.st = 3 → Completes (.mbxAck m) s fun d => (d.mbx m).st = 0 ∧ d = { s.dev with mbxs := d.mbxs }) ∧
      ∀ v : BitVec 16, x.held = [] → v.toNat < s.dev.cringSize m → s.dev.isOn 1 = true →
        Completes (.mbxCringTailWrite m v) s fun d => d.fld (Dev.mbxBase m + 0x1C) 15 0 = v.toNat) ∧
    (x.st = 1 → x.late = false → x.postedAt + 10000000 ≤ s.dev.now →
      Completes (.mbxNotTaken m) s fun d => d.Raised (0xD040 + m) 0xD040 ∧ d.flag ev 6 = true ∧ (d.mbx m).st = 1) ∧
    ∀ r, x.st = 2 → x.stalled = false → x.run = some r → r.takenAt + r.wd * 1000000 ≤ s.dev.now →
      Completes (.mbxStalled m) s fun d => d.Raised (0xD040 + m) 0xD041 ∧ d.flag ev 7 = true ∧ (d.mbx m).st = 2

/-- R481 to R490: what comes before a command's own meaning. -/
def Obligations.MailboxChecks : Prop :=
  (∀ (s : State) (c : Instr) (m code : Nat) (slow : Bool), mailboxRow c = some (m, code, slow) → s.dev.stewardRuns = false →
    exec c s = .next s) ∧
  (∀ (s : State) (c : Instr) (m code : Nat) (r : Req), mailboxRow c = some (m, code, true) → s.dev.Waits m code r →
    Completes c s fun d => (d.mbx m).st = 2 ∧ (d.mbx m).run = some r ∧ d = { s.dev with mbxs := d.mbxs }) ∧
  (∀ (s : State) (c : Instr) (m code st why : Nat) (r : Req), mailboxRow c = some (m, code, false) → s.dev.Waits m code r →
    s.dev.reqRefusal r = some (st, why) → Completes c s fun d => d.Answers m r st why 0 []) ∧
  (∀ (s : State) (c : Instr) (m code : Nat) (r : Req) (p : Past), s.dev.Canonical → mailboxRow c = some (m, code, false) →
    s.dev.Waits m code r → s.dev.reqRefusal r = none → r.retry = true →
    (s.dev.mbx m).tickets.find? (fun t => t.req.tag = r.tag) = none → (s.dev.mbx m).past.find? (fun p => p.tag = r.tag) = some p →
    Completes c s fun d =>
      (d.mbx m).st = 3 ∧ (d.mbx m).rsp = [p.head.getD 0 0, withBits (p.head.getD 1 0) 5 5 1, 0] ++ p.head.drop 3) ∧
  (∀ (s : State) (c : Instr) (m code : Nat) (r : Req), s.dev.Canonical → mailboxRow c = some (m, code, false) → s.dev.Waits m code r →
    s.dev.reqRefusal r = none → r.retry = false →
    s.dev.groupBusy m code = true ∨ (op? code).any (·.async) = true ∧ code ≠ 0x0701 ∧ s.dev.ticketRoom m = false →
    Completes c s fun d => d.Answers m r 1 0 0 []) ∧
  ∀ (d : Dev) (m : Fin 8) (r : Req), d.Canonical →
    let e := d.deferred m r
    (e.mbx m).st = 3 ∧ (e.mbx m).run = none ∧ (e.mbx m).count = (d.nextTicket m).2 ∧
    ∃ t ∈ (e.mbx m).tickets, t.num = (d.nextTicket m).2 ∧ t.req = r ∧ t.phase = 1

/-- Groups 0x01, 0x02 and the tile commands of 0x03. -/
def Obligations.DevicePortAndTileCommands : Prop :=
  ∀ (s : State) (m : Fin 8) (r : Req), s.dev.Canonical →
    let i := ifaceOf r
    let p := s.dev.port i
    let ws : List Nat := [p.st.code, p.seq / 2 ^ 32 % 2 ^ 16, p.seq % 2 ^ 32]
    let h := r.fld 0 9 0
    (s.dev.Posts m 0x0101 r → Completes (.devInfo m false) s fun d =>
      d.Answers m r 0 0 2
        ([s.dev.boot.image.version % 2 ^ 32, s.dev.boot.image.svn,
          s.dev.fld 0x20C 28 28 <<< 4 + s.dev.stw.active <<< 3 + (if s.dev.stage = 4 then 3 else s.dev.stw.spare)]
          ++ two s.dev.boot.serial ++ [s.dev.peek 0])) ∧
    (∀ t y, s.dev.Posts m 0x0102 r → t = (r.fld 0 31 29, r.fld 0 28 0) → s.dev.ticket? t = y →
      Completes (.devCancel m false) s fun d =>
        match y with
        | none => d.Answers m r 0x0102 0 0 []
        | some y => if y.phase = 0 then d.Answers m r 0 0 2 [] ∧ d.ticket? t = none else d.Answers m r 0x0101 0 0 []) ∧
    (s.dev.Posts m 0x0201 r → s.dev.inMode i = true → p.st ≠ .withdrawn →
      (r.flag 0 31 = true ∨ s.dev.partnerServes i = true →
        Completes (.portWithdraw m false) s fun d => d.Answers m r 0 0 2 ws) ∧
      (r.flag 0 31 = false → s.dev.partnerServes i = false →
        Completes (.portWithdraw m false) s fun d => d.Answers m r 5 0 0 [] ∧ (d.port i).st = p.st)) ∧
    (s.dev.Posts m 0x0202 r → s.dev.inMode i = true → p.st = .withdrawn → moveHolds s.dev i = false → s.dev.pwrState ≤ 1 →
      Completes (.portReturn m false) s fun d => d.Answers m r 0 0 2 []) ∧
    (s.dev.Posts m 0x0203 r → i < 48 → p.st = .quarantined → p.holdFrom + s.dev.quarHold i ≤ s.dev.now → p.trigHit = false →
      Completes (.portRelease m false) s fun d => d.Answers m r 0 0 2 [msSince s.dev p.since, 1] ∧ (d.port i).st = .admitted) ∧
    (s.dev.Posts m 0x0204 r → s.dev.inMode i = true → r.fld 0 15 8 ≠ 0 → i + r.fld 0 15 8 ≤ 96 →
      Completes (.portStatus m false) s fun d =>
        d.Answers m r 0 0 2 ((List.range (r.fld 0 15 8)).flatMap fun k =>
          let q := s.dev.port (i + k)
          if s.dev.inMode (i + k) then
            [s.dev.peek (portBase (i + k) + 4), q.seq / 2 ^ 32 % 2 ^ 16, q.seq % 2 ^ 32, msSince s.dev q.since]
          else [0, 0, 0, 0])) ∧
    (∀ k, s.dev.Posts m 0x0301 r → scopeOk (r.fld 0 31 28) (r.fld 0 7 0) = true → 228 ≤ r.word 1 → r.word 1 ≤ 536870912 →
      (r.word 1 - 224) % 4 = 0 → ((List.range 1024).find? fun h => !Map.has s.dev.tiles h) = some k →
      s.dev.regionPages (regionOf (r.fld 0 31 28)) + (r.word 1 + 4095) / 4096 ≤ 131072 →
      Completes (.tileOpen m false) s fun d =>
        d.Answers m r 0 0 2 [k, (r.word 1 + 4095) / 4096, k, 0] ∧
        d.tiles = Map.put s.dev.tiles k
          { kind := r.fld 0 31 28, scope := r.fld 0 7 0, pages := (r.word 1 + 4095) / 4096 }) ∧
    (∀ x, s.dev.Posts m 0x0302 r → Map.get? s.dev.tiles h = some x → x.st = 0 → x.sealing = false → s.dev.hbmOn = true →
      Completes (.tileSeal m false) s fun d => d = (s.dev.deferred m r).setTile h fun x => { x with sealing := true }) ∧
    (∀ x, s.dev.Posts m 0x0303 r → Map.get? s.dev.tiles h = some x → x.st ≠ 2 → x.st ≠ 3 → x.sealing = false →
      Completes (.tileFree m false) s fun d => d.Answers m r 0 0 2 [] ∧ d.tiles = Map.erase s.dev.tiles h) ∧
    (s.dev.Posts m 0x0304 r →
      let l := s.dev.tiles.filter fun e => h ≤ e.1
      let n := Dev.Reply.fit r 2 4 l.length
      Completes (.tileList m false false) s fun d =>
        d.Answers m r 0 (if n < l.length then 0x10 else 0) 2
          ([n, (l[n]?.map (·.1)).getD 1024] ++ (l.take n).flatMap fun e =>
            [e.2.st <<< 29 + e.2.kind <<< 24 + e.2.scope <<< 16 + e.1, if e.2.st = 0 then 0 else e.2.tileId, e.2.pages,
             if e.2.st = 0 then 0 else e.2.svn])) ∧
    ∀ (k : Fin 1024) (x : Tile), Map.get? s.dev.tiles k = some x → x.sealing = true → s.dev.hbmOn = true →
      (s.dev.sealCheck x false).1 = 0 → (s.dev.sealCheck x false).2 = none →
      Completes (.tileSealDone k none) s fun d =>
        (Map.get? d.tiles k).map (fun y => (y.st, y.sealing, y.tileId, y.svn)) = some (1, false, x.word 4, x.word 7)

/-- Groups 0x03 to 0x06. -/
def Obligations.EpochTableAndSetCommands : Prop :=
  ∀ (s : State) (m : Fin 8) (r : Req), s.dev.Canonical →
    let i := r.fld 0 7 0
    let c := s.dev.physical (r.fld 0 27 24)
    let n := r.fld 0 31 16
    let set := r.fld 0 5 0
    (∀ l, s.dev.Posts m 0x0305 r → stagedHandles r = some l → s.dev.stageRefusal n l = none →
      Completes (.epochStage m false) s fun d =>
        d.epochs.pend = 1 ∧ d.epochs.listed = l ∧ d.epochs.base = n ∧ d.epochs.ticket = some (s.dev.nextTicket m) ∧
        d = { s.dev.deferred m r with epochs := d.epochs }) ∧
    (s.dev.Posts m 0x0306 r → s.dev.epochs.draining = false → s.dev.courseMoves = false → s.dev.epochs.pend = 2 →
      Dev.laterNum n (s.dev.slot s.dev.epochs.curTag).num = true → s.dev.pwrState ≤ 1 →
      Completes (.epochCommit m false) s fun d =>
        d.epochs.pend = 3 ∧ d.epochs.newNum = n ∧ d.epochs.commitAt = s.dev.now + 10000 ∧ d.epochs.fixed = s.dev.staged ∧
        d.staged = [] ∧ d.Answers m r 0 0 2 (s.dev.otherTag :: two (s.dev.now + 10000))) ∧
    (s.dev.Posts m 0x0307 r → s.dev.epochs.pend = 2 →
      Completes (.epochAbort m false) s fun d => d.Answers m r 0 0 2 [] ∧ d.epochs.pend = 0 ∧ d.epochs.listed = []) ∧
    (s.dev.Posts m 0x0308 r → Completes (.epochStatus m false) s fun d =>
      ∃ ws, d.Answers m r 0 0 2 ws ∧ ws.length = 200 ∧ ws.take 5 =
        [s.dev.peek 0x100, s.dev.peek 0x104, s.dev.peek 0x108, s.dev.drainCount 0, s.dev.drainCount 1]) ∧
    (s.dev.Posts m 0x0401 r → r.flag 0 31 = false → (r.flag 0 23 = true → s.dev.inMode i = true) → s.dev.isOn (4 + c) = true →
      let hit (e : Nat × L2Entry) : Bool :=
        !e.2.static && (!r.flag 0 23 || e.2.iface = i) && (!r.flag 0 22 || e.1 / 2 ^ 48 = r.fld 1 13 0)
      Completes (.l2Flush m false) s fun d =>
        (d.course c).learned = ((s.dev.course c).learned.filter fun e => !hit e || e.2.lock.isSome) ∧
        d.Answers m r 0 0 2 [((s.dev.course c).learned.filter fun e => hit e && e.2.lock.isNone).length,
          ((s.dev.course c).learned.filter fun e => hit e && e.2.lock.isSome).length]) ∧
    (s.dev.Posts m 0x0402 r → storeOn s.dev = true → Completes (.ctxReval m false) s fun d => d = s.dev.deferred m r) ∧
    (∀ num y, s.dev.ticket? (m, num) = some y → y.req.opcode = 0x0402 → storeOn s.dev = true →
      (∀ j ∈ s.dev.allCtxs, y.req.flag 0 31 = false ∧ (s.dev.ctx j).tenant ≠ y.req.fld 0 15 0) →
      Completes (.ctxRevalDone m num) s fun d => d = s.dev.closeTicket (m, num) 0 0 2 [0, 0]) ∧
    (s.dev.Posts m 0x0403 r → (∀ k, k < 16 → s.dev.isOn (4 + s.dev.physical k) = true) →
      Completes (.tblStatus m false) s fun d =>
        d.Answers m r 0 0 2 (s.dev.ctxUsed :: (List.range 16).flatMap fun k =>
          let x := s.dev.course (s.dev.physical k)
          [x.learned.length, x.notices.length <<< 16 + x.missq.length])) ∧
    (s.dev.Posts m 0x0501 r → s.dev.inMode i = true → s.dev.isOn (104 + halfOf i) = true →
      Completes (.schFlushIf m false) s fun d => ∃ e : Dev,
        e = { s.dev with mbxs := e.mbxs } ∧ d.flag (schBase i + 0x18) 3 = true ∧
        d = (e.flushIf i (r.fld 0 15 8)).complete m r 0 0 2
          [((s.dev.queuesOf i).filter fun q => (r.fld 0 15 8).testBit (q % 8)).foldl (fun n q => n + (s.dev.queue q).items.length) 0]
          false) ∧
    (s.dev.Posts m 0x0502 r → s.dev.isOn 104 = true → s.dev.isOn 105 = true →
      Completes (.schStatus m false) s fun d =>
        d.Answers m r 0 0 2 (b2n s.dev.sched.shed ::
          (List.range 96).map fun i => if s.dev.inMode i then s.dev.cirSum i fun _ => true else 0)) ∧
    (s.dev.Posts m 0x0601 r →
      let mine (w : Waiting) : Bool := w.item.any (isHostItem r)
      (∀ k, k < 128 → ∀ w ∈ (s.dev.queue (55296 + 128 * set + k)).items, mine w = false) →
      ((∀ p, p < 9 → (s.dev.eng set p).item.any (fun x => isHostItem r x.words) = false) →
        Completes (.itemCancel m false) s fun d => d.Answers m r 0x0601 0 0 []) ∧
      ∀ p, ((List.range 9).find? fun p => (s.dev.eng set p).item.any fun x => isHostItem r x.words) = some p →
        Completes (.itemCancel m false) s fun d => ∃ e : Dev,
          e = { s.dev with mbxs := e.mbxs } ∧ d = (e.post set p 2).complete m r 0 0 2 [1] false) ∧
    (s.dev.Posts m 0x0602 r → r.fld 0 15 8 ≠ 0 → set + r.fld 0 15 8 ≤ 64 →
      Completes (.setStatus m false) s fun d => ∃ ws, d.Answers m r 0 0 2 ws ∧ ws.length = 4 * r.fld 0 15 8 ∧
        ws.getD 0 0 = s.dev.peek (Dev.setBase set + 4))

/-- Groups 0x07 to 0x09. -/
def Obligations.PowerPairAndSpareCommands : Prop :=
  ∀ (s : State) (m : Fin 8) (r : Req), s.dev.Canonical →
    let e := s.dev.deferred m r
    let t := s.dev.nextTicket m
    (s.dev.Posts m 0x0701 r → s.dev.stateRefusal (r.fld 0 1 0) (r.flag 0 31) = none →
      (r.fld 0 1 0 ≠ 3 → Completes (.pwrStateSet m false) s fun d => d = e.changeState (r.fld 0 1 0) (some t)) ∧
      (r.fld 0 1 0 = 3 → Completes (.pwrStateSet m false) s fun d => ∃ f : Dev,
        f = { s.dev with mbxs := f.mbxs } ∧ d = (f.changeState 3 none).complete m r 0 0 2 [3] false)) ∧
    (s.dev.Posts m 0x0702 r → s.dev.domainRefusal (r.fld 0 6 0) (r.fld 0 9 8) = none →
      Completes (.pwrDomainSet m false) s fun d => d = e.requestDomain (r.fld 0 6 0) (r.fld 0 9 8) t) ∧
    (s.dev.Posts m 0x0703 r → Completes (.pwrStatus m false) s fun d => ∃ ws, d.Answers m r 0 0 2 ws ∧ ws.length = 116 ∧
      ws.getD 0 0 = s.dev.peek 0x50018 ∧ ws.drop 4 = (List.range 112).map fun p => s.dev.peek (0x50100 + 4 * p)) ∧
    (s.dev.Posts m 0x0801 r → Completes (.pairStatus m false) s fun d => ∃ ws, d.Answers m r 0 0 2 ws ∧
      ws.take 3 = [b2n s.dev.fjLinked <<< 2 + b2n (s.dev.rails = 2) <<< 1 + s.dev.side, s.dev.fld 0x700010 15 0, s.dev.pair.lagCmd] ∧
      d.fld 0x700010 31 16 = 0 ∧ d.pair.lagCmd = 0) ∧
    (s.dev.Posts m 0x0802 r → s.dev.rails = 2 → s.dev.fjLinked = true →
      (∀ i ∈ bitmapOf r 1, s.dev.inMode i = true ∧ (s.dev.port i).active = !r.flag 0 0) →
      Completes (.pairRoleSet m false) s fun d =>
        d = (e.setPair fun p => { p with roleAsk := some { mbx := t.1, num := t.2, give := !r.flag 0 0, todo := bitmapOf r 1 } }).roleNext) ∧
    (∀ x, s.dev.Posts m 0x0803 r → s.dev.pair.reports[r.fld 0 2 0]? = some x →
      let n := Dev.Reply.fit r 4 6 x.ranges.length
      Completes (.pairReport m false false) s fun d =>
        d.Answers m r 0 (if n < x.ranges.length then 0x10 else 0) 2
          ([x.ranges.length] ++ two x.at_ ++ [x.cause <<< 28 + x.age] ++ (x.ranges.take n).flatten)) ∧
    (s.dev.Posts m 0x0901 r →
      ((s.dev.srcOf (r.fld 0 15 0)).state = 2 →
        Completes (.faultClear m false) s fun d => ∃ f : Dev, f = { s.dev with mbxs := f.mbxs } ∧
          d = ((f.setSrc (r.fld 0 15 0) fun _ => { lastError := (f.srcOf (r.fld 0 15 0)).lastError }).leaveFault (r.fld 0 15 0)).complete
            m r 0 0 2 [] false) ∧
      ((s.dev.srcOf (r.fld 0 15 0)).state ≠ 2 → Completes (.faultClear m false) s fun d => d.Answers m r 0x0901 0 0 [])) ∧
    (s.dev.Posts m 0x0902 r → Completes (.spareStatus m false) s fun d => ∃ ws, d.Answers m r 0 0 2 ws ∧ ws.getD 0 0 = 81) ∧
    (∀ k, s.dev.Posts m 0x0903 r → unitNamed s.dev (r.fld 0 31 24) (r.fld 0 23 0) = some k → s.dev.unitState k = 0 →
      spareLeft s.dev (r.fld 0 31 24) k = true →
      (r.fld 0 31 24 = 0 ∨ r.fld 0 31 24 = 3 →
        ∀ i ∈ s.dev.moveIfs { kind := r.fld 0 31 24, unit := k, spare := 0, step := 0 }, s.dev.partnerServes i = true) →
      Completes (.spareBringIn m false) s fun d =>
        d = ((e.markWorn (r.fld 0 31 24) k).setWearing fun w => { w with asks := w.asks ++ [(t.1, t.2, r.fld 0 31 24, k)] }).startMove
          (r.fld 0 31 24) k) ∧
    (s.dev.Posts m 0x0904 r → r.fld 0 7 0 ≤ 6 → s.dev.stage ≠ 4 → Completes (.wearRead m false false) s fun d =>
      ∃ ws why, d.Answers m r 0 why 2 ws ∧ ws ≠ [] ∧ 4 * ws.length ≤ r.room) ∧
    (s.dev.Posts m 0x0905 r → r.fld 0 1 0 ≠ 3 → s.dev.stw.spare = 0 → Completes (.stewardSwap m false) s fun d =>
      d = e.setStw fun x => { x with spare := 1, swap := some ⟨some t, r.fld 0 1 0, false, none⟩ })

/-- Groups 0x0A to 0x0C. -/
def Obligations.TimeSecurityAndTelemetryCommands : Prop :=
  ∀ (s : State) (m : Fin 8) (r : Req), s.dev.Canonical →
    let sec := r.word 0 * 2 ^ 32 + r.word 1
    let ns := (sec * 1000000000 + r.word 2) * nsUnit
    let slot := s.dev.boot.keys.getD (r.fld 0 31 30) {}
    let key := s.dev.tileKeys.getD (r.fld 0 18 16) {}
    let c := s.dev.physical (r.fld 0 3 0)
    (s.dev.Posts m 0x0A01 r → r.word 2 ≤ 999999999 → s.dev.time.steps = [] → ns < wallSpan →
      Completes (.timeSet m false) s fun d =>
        d.time.wall = ns ∧ d.time.st ≠ .unknown ∧
        d.Answers m r 0 0 2 (two (s.dev.time.wall / nsUnit / 1000000000) ++ [s.dev.time.wall / nsUnit % 1000000000])) ∧
    (s.dev.Posts m 0x0A02 r → Completes (.timeStatus m false) s fun d =>
      d.Answers m r 0 0 2 ([s.dev.peek 0x40004, s.dev.errBound] ++ two s.dev.time.nap)) ∧
    (s.dev.Posts m 0x0B01 r →
      (slot.revoked = false → authorised s.dev r 26 = true → key.revoked = false → key.valid = false →
        r.fld 0 18 16 < s.dev.tileKeys.length →
        Completes (.keyEnrol m false) s fun d => d.Answers m r 0 0 2 [] ∧
          d.tileKeys.getD (r.fld 0 18 16) {} =
            { valid := true, key := wordBytes ((r.words.drop 2).take 24), mask := r.fld 0 7 0, minSvn := r.word 1 }) ∧
      (slot.revoked = true → Completes (.keyEnrol m false) s fun d => d.Answers m r 5 0 0 [] ∧ d.tileKeys = s.dev.tileKeys) ∧
      (slot.revoked = false → authorised s.dev r 26 = false →
        Completes (.keyEnrol m false) s fun d => d.Answers m r 8 0 0 [] ∧ d.Raised 0xE000 0xE011 ∧ d.tileKeys = s.dev.tileKeys)) ∧
    (s.dev.Posts m 0x0B02 r → slot.revoked = false → authorised s.dev r 1 = true → r.fld 0 18 16 < s.dev.tileKeys.length →
      Completes (.keyRevoke m false) s fun d => d.Answers m r 0 0 2 [] ∧
        (d.tileKeys.getD (r.fld 0 18 16) {}).revoked = true) ∧
    (s.dev.Posts m 0x0B03 r → r.fld 0 1 0 ≠ 0 → s.dev.flag 0x220 28 = false →
      Completes (.dbgChallenge m false) s fun d => ∃ ws, d.Answers m r 0 0 2 ws) ∧
    (s.dev.Posts m 0x0B04 r →
      (s.dev.nonceOf (r.fld 0 1 0) = none → Completes (.dbgUnlock m false) s fun d => d.Answers m r 0x0B02 0 0 []) ∧
      ((s.dev.nonceOf (r.fld 0 1 0)).isSome = true → Completes (.dbgUnlock m false) s fun d => ∃ f : Dev,
        f = { s.dev with mbxs := f.mbxs } ∧
        let x := f.tryUnlock (r.fld 0 1 0) (wordBytes (r.words.drop 1))
        d = if x.2 then x.1.complete m r 0 0 2 [] false else x.1.complete m r 8 0 0 [] false)) ∧
    (s.dev.Posts m 0x0B05 r → Completes (.dbgLock m false) s fun d => ∃ f : Dev,
      f = { s.dev with mbxs := f.mbxs } ∧ d = (f.lowerDebug 0).complete m r 0 0 2 [] false) ∧
    (s.dev.Posts m 0x0B06 r → r.word 3 ≠ 0 → r.word 3 ≤ 16777216 → s.dev.stage ≠ 3 ∨ s.dev.fld 0x20C 28 28 ≠ r.fld 0 0 0 →
      Completes (.flashProgram m false) s fun d =>
        (d.flashSlot (r.fld 0 0 0)).good = false ∧ d = { s.dev.deferred m r with boot := d.boot }) ∧
    (∀ (image : FlashImage) (y : Ticket), (∀ x ∈ s.dev.mbxs, x.1 = m → x.2.tickets = [y]) → (∃ x ∈ s.dev.mbxs, x.1 = m) →
      (∀ x ∈ s.dev.mbxs, x.1 ≠ m → x.2.tickets = []) → y.req.opcode = 0x0B06 → s.dev.stage = 3 → image.good = true →
      image.signed = true → (s.dev.boot.keys.getD image.keySlot {}).use.testBit 0 = true →
      (s.dev.boot.keys.getD image.keySlot {}).revoked = false →
      Completes (.flashProgramDone image true) s fun d =>
        d.flashSlot (y.req.fld 0 0 0) = image ∧ d.ticket? (m, y.num) = none) ∧
    (s.dev.Posts m 0x0C01 r → s.dev.isOn (4 + c) = true → Completes (.ledgerRead m false) s fun d =>
      let l := Map.getD s.dev.ledgers (r.fld 0 3 0) {}
      ∃ ws, d.Answers m r 0 0 2 ws ∧ ws.length = 528 ∧ ws.take 6 = two l.admitted ++ two l.departed ++ two l.toService) ∧
    (s.dev.Posts m 0x0C02 r → r.word 2 ≠ 0 → r.word 2 ≤ 4096 → r.fld 1 15 0 + r.word 2 ≤ 65536 → s.dev.isOn (4 + c) = true →
      let n := Dev.Reply.fit r 1 4 (r.word 2)
      Completes (.actCntRead m false false) s fun d =>
        d.Answers m r 0 (if n < r.word 2 then 0x10 else 0) 2 ((r.fld 1 15 0 + n) :: (List.range n).flatMap fun k =>
          let v := Map.getD (s.dev.course c).actCnt (r.fld 1 15 0 + k) (0, 0)
          two v.1 ++ two v.2)) ∧
    (s.dev.Posts m 0x0C03 r → r.word 1 ≠ 0 → r.word 1 ≤ 1024 → r.fld 0 15 0 + r.word 1 ≤ 65536 →
      (∀ k, k < r.word 1 → s.dev.isOn (104 + Dev.halfOfQueue (r.fld 0 15 0 + k)) = true) →
      Completes (.queueRead m false false) s fun d => ∃ ws, d.Answers m r 0
        (if Dev.Reply.fit r 1 8 (r.word 1) < r.word 1 then 0x10 else 0) 2 ws ∧
        ws.getD 0 0 = r.fld 0 15 0 + Dev.Reply.fit r 1 8 (r.word 1)) ∧
    (s.dev.Posts m 0x0C04 r →
      (r.flag 0 31 = false → Completes (.exportSet m false) s fun d => d.export_ = {} ∧ d.Answers m r 0 0 2 []) ∧
      (r.flag 0 31 = true → 100 ≤ r.word 1 → r.word 1 ≤ 1000000 → (r.word 3 * 2 ^ 32 + r.word 2) % 4096 = 0 →
        6 ≤ r.fld 4 4 0 → r.fld 4 4 0 ≤ 16 → r.fld 6 15 0 ≤ 4096 → r.fld 5 15 0 + r.fld 6 15 0 ≤ 65536 →
        Completes (.exportSet m false) s fun d => d.Answers m r 0 0 2 [] ∧
          d.export_.on = true ∧ d.export_.period = r.word 1 ∧ d.export_.base = r.word 3 * 2 ^ 32 + r.word 2 ∧
          d.export_.sources = r.fld 0 2 0 ∧ d.export_.at_ = s.dev.now)) ∧
    ∀ upTo, s.dev.export_.on = true → s.dev.export_.at_ ≤ s.dev.now → s.dev.export_.sources = 1 →
      Completes (.exportPeriod upTo [] none) s fun d =>
        d.export_.at_ = s.dev.export_.at_ + s.dev.export_.period * 1000 ∧ d.out.length = s.dev.out.length + min upTo 16 ∧
        (0 < upTo → d.export_.lost = 0)

/-! ### The host: DMA channels, descriptors, records, the PCIe link -/

/-- R454, R457 to R463: descriptors. -/
def Obligations.DescriptorRows : Prop :=
  (∀ (s : State) (ch : Fin 64) (v : Vector (BitVec 32) 16) (f : DmaFacts) (op : Nat),
    let w := descWords v
    s.dev.Starts ch op w f →
    let index := s.dev.ringHead ch
    let e := s.dev.fetchDesc ch
    let ends (x : Dev) (len : Nat) (tail : List Nat) : Dev := x.descEnds ch index w (.done 0 0 len tail) f.rest
    let len := dLen w
    let set := bits (dAddr w) 37 32
    let off := bits (dAddr w) 18 0
    (op = 0 → Completes (.descNop ch v f) s fun d => d = ends e 0 []) ∧
    (∀ data : List Byte, op = 1 → dSpace w = 1 → len ≠ 0 → len ≤ 2 ^ 24 → off % 8 = 0 → len % 8 = 0 → off + len ≤ 0x80000 →
      Dev.hostMayWrite off len = true → s.dev.isOn (38 + set) = true →
      Completes (.copyIn ch v data f) s fun d => d = ends ((e.memWrite set off (Dev.padTo data len)).bytesIn ch len) len []) ∧
    (op = 2 → dSpace w = 1 → len ≠ 0 → len ≤ 2 ^ 24 → off % 8 = 0 → len % 8 = 0 → off + len ≤ 0x80000 →
      s.dev.isOn (38 + set) = true → (s.dev.set set).poison = [] →
      Completes (.copyOut ch v f) s fun d =>
        d = ends ((e.toHost (dHost w) (s.dev.memRead set off len)).bytesOut ch len) len []) ∧
    (∀ (data : List Byte) d' a g, op = 4 → (s.dev.chan ch).inj = none → Dev.injectFieldsOk w = true → bits (word w 10) 31 30 = 0 →
      let name := bits (word w 10) 28 24
      s.dev.courseOn name = true → s.dev.halfOn (Dev.dieOfCourse (s.dev.physical name)) = true → s.dev.injectRoom name = true →
      s.dev.moveHolds name = false →
      (e.bytesIn ch len).alloc (Dev.dieOfCourse (s.dev.physical name)) 3 .new 0 0xFF (Dev.padTo data len) = (d', .ok (a, g)) →
      Completes (.descInject ch v data f) s fun d =>
        d = ends (d'.enterInject name (bits (word w 10) 9 0) (d'.injectDesc w name a g (Dev.padTo data len)) false 3) len [len]) ∧
    (op = 5 → (s.dev.chan ch).posted.length < 4096 →
      Completes (.recv ch v f) s fun d =>
        d = (e.setChan ch fun x => { x with posted := x.posted ++
          [⟨index, word w 1, dHost w, len, (word w 0).testBit 25, (word w 0).testBit 26, (word w 0).testBit 24⟩] }).chanSettle ch) ∧
    (∀ data : List Byte, op = 7 →
      let r := leWords 32 (Dev.padTo data 128)
      let q := bits (word w 13) 31 16
      let tag := s.dev.epochs.curTag
      let sent := [withBits (word r 0) 27 27 tag, word r 1,
        (s.dev.slot tag).num <<< 16 + (0x41 + (ch : Nat)) <<< 8 + bits (word r 2) 7 0, word r 3] ++ r.drop 4
      55296 ≤ q → q ≤ 63487 → bits (word r 0) 31 28 = 2 → bits (word r 0) 19 18 = 0 → word r 0 &&& 0x3FFFF = 0 →
      word r 3 &&& 0x7F000000 = 0 → ∀ d', (e.bytesIn ch 128).queueItem q sent = (d', none) →
      Completes (.item ch v data f) s fun d => d = ends (d'.refuseIfDown q) 0 []) ∧
    (op = 6 → s.dev.halfOn (Dev.halfAddr (nameChain (dAddr w)).1) = true →
      let a := (nameChain (dAddr w)).1
      let g := (nameChain (dAddr w)).2
      let p := 0x41 + (ch : Nat)
      let k := bits (word w 10) 31 28
      (∀ d', k = 1 → e.shareBy p a g = (d', .ok) → Completes (.dmaChainShare ch v f) s fun d => d = ends d' 0 []) ∧
      (∀ d', k = 2 → e.releaseBy p a g = (d', .ok) → Completes (.dmaChainRelease ch v f) s fun d => d = ends d' 0 []) ∧
      (∀ d', k = 3 → e.freeBy p a g = (d', .ok) → Completes (.dmaChainFree ch v f) s fun d => d = ends d' 0 []) ∧
      (∀ d', k = 4 → Dev.isHolder (bits (word w 10) 7 0) = true → e.giveBy p a g (bits (word w 10) 7 0) = (d', .ok) →
        Completes (.dmaChainGive ch v f) s fun d => d = ends d' 0 []) ∧
      ∀ d', k = 5 → e.hostEnq ch w a g = (d', .done 0 0 0 []) →
        Completes (.dmaChainEnq ch v f) s fun d => d = ends d' 0 [])) ∧
  (∀ (s : State) (ch : Fin 64) (f : DmaFacts) (t : Nat) (w : List Nat), (s.dev.chan ch).inj = some (t, w) → t + 100000 ≤ s.dev.now →
    Completes (.injectQueueTimeout ch f) s fun d =>
      d = s.dev.descEnds ch ((s.dev.ringHead ch + s.dev.ringSize ch - 1) % s.dev.ringSize ch) w (.done 1 0 0 []) f.rest) ∧
  (∀ (s : State) (ch : Fin 64) (x : TxFacts) (f : DmaFacts) (r : Recv) (more : List Recv) (q : Nat) (w : Waiting)
    (rest : List Waiting) (c : Chain), (s.dev.chan ch).posted = r :: more → s.dev.nextHostQueue ch = some q →
    (s.dev.queue q).items = w :: rest → s.dev.chanState ch ≤ 1 → (s.dev.chan ch).held.length < 256 → f.host = none → f.ecc = none →
    s.dev.flag (Dev.dmaBase ch + 0x0C) 0 = false → s.dev.chain? w.desc.chain w.desc.gen = some c → c.poison = false → c.broken = none →
    x.bad = false → x.link = false → x.seen = none → crc32c c.bytes = w.desc.mortar → r.hold = false →
    Completes (.recvDeliver ch x f) s fun d => ∃ e : Dev,
      let body := wordsToLE w.desc.toWords ++ c.bytes
      let n := min body.length r.len
      e.out = s.dev.out ++ [Emission.host r.host (body.take n)] ∧
      d = ((e.release w.desc.chain w.desc.gen).endCopy w.desc .departed).descEnds ch r.index
        [5 <<< 28 + b2n r.irq <<< 26 + b2n r.stop <<< 24, r.id]
        (.done 0 0 n [c.bytes.length, q <<< 16 + b2n (decide (r.len < body.length))]) f.rest) ∧
  ∀ (d : Dev) (ch : Fin 64) (index id op len : Nat) (tail : List Nat) (irq : Bool), d.Canonical → d.cplFree ch = true →
    (d.chan ch).held = [] → d.chanState ch ≠ 4 →
    ∃ (bytes : List Byte) (more : List Emission),
      (d.descRecord ch index id op 0 0 len tail irq).out = d.out ++ Emission.host (d.reg (Dev.dmaBase ch + 0x28) * 2 ^ 32 +
        d.reg (Dev.dmaBase ch + 0x24) / 32 * 32 + 32 * d.fld (Dev.dmaBase ch + 0x34) 15 0) bytes :: more ∧
      bytes.length = 32 ∧ bytes.take 4 = leBytes 4 id

/-- R448, R458, R463 to R467. -/
def Obligations.ChannelAndLinkRows : Prop :=
  (∀ (s : State) (ch : Fin 64), s.dev.Canonical → s.dev.bar0 = true →
    let b := Dev.dmaBase ch
    let st := s.dev.chanState ch
    (∀ v : BitVec 16, st = 0 → s.dev.flag b 0 = true → v.toNat % s.dev.ringSize ch ≠ s.dev.ringHead ch →
      Completes (.dmaTailWrite ch v) s fun d =>
        d.chanState ch = 1 ∧ d.fld (b + 0x1C) 15 0 = v.toNat % s.dev.ringSize ch ∧ d = { s.dev with regs := d.regs }) ∧
    (st = 1 → s.dev.chanBusy ch = false →
      Completes (.dmaEnableWrite ch false) s fun d => d.chanState ch = 2 ∧ d.flag b 0 = false ∧ d = { s.dev with regs := d.regs }) ∧
    (st = 3 → s.dev.flag b 0 = true →
      Completes (.dmaResume ch) s fun d => d.chanState ch = (if s.dev.ringWaits ch then 1 else 0) ∧ d.flag b 1 = false) ∧
    (st = 2 ∨ st = 3 → (s.dev.chan ch).posted = [] → (s.dev.chan ch).held = [] →
      Completes (.dmaReset ch) s fun d =>
        d.chanState ch = 0 ∧ d.fld (b + 0x1C) 15 0 = 0 ∧ d.fld (b + 0x20) 15 0 = 0 ∧ d.fld (b + 0x30) 15 0 = 0 ∧
        d.fld (b + 0x34) 15 0 = 0) ∧
    (∀ v : BitVec 32, s.dev.dmaIdle ch = true → bits v.toNat 26 16 + bits v.toNat 11 0 ≤ 2048 →
      (∀ k, k < 64 → k ≠ (ch : Nat) → (s.dev.hostq k).2 = 0) →
      Completes (.dmaHostqWrite ch v) s fun d => d.hostq ch = (bits v.toNat 26 16, bits v.toNat 11 0)) ∧
    ∀ v : BitVec 16, (s.dev.chan ch).held = [] → (s.dev.chan ch).resets = false →
      Completes (.dmaCplTailWrite ch v) s fun d =>
        d.fld (b + 0x30) 15 0 = v.toNat % s.dev.cplSize ch ∧ d = { s.dev with regs := d.regs }) ∧
  (∀ (s : State) (c : Instr), s.dev.Canonical → c = .flr ∨ c = .hotReset ∨ c = .perst ∨ c = .busMasterDisable →
    Completes c s fun d => d.bme = false ∧ ∀ ch, ch < 64 → d.chanState ch = 4) ∧
  (∀ s : State, s.dev.Canonical → s.dev.linkUpPcie = true →
    Completes .pcieLinkLoss s fun d => d.linkUpPcie = false ∧ d.Raised 0xD080 0xD020 ∧ ∀ ch, ch < 64 → d.chanState ch = 4) ∧
  (∀ (s : State) (ch : Fin 64), s.dev.Canonical → s.dev.linkUpPcie = true → s.dev.chanState ch = 4 →
    (∀ k, (s.dev.chan k).held = [] ∧ (s.dev.chan k).resets = false) →
    Completes .busMasterEnable s fun d => d.bme = true ∧ d.chanState ch = 2) ∧
  (∀ (s : State) (speed width : Fin 16), s.dev.Canonical → s.dev.isOn 1 = true → 1 ≤ (speed : Nat) → (speed : Nat) ≤ 5 → s.dev.bme = false →
    Completes (.pcieLinkUp speed width) s fun d =>
      d.fld 0x208 31 28 = speed ∧ d.fld 0x208 27 24 = width ∧ d = { s.dev with regs := d.regs }) ∧
  ∀ (s : State) (ch : Fin 64) (t : Nat), s.dev.Canonical → (s.dev.chan ch).first = some t → t + s.dev.fld (Dev.dmaBase ch) 15 8 * 1000 ≤ s.dev.now →
    Completes (.msixModerationTimeout ch) s fun d =>
      (d.chan ch).first = none ∧ (d.chan ch).unsig = 0 ∧
      (s.dev.unmasked.contains (ch : Nat) = true → d.out = s.dev.out ++ [Emission.msix ch]) ∧
      (s.dev.unmasked.contains (ch : Nat) = false → (ch : Nat) ∈ d.msixPend)

/-- R219 to R221, R456. -/
def Obligations.RecordRows : Prop :=
  (∀ (s : State) (c : Instr) (r : RecRow) (d' : Dev) (st why : Nat) (back : Option (List Nat)), recordRowOf c = some r →
    s.dev.Starts r.ch 3 r.desc r.facts → dSpace r.desc = r.space → 1 ≤ dLen r.desc → dLen r.desc ≤ 4096 →
    bits (word r.record 0) 31 28 = r.op → (s.dev.chan r.ch).recs = none → (r.space = 0 → (word r.record 0).testBit 27 = false) →
    let e := (((s.dev.fetchDesc r.ch).setChan r.ch fun x => { x with recs := some { words := r.desc } }).bytesIn r.ch (recBytes r.space))
    r.judge e = (d', .out st why back) →
    Completes c s fun d => d = d'.recOut r.ch (s.dev.ringHead r.ch) st why back r.facts.rest) ∧
  (∀ (s : State) (c : Instr) (r : RecRow) (x : RecRun) (d' : Dev) (st why : Nat) (back : Option (List Nat)), recordRowOf c = some r →
    (s.dev.chan r.ch).recs = some x → dSpace x.words = r.space → x.pair = none → bits (word r.record 0) 31 28 = r.op →
    (r.space = 0 → (word r.record 0).testBit 27 = false) → r.facts.host = none → r.facts.ecc = none →
    s.dev.flag (Dev.dmaBase r.ch + 0x0C) 0 = false → r.judge (s.dev.bytesIn r.ch (recBytes r.space)) = (d', .out st why back) →
    Completes c s fun d =>
      d = d'.recOut r.ch ((s.dev.ringHead r.ch + s.dev.ringSize r.ch - 1) % s.dev.ringSize r.ch) st why back r.facts.rest) ∧
  ∀ (d : Dev) (ch : Fin 64) (w : List Nat),
    let i := bits (word w 1) 23 0
    let g := bits (word w 2) 7 0
    let op := bits (word w 0) 31 28
    d.Canonical → word w 0 &&& 0x090FFFFF = 0 → bits (word w 1) 31 24 = 0 → bits (word w 2) 31 8 = 0 →
    ((w.drop 3).take 5).any (· ≠ 0) = false → keeperOn d i = true →
    (op = 1 → d.badCtx.contains i = false → d.ctxCheck i g = none →
      d.tblRecord ch w false = (d, .out 0 0 (some (Dev.tblBack w i (d.ctx i).gen (d.ctx i).toWords)))) ∧
    (op = 5 → d.ctxCheck i g = none → (d.ctx i).lock = none → d.locksOf ch < 16 →
      d.tblRecord ch w false = (d.setCtx i fun c => { c with lock := some (ch, d.now) }, .out 0 0 none)) ∧
    (∀ t, op = 6 → d.ctxCheck i g = none → (d.ctx i).lock = some ((ch : Nat), t) →
      d.tblRecord ch w false = (d.setCtx i fun c => { c with lock := none, conflict := false }, .out 0 0 none)) ∧
    (∀ k t, op = 2 ∨ op = 4 → d.ctxCheck i g = none → (d.ctx i).lock = some (k, t) → k ≠ ch →
      d.tblRecord ch w false = (d, .out 0x0C TblError.locked.code none)) ∧
    (op = 4 → d.ctxBad i = false → (d.ctx i).valid = false → d.tblRecord ch w false = (d, .out 0x0C TblError.notFound.code none))

/-! ### Power and SMBus -/

/-- R413 to R424: heat, power and VDD_CORE. -/
def Obligations.CallerRows : Prop :=
  (∀ (s : State) (v : Vector Int 16), s.dev.Canonical → s.dev.flag 0x50020 0 = false →
    (∀ i, i < 16 → badReading ((v.toList.drop (8 * (i / 8))).take 8) (v.toList.getD i 0) = false) →
    let hottest := v.toList.foldl max 0
    hottest < 115 →
    Completes (.sensorReading v) s fun d =>
      d.power.tj = hottest ∧ d.power.tier = nextTier s.dev.power.tier hottest ∧ d.power.shut = [] ∧
      (nextTier s.dev.power.tier hottest = 3 → s.dev.power.tier ≠ 3 → d.Raised 0 0x9010)) ∧
  (∀ (s : State) (t : Nat), s.dev.power.hot = some (t, false) → t + 100000 ≤ s.dev.now → s.dev.pwrState ≠ 3 →
    Completes .tj108Timeout s fun d => d.power.hot = some (t, true) ∧ d.Raised 0 0x9011) ∧
  (∀ (s : State) (mv : BitVec 10), s.dev.Canonical → 680 ≤ s.dev.vTarget →
    Completes (.callerDecision mv) s fun d =>
      680 ≤ d.vTarget ∧ d.vTarget ≤ max 680 s.dev.vCap ∧ d.vTarget ≤ s.dev.vTarget + 10 ∧
      (s.dev.holds680 = true → d.vTarget = 680) ∧
      d.power.samples.head? = some (mv.toNat * s.dev.power.amps + s.dev.fld 0x50010 9 0 * 1000000) ∧
      ∀ c, c < 6 → d.fld (0x50040 + 4 * c) 23 16 ≤ grantCap c s.dev.power.tier) ∧
  (∀ (s : State) (ma : BitVec 32), s.dev.flag 0x50020 1 = false →
    Completes (.avsCurrentRead ma true) s fun d => d.power.amps = ma.toNat ∧ d.power.avsFails = 0) ∧
  (∀ (s : State) (read : Bool), s.dev.flag 0x50020 1 = false →
    (Completes (.avsTransactionDone true read) s fun d => d.power.avsFails = 0 ∧ d.faults = s.dev.faults) ∧
    (s.dev.Canonical → s.dev.power.avsFails = 2 →
      Completes (.avsTransactionDone false read) s fun d =>
        d.Raised 0 0x9001 ∧ d.fld 0x50008 9 0 = 680 ∧ d.power.avsDown = true ∧ d.flag 0x5001C 4 = true)) ∧
  (∀ s : State, s.dev.Canonical → s.dev.vMoving = true →
    (Completes .railSettled s fun d => d.vMoving = false ∧
      (s.dev.power.avsDown = false → d.fld 0x50008 9 0 = s.dev.vTarget) ∧ d = { s.dev with regs := d.regs }) ∧
    (s.dev.power.late = false → s.dev.power.cmdAt + 20000 ≤ s.dev.now →
      Completes .railSettleTimeout s fun d => d.Raised 0 0x9001 ∧ d.power.late = true)) ∧
  (∀ s : State,
    (Completes .vddUndervolt s fun d => d.Raised 0 0x9002 ∧ d = { s.dev with faults := d.faults }) ∧
    Completes .vddOvervolt s fun d => d.Raised 0 0x9003 ∧ d = { s.dev with faults := d.faults }) ∧
  (∀ (s : State) (low : Bool), s.dev.Canonical →
    Completes (.pwrBrakeNEdge low) s fun d =>
      d.flag 0x50018 25 = low ∧ (low = true → s.dev.flag 0x50000 20 = true → d.vTarget = 680) ∧
      (low = true → s.dev.flag 0x50018 25 = false → d.flag 0x5001C 7 = true)) ∧
  ∀ (s : State) (t : Nat), s.dev.Canonical → s.dev.vTarget = 680 →
    (∀ c, c < 6 → s.dev.fld (0x50040 + 4 * c) 23 16 ≤ s.dev.grantMin c) → s.dev.power.overAt = some t → t + 1000000 ≤ s.dev.now →
    s.dev.flag 0x50018 24 = false →
    Completes .limitUnmetTimeout s fun d => d.flag 0x50018 24 = true ∧ d.Raised 0 0x9004 ∧ d.flag 0x5001C 2 = true

/-- R431 to R437, R472 to R474. -/
def Obligations.DrainWakeAndSmbusRows : Prop :=
  (∀ (s : State) (k : Fin 112) (r : Drain), Map.get? s.dev.power.drains k = some r →
    (r.at_ + r.max ≤ s.dev.now → Completes (.drainDeadline k) s fun d => d = (s.dev.endDrain k).advance) ∧
    (s.dev.inflight k = 0 → Completes (.drainInflightZero k) s fun d => d = (s.dev.endDrain k).advance)) ∧
  (∀ s : State, s.dev.power.back ≠ [] → (s.dev.power.backStep = 1 → s.dev.vMoving = false) →
    (3 ≤ s.dev.power.backStep → s.dev.time.running = true) →
    (s.dev.power.backStep < 4 → Completes .returnStepReady s fun d =>
      d = { s.dev with power := { s.dev.power with backStep := s.dev.power.backStep + 1, backAt := s.dev.now } }) ∧
    (4 ≤ s.dev.power.backStep → Completes .returnStepReady s fun d =>
      d = ((s.dev.power.back.foldl Dev.comeOn s.dev).startReturn []).advance)) ∧
  (∀ (s : State) (active : Bool), s.dev.Canonical →
    (s.dev.power.armed = false → Completes (.wakeSourceEvent 0 active) s fun d =>
      d = { s.dev with power := { s.dev.power with devWake := active } }) ∧
    (s.dev.power.armed = true → s.dev.flag 0x50024 0 = true → Completes (.wakeSourceEvent 0 true) s fun d =>
      d.power.armed = false ∧ d.power.devWake = true ∧ d.power.back = [1, 2, 3, 106, 107, 108, 109] ∧ d.flag 0x50024 8 = true)) ∧
  (∀ s : State, s.dev.Canonical → s.dev.power.armed = true → s.dev.wakeNow ||| s.dev.wakePend ≠ 0 →
    Completes .wakeLatchFire s fun d =>
      d.power.armed = false ∧ d.fld 0x50024 13 8 = s.dev.wakeNow ||| s.dev.wakePend ∧ d.power.back = [1, 2, 3, 106, 107, 108, 109] ∧
      d.power.backStep = 1 ∧ d.changing = true ∧ d.fld 0x50018 29 28 = 2) ∧
  (∀ (s : State) (v : BitVec 16) (w : BitVec 8), s.dev.Canonical →
    (Completes (.smbLimitWrite v true) s fun d => d.fld 0x5000C 25 16 = v.toNat % 1024 ∧ d = { s.dev with regs := d.regs }) ∧
    (Completes (.smbFixedWrite v true) s fun d => d.fld 0x50010 9 0 = v.toNat % 1024 ∧ d = { s.dev with regs := d.regs }) ∧
    (s.dev.power.armed = false → Completes (.smbWakeWrite w true) s fun d => d.power.smbWake = w.getLsbD 0) ∧
    (w.getLsbD 0 = true → s.dev.power.tripLow = true → s.dev.power.tj < 115 →
      Completes (.smbTripWrite w true) s fun d => d.flag 0x218 2 = true) ∧
    (w.getLsbD 0 = false → Completes (.smbTripWrite w true) s fun d => d = s.dev)) ∧
  ∀ (s : State) (c : Instr), (∃ v, c = .smbLimitWrite v false) ∨ (∃ v, c = .smbFixedWrite v false) ∨ (∃ v, c = .smbWakeWrite v false) ∨
      (∃ v, c = .smbTripWrite v false) →
    Completes c s fun d => d.Raised 0xD081 0xD030 ∧ d = { s.dev with faults := d.faults }

/-! ### Resets and start-up -/

/-- R634, R440, R644 to R646, R695, R698. -/
def Obligations.ResetRows : Prop :=
  (∀ (s : State) (straps : BitVec 4) (flash : Option (FlashImage × FlashImage)),
    Completes (.powerOnReset straps flash) s fun d =>
      d.boot.straps = straps.toNat ∧ d.boot.por = false ∧ d.boot.keys = s.dev.boot.keys ∧ d.boot.fwSvn = s.dev.boot.fwSvn ∧
      d.tileKeys = s.dev.tileKeys ∧ d.boot.failsA = 0 ∧ d.boot.failsB = 0 ∧ d.stage = 0 ∧ d.reg 0x218 = resetOf 0x218 ∧
      d.sets = [] ∧ d.chans = [] ∧ d.mbxs = [] ∧ d.courses = [] ∧ d.faults = {} ∧ d.doms = [(0, .on)] ∧
      (∀ f, flash = some f → d.boot.slotA = f.1 ∧ d.boot.slotB = f.2) ∧
      (flash = none → d.boot.slotA = s.dev.boot.slotA ∧ d.boot.slotB = s.dev.boot.slotB)) ∧
  (∀ s : State,
    (Completes .porNAsserted s fun d => d.boot.por = true ∧ d.stage = 0 ∧ d.boot.keys = s.dev.boot.keys ∧ d.doms = [(0, .on)]) ∧
    (Completes (.powerLoss .all) s fun d => d.boot.por = true ∧ d.stage = 0 ∧ d.boot.keys = s.dev.boot.keys ∧ d.doms = [(0, .on)])) ∧
  (∀ (s : State) (c : Instr) (bit : Nat), s.dev.boot.por = false →
    (c = .deviceReset ∧ bit = 1) ∨
    (c = .noStewardTimeout ∧ bit = 4 ∧ s.dev.stw.lostAt.any (fun t => t + 10000000 ≤ s.dev.now) = true) ∨
    (c = .returnReadyTimeout ∧ bit = 3 ∧ s.dev.power.back ≠ [] ∧
      s.dev.power.backAt + Dev.stepBound s.dev.power.backStep ≤ s.dev.now) →
    Completes c s fun d => d.flag 0x218 bit = true ∧ d.stage = 0 ∧ d.sets = [] ∧ d.chans = [] ∧ d.mbxs = [] ∧ d.courses = []) ∧
  (∀ (s : State) (rail : BitVec 8),
    (Completes (.railOutOfRange rail) s fun d => d.Raised 0 0x9040 ∧ d = { s.dev with faults := d.faults }) ∧
    (s.dev.pwrState ≠ 3 → Completes (.powerLoss (.one rail)) s fun d => d.Raised 0 0x9040 ∧ d = { s.dev with faults := d.faults })) ∧
  ∀ (s : State) (straps : BitVec 4),
    (Completes (.aonBrownOut true straps) s fun d => d.boot.por = true ∧ d.stage = 0) ∧
    (s.dev.pwrState = 3 → Completes (.aonBrownOut false straps) s fun d =>
      d.boot.straps = straps.toNat ∧ d.time.snapshot = none ∧ d.boot.failsA = 0 ∧ d.boot.failsB = 0 ∧
      d.power.back = [1, 2, 3, 106, 107, 108, 109])

/-- R646 to R662. -/
def Obligations.StartUpRows : Prop :=
  (∀ (s : State) (f : BootFacts), s.dev.Canonical → s.dev.stage = 0 → s.dev.boot.step = 0 → s.dev.boot.por = false →
    s.dev.power.tripLow = false → f.otpBad = 0 → f.svnCopy = none → f.tileBad = 0 →
    (s.dev.boot.straps.testBit 3 = true → 3 ≤ (f.upTo : Nat) → Completes (.startUp f) s fun d => d.stage = 5 ∧ d.boot.step = 3) ∧
    (s.dev.boot.straps.testBit 3 = false → 11 ≤ (f.upTo : Nat) → s.dev.faults.kept = [] → s.dev.faults.again = [] →
      (∀ slot l, s.dev.bootSlots = slot :: l → s.dev.imageRefused (s.dev.flashSlot slot) = none →
        (s.dev.flashSlot slot).pages = true → f.ref156 = true → f.ledgerBad = false →
        Completes (.startUp f) s fun d => d.stage = 3 ∧ d.boot.step = 11 ∧ d.boot.image = s.dev.flashSlot slot) ∧
      (s.dev.bootSlots = [] → Completes (.startUp f) s fun d => d.stage = 4 ∧ d.Raised 0xE000 0xE003))) ∧
  (∀ s : State, s.dev.stage = 0 → s.dev.boot.step = 0 →
    Completes .romSelfCheckTimeout s fun d => d.stw.active = 1 ∧ d.stw.spare = 2 ∧ d = { s.dev with stw := d.stw }) ∧
  ∀ s : State, s.dev.stage < 3 → 2 ≤ s.dev.boot.step →
    Completes .bootWatchdog s fun d => d.flag 0x218 5 = true ∧ d.stage = 0

/-! ### The pair -/

/-- R549 to R559, R567, R569, R663. -/
def Obligations.PairLinkRows : Prop :=
  (∀ (s : State), s.dev.Canonical → s.dev.flag 0x70000C 0 = false →
    (Completes (.peerRailChange true false) s fun d =>
      d.rails = 2 ∧ d.pair.absent = false ∧ d = { s.dev with regs := d.regs, pair := d.pair }) ∧
    (Completes (.peerRailChange false true) s fun d =>
      d = ((s.dev.setFld 0x700004 27 26 1).setFld 0x700004 25 25 0).partnerFail s.dev.rails 0) ∧
    ∀ p, s.dev.lost = false → Completes (.peerRailChange p p) s fun d =>
      d.Raised 0xA000 0xA001 ∧ d.rails = (if p then 3 else 0) ∧ d.flag 0x700008 6 = true) ∧
  (∀ s : State, s.dev.lost = true → s.dev.pair.heardAt.isSome = true → s.dev.pair.lossSeen = false → s.dev.rails = 2 →
    Completes .heartbeatLoss s fun d => d = (s.dev.setPair fun p => { p with lossSeen := true }).fjDown) ∧
  (∀ s : State, s.dev.bar0 = true →
    (Completes (.selfDownWrite true) s fun d => d = (s.dev.setFld 0x700000 2 2 1).goMute 4) ∧
    Completes (.selfDownWrite false) s fun d => d = (s.dev.setFld 0x700000 2 2 0).unmute 4) ∧
  (∀ (s : State) (k : Fin 8), s.dev.Canonical →
    (s.dev.pair.helloIn = false → Completes (.fjarairLaneUp k) s fun d => d.fjUp k = true ∧ d = { s.dev with regs := d.regs }) ∧
    (s.dev.fjLinked = false → Completes (.fjarairLaneDown k) s fun d => d.fjUp k = false ∧ d = { s.dev with regs := d.regs })) ∧
  (∀ (s : State) (f : Fjarair), s.dev.pair.firstAt = none → s.dev.fjLinked = false →
    (Completes .helloSend s fun d => d = s.dev) ∧
    (s.dev.Hears f → (∃ a b c e g i, f.body = .hello a b c e g i) → Completes (.hello f) s fun d =>
      d.pair.helloIn = s.dev.pair.helloIn ∧ d.regs = s.dev.regs ∧ d.out = s.dev.out)) ∧
  (∀ s : State, s.dev.fjLinked = false → s.dev.pair.firstAt.isSome = true → s.dev.pair.helloIn = false →
    Completes .helloSend s fun d =>
      let ks := (List.range 8).filter s.dev.fjUp
      d.out = s.dev.out ++ ks.map (fun k => Emission.fjarair k { side := s.dev.side, seq := 0, ack := s.dev.pair.rxSeq, lane := k, body := .hello 0x4800 0xB0 (s.dev.reg 0x100D00) s.dev.pairState (s.dev.flag 0x700004 15) s.dev.roles }) ∧
      d.pair.helloOut = (s.dev.pair.helloOut || !ks.isEmpty)) ∧
  (∀ (s : State) (f : Fjarair) (part step seed state roles : Nat) (synced : Bool), s.dev.Canonical → s.dev.Hears f →
    f.body = .hello part step seed state synced roles → s.dev.fjLinked = false → s.dev.pair.firstAt.isSome = true →
    (f.side = s.dev.side ∨ part ≠ 0x4800 ∨ step ≠ 0xB0 ∨ seed ≠ s.dev.reg 0x100D00 →
      Completes (.hello f) s fun d => d.Raised 0xA000 0xA002 ∧ d.flag 0x700008 7 = true ∧ d.pair.helloIn = s.dev.pair.helloIn) ∧
    (f.side ≠ s.dev.side → part = 0x4800 → step = 0xB0 → seed = s.dev.reg 0x100D00 → s.dev.pair.helloOut = false →
      Completes (.hello f) s fun d => d.pair.helloIn = true ∧ d.pair.peerRoles = roles ∧ d.pair.peerState = state)) ∧
  (∀ (s : State) (f : Fjarair) (state roles : Nat), s.dev.Hears f → f.body = .heartbeat state roles → s.dev.fjLinked = false →
    s.dev.side = 0 → (∀ i, (s.dev.port i).active = true → roles.testBit i = false) →
    Completes (.heartbeat f) s fun d =>
      d.pair.peerState = state ∧ d.pair.peerRoles = roles ∧ d.pair.heartAt = some s.dev.now ∧ d.faults = s.dev.faults) ∧
  (∀ (s : State) (f : Fjarair) (state roles i : Nat), s.dev.Hears f → f.body = .heartbeat state roles → s.dev.fjLinked = false →
    s.dev.side = 0 → isIface i = true → (s.dev.port i).active = true → roles.testBit i = true →
    s.dev.pair.clash = 0 → s.dev.pair.hands = [] → Completes (.heartbeat f) s fun d => d.Raised 0xA000 0xA005) ∧
  (∀ (s : State) (f : Fjarair), s.dev.Hears f →
    (f.body = .ack → s.dev.fjLinked = true → Completes (.ackFrame f) s fun d => d = s.dev.heard.ackTo f.ack) ∧
    (f.body = .nak → s.dev.fjLinked = true → s.dev.pair.sent = [] → Completes (.nakFrame f) s fun d => d = s.dev.heard)) ∧
  (∀ (s : State) (k : Nat), s.dev.Canonical → s.dev.nextLane = some k →
    (Completes .heartbeatSend s fun d =>
      d = (s.dev.emitOn k 0 (.heartbeat s.dev.pairState s.dev.roles)).setPair fun p => { p with rr := (k + 1) % 8 }) ∧
    (s.dev.fjLinked = true → Completes .ackSend s fun d => d = (s.dev.emitOn k 0 .ack).setPair fun p => { p with rr := (k + 1) % 8 }) ∧
    (∀ t, s.dev.fjLinked = true → s.dev.pair.aheadAt = some t → t + 2000 ≤ s.dev.now →
      Completes .reorderGapTimeout s fun d =>
        d.pair.ahead = [] ∧ d.pair.aheadAt = none ∧ d.cnt 0x700100 = (s.dev.cnt 0x700100 + 1) % 2 ^ 64)) ∧
  (∀ (s : State) (f : Nat × FjBody) (l : List (Nat × FjBody)), s.dev.fjLinked = true → s.dev.pair.sent = f :: l →
    s.dev.pair.ackedAt + 5000 ≤ s.dev.now →
    (s.dev.pair.rounds < 7 → Completes .retransmitTimeout s fun d =>
      d = (s.dev.setPair fun p => { p with rounds := p.rounds + 1, ackedAt := s.dev.now }).resend f) ∧
    (s.dev.pair.rounds = 7 → Completes .retransmitTimeout s fun d =>
      d = (((s.dev.setPair fun p => { p with rounds := 8, ackedAt := s.dev.now }).resend f).raise 0xA000 0xA021).fjDown)) ∧
  (∀ (s : State) (t : Nat), s.dev.fjLinked = false → s.dev.pair.upSince = false → s.dev.pairState = 0 → s.dev.roles = 0 → s.dev.pair.peerRoles = 0 →
    s.dev.pair.firstAt = some t → t + max 1 (s.dev.fld 0x700000 15 8) * 1000000 ≤ s.dev.now →
    Completes .soloWaitExpiry s fun d => d = s.dev.takeRoles (if s.dev.rails = 2 then s.dev.home else fun _ => true)) ∧
  ∀ (s : State) (f : Fjarair), s.dev.fjUp f.lane = true → f.good = false → s.dev.flag 0x70000C 1 = false → f.body = .ack →
    Completes (.ackFrame f) s fun d =>
      d.Raised (srcLane (f.lane / 2) (s.dev.laneAt (f.lane / 2) (80 + f.lane % 2))) 0xA020 ∧ d.pair = s.dev.pair

/-- R558 to R564, R571 to R573, R627. -/
def Obligations.PairRecordRows : Prop :=
  (∀ (s : State) (f : Fjarair), s.dev.Canonical → s.dev.HearsNext f →
    let x := s.dev.applying
    (∀ t delay, f.body = .data [.markTime t delay] → s.dev.pair.pairing = false → Completes (.markTime f) s fun d =>
      d.pair.marks = [] ∧ d.pair.peerLedgers = [] ∧ d.pair.markAt = some (s.dev.now - delay - 1000)) ∧
    (∀ c a b n, f.body = .data [.course c a b n] → c < 16 → Completes (.courseRecord f) s fun d =>
      d.pair.peerLedgers = Map.put s.dev.pair.peerLedgers c (a, b, n)) ∧
    (∀ i next conf ended quar speed, f.body = .data [.iface i next conf ended quar speed] → Completes (.ifaceRecord f) s fun d =>
      d.pair.marks = Map.put s.dev.pair.marks i ⟨next, conf, ended, quar, speed⟩) ∧
    (∀ w i, f.body = .data [.ctxSet w] → x.keyCtx (keyOfWords w).1 (keyOfWords w).2 = some i → Completes (.ctxSet f) s fun d =>
      d = (x.setFromPeer i fun c => c.write false w).appliedTo) ∧
    (∀ tpl key i, f.body = .data [.ctxFree tpl key] → x.keyCtx tpl key = some i → Completes (.ctxFreeRecord f) s fun d =>
      d = (x.ctxFree i (x.ctx i).gen).1.appliedTo) ∧
    (∀ tpl key i, f.body = .data [.ctxTouch tpl key] → x.keyCtx tpl key = some i → Completes (.ctxTouch f) s fun d =>
      d = (x.setFromPeer i fun c => { c with aged := false, stale := false }).appliedTo) ∧
    (∀ set a n v, f.body = .data [.commit set [(0, a + n * 2 ^ 20, v)]] → set < 64 → s.dev.isOn (38 + set) = true → a < 2 ^ 20 →
      a + n ≤ 0x80000 → Completes (.commitRecord f) s fun d => d = (x.memStore set a (leBytes n v)).appliedTo) ∧
    (∀ set t, f.body = .data [.tfire set t] → set < 64 → Completes (.tfire f) s fun d =>
      d = (x.setSet set fun y => { y with timers := y.timers.filter fun e => !(e.1 = t && e.2.shadow) }).appliedTo) ∧
    (∀ n peak com, f.body = .data [.pol n peak com] → n < 262144 → Completes (.polRecord f) s fun d =>
      d = (x.setPolicer n fun y =>
        { y with peak := ⟨peak * creditUnit, s.dev.creditNow⟩, com := ⟨com * creditUnit, s.dev.creditNow⟩ }).appliedTo) ∧
    (∀ q dep peak com, f.body = .data [.queue q dep peak com] → q < 55296 → Completes (.queueRecord f) s fun d =>
      d = (x.setQueue q fun y =>
        { y with dep := ⟨dep * creditUnit, s.dev.creditNow⟩, peak := ⟨peak * creditUnit, s.dev.creditNow⟩, com := ⟨com * creditUnit, s.dev.creditNow⟩ }).appliedTo) ∧
    (f.body = .data [.syncStart] → Completes (.syncStart f) s fun d => d = x.appliedTo) ∧
    (f.body = .data [.syncDone] → s.dev.pairState = 1 → Completes (.syncDone f) s fun d =>
      d.pairState = 2 ∧ d.flag 0x700004 15 = true ∧ d.flag 0x700008 3 = true ∧ d.pair.feeding = false)) ∧
  (∀ s : State, s.dev.fjLinked = true →
    (s.dev.pair.pairing = false → s.dev.ledgersChecked = s.dev → Completes .markSetSend s fun d =>
      (s.dev.sendSeq 2 (.data s.dev.markSet)).pair.pairing = false →
        d = (s.dev.sendSeq 2 (.data s.dev.markSet)).setPair fun p => { p with markOut := true }) ∧
    (s.dev.mirrors = true → s.dev.sched.policers = [] → s.dev.sched.queues = [] → Completes .creditRecordSend s fun d =>
      d = { s.dev with pair := { s.dev.pair with credAt := s.dev.creditNow } })) ∧
  (∀ (s : State) (f : Fjarair) (i : Nat), s.dev.Canonical → s.dev.HearsNext f → isIface i = true →
    let x := s.dev.inTurn
    (f.body = .ctrl .absent → Completes (.ctrlAbsent f) s fun d => d = x.setPair fun p => { p with absent := true }) ∧
    (f.body = .ctrl (.offer i) → s.dev.mayTake i = true → Completes (.ctrlOffer f) s fun d =>
      d = (x.setHand i (some { step := 1, give := false })).sendCtrl (.accept i)) ∧
    (∀ h, f.body = .ctrl (.accept i) → Map.get? s.dev.pair.hands i = some h → h.give = true → h.step = 1 →
      Completes (.ctrlAccept f) s fun d => ∃ e : Dev,
        e = (x.setHand i (some { step := 2, give := true, end_ := s.dev.now + s.dev.drainTime })).ledgersChecked ∧
        d = (e.sendSeq 2 (.data e.markSet)).sendCtrl (.switch i)) ∧
    (∀ h, f.body = .ctrl (.refuse i) → Map.get? s.dev.pair.hands i = some h → h.step ≤ 1 → s.dev.pair.roleAsk = none →
      Completes (.ctrlRefuse f) s fun d => d = x.setHand i none) ∧
    (∀ h, f.body = .ctrl (.switch i) → Map.get? s.dev.pair.hands i = some h → h.give = false → h.step = 1 →
      Completes (.ctrlSwitch f) s fun d => d = ((x.setRole i true).setHand i (some { step := 2, give := false })).handDone i true) ∧
    (f.body = .ctrl (.ask i) → s.dev.pairState = 2 → (s.dev.port i).active = true → Map.has s.dev.pair.hands i = false →
      Completes (.ctrlTakeAsk f) s fun d => d = x.startGive i) ∧
    (f.body = .ctrl .move → s.dev.wear.move = none → Completes (.ctrlMove f) s fun d => d = x.setPair fun p => { p with peerMove := true }) ∧
    (f.body = .ctrl .moveEnd → Completes (.ctrlMoveEnd f) s fun d => d = x.setPair fun p => { p with peerMove := false })) ∧
  (∀ (s : State) (i : Fin 96) (h : Hand), isIface i = true → Map.get? s.dev.pair.hands i = some h → h.give = true → h.step = 2 →
    h.end_ ≤ s.dev.now → Completes (.handoverDrainEnd i) s fun d =>
      d = (((s.dev.setRole i false).setHand i none).event 0x700008 5).handDone i true) ∧
  (∀ (s : State) (w : Waiting) (l : List Waiting) (c : Chain), s.dev.fjLinked = true → s.dev.pair.toSend = [] →
    s.dev.pair.sent.length < 4096 → s.dev.pair.xq = w :: l → s.dev.chain? w.desc.chain w.desc.gen = some c →
    Completes .xferSend s fun d =>
      d.pair.xq = l ∧ d.pair.sent = s.dev.pair.sent ++ [(s.dev.pair.txSeq, .xfer w.desc.toWords c.bytes)] ∧
      d.pair.flying = Map.put s.dev.pair.flying s.dev.pair.txSeq w ∧ d.pair.txSeq = (s.dev.pair.txSeq + 1) % 2 ^ 32) ∧
  ∀ (s : State) (f : Fjarair) (w : List Nat) (b : List Byte), s.dev.HearsNext f → f.body = .xfer w b →
    Completes (.xferFrame f) s fun d => d = s.dev.inTurn.xferIn w b

/-! ### The collector, stored data, wear and moves (chapters 19 to 21) -/

/-- R599 to R611, R615. -/
def Obligations.CollectorRows : Prop :=
  (∀ (s : State) (src : BitVec 16) (rest : List (Fin 16 × BitVec 32)),
    ((s.dev.faults.pend.find? fun p => p.src = src.toNat) = none ∨ (∃ k, domOfSrc src.toNat = some k ∧ s.dev.isOn k = false) →
      Completes (.faultDecided src false rest) s fun d => d = s.dev.settle) ∧
    ∀ p, s.dev.isOn 1 = true → (∀ k, domOfSrc src.toNat = some k → s.dev.isOn k = true) →
      (s.dev.faults.pend.find? fun p => p.src = src.toNat) = some p →
      Completes (.faultDecided src false rest) s fun d =>
        let e := s.dev.setFaults fun x => { x with pend := x.pend.eraseIdx (x.pend.findIdx fun p => p.src = src.toNat) }
        d = (e.decideErr p rest).settle ∧
        (codeReact p.code = 0 → s.dev.override p.code = 0 → p.wear = false → p.code ≠ 0x3020 → p.code ≠ 0x3022 →
          s.dev.faults.handling = [] → s.dev.faults.queue.length < 256 →
          d.faults.queue = s.dev.faults.queue ++
            [{ seq := s.dev.faults.nextSeq, code := p.code, sev := 0, react := 0, whileHandling := false, injected := p.injected,
               requeued := p.requeued, overridden := false, srcState := (s.dev.srcOf p.src).state, coalesced := p.coalesced,
               src := p.src, recoveries := (s.dev.srcOf p.src).recoveries, earlier := 0, mono := p.mono, sec := p.sec, tim := p.tim,
               ns := p.ns, detail := p.detail }] ∧
          d.faults.nextSeq = (if s.dev.faults.nextSeq = 2 ^ 32 - 1 then 1 else s.dev.faults.nextSeq + 1) ∧
          (d.srcOf p.src).state = (s.dev.srcOf p.src).state)) ∧
  (∀ (d : Dev) (u : Nat) (p : Pend) (rest : List (Fin 16 × BitVec 32)), u < 0x1000 → p.src = srcAu u → p.code = 0x3030 →
    p.injected = false → d.override 0x3030 ≤ 1 → d.faults.handling = [] → (d.srcOf p.src).state = 0 →
    (d.srcOf p.src).times.length < 8 →
    ((d.decideErr p rest).srcOf p.src).state = 1 ∧ srcAu u ∈ (d.decideErr p rest).faults.isolated) ∧
  (∀ (s : State) (src : BitVec 16),
    let x := s.dev.srcOf src.toNat
    x.state = 1 →
    (s.dev.now < x.lastError + x.quiet → Completes (.quietExpiry src) s fun d => d = s.dev) ∧
    (x.lastError + x.quiet ≤ s.dev.now → (∀ k, domOfSrc src.toNat = some k → s.dev.isOn k = true) →
      Map.sorted s.dev.faults.srcs = true →
      Completes (.quietExpiry src) s fun d =>
        (d.srcOf src.toNat).state = 0 ∧
        (d.srcOf src.toNat).recoveries = (if x.injected then x.recoveries else min 65535 (x.recoveries + 1)))) ∧
  (∀ s : State, s.dev.bar0 = true → Completes .fltPop s fun d =>
    d = { s.dev with faults := { s.dev.faults with queue := s.dev.faults.queue.drop 1 } }) ∧
  ∀ (s : State) (src : BitVec 16), s.dev.bar0 = true →
    (Completes (.fltInjError src) s fun d => d.Raised src.toNat 0xC002 ∧ ∃ p ∈ d.faults.pend, p.src = src.toNat ∧ p.injected = true) ∧
    (Completes (.fltInjZeros src) s fun d => d.Raised src.toNat 0xC001) ∧
    Completes (.fltInjOnes src) s fun d => d.Raised src.toNat 0xC001

/-- R577 to R593, R620, R638, R642. -/
def Obligations.StorageAndMeasurementRows : Prop :=
  (∀ (s : State) (m : Fin 23) (a : Nat) (what : Stored) (changed : Bool), s.dev.Canonical →
    (∀ k, domOfSrc (srcMem m) = some k → s.dev.isOn k = true) → s.dev.flag (Dev.memBase m) 0 = true → m ≠ 10 → m ≠ 11 →
    (s.dev.mem m).hints = [] → s.dev.flag (Dev.memBase m + 0x0C) 0 = false → s.dev.flag (Dev.memBase m + 0x0C) 1 = false →
    (Completes (.scrubWord m a .clean what changed [] none) s fun d => d = s.dev) ∧
    (Completes (.scrubWord m a .poisoned what changed [] none) s fun d => d = s.dev) ∧
    (Completes (.scrubWord m a .corrected what changed [] none) s fun d =>
      d.cnt (Dev.memBase m + 0x10) = (s.dev.cnt (Dev.memBase m + 0x10) + 1) % 2 ^ 64) ∧
    Completes (.scrubWord m a .uncorrectable what changed [] none) s fun d => d.Raised (srcMem m) 0xC020) ∧
  (∀ (s : State) (m : Fin 2) (a : Nat) (l : List Nat), (s.dev.mem m).rows = a :: l → s.dev.isOn (110 + m) = true →
    (∀ t, (s.dev.mem m).fixAt = some t → t + 1000000000 ≤ s.dev.now) →
    (Completes (.hbmRowRepair m false) s fun d => (d.mem m).rows = l ∧
      (Map.getD (s.dev.mem m).gone 0 0 < Config.hbmRepairs →
        d.Raised (srcMem m) 0xC030 ∧ Map.getD (d.mem m).gone 0 0 = Map.getD (s.dev.mem m).gone 0 0 + 1) ∧
      (Config.hbmRepairs ≤ Map.getD (s.dev.mem m).gone 0 0 → d.Raised (srcMem m) 0xC032)) ∧
    Completes (.hbmRowRepair m true) s fun d => d.Raised (srcMem m) 0xC032 ∧ (d.mem m).rows = l) ∧
  (∀ (s : State) (st : Fin 2) (a : Nat) (good : Bool), s.dev.isOn (2 + st) = true → s.dev.pwrState ≠ 3 →
    ((st : Nat) ≠ s.dev.stw.active → Completes (.stewardFetchTrap st a good) s fun d =>
      d.Raised (srcMem (16 + st)) 0xC023 ∧ d.stw.spare = 2 ∧ d.stw.active = s.dev.stw.active) ∧
    ((st : Nat) = s.dev.stw.active → s.dev.stw.trapAt = none → Completes (.stewardFetchTrap st a true) s fun d =>
      d.Raised (srcMem (16 + st)) 0xC023 ∧ d.stw = { s.dev.stw with trapAt := some s.dev.now })) ∧
  (∀ (s : State) (src index : BitVec 16) (mon : Fin 4) (tm mv : Nat) (tj : Int), s.dev.flag 0x60000 3 = true →
    (mon : Nat) < monitorsOf src.toNat → s.dev.flag 0x60010 0 = false →
    (Completes (.monitorMeasurement src index mon tm mv tj false true) s fun d => d.Raised src.toNat 0xC068 ∧ d.wear = s.dev.wear) ∧
    let k := unitKey src.toNat (if src.toNat / 0x1000 = 9 then index.toNat else 0)
    (driftOf k mon tm mv tj ≤ (max 1 (s.dev.fld 0x60004 15 0) : Nat) → s.dev.vMoving = false →
      (∀ n, domOfSrc src.toNat = some n → s.dev.isOn n = true) →
      Completes (.monitorMeasurement src index mon tm mv tj false false) s fun d =>
        Map.get? (d.wearUnit k).drifts mon = some (driftOf k mon tm mv tj) ∧ d = { s.dev with wear := d.wear })) ∧
  (∀ s : State, s.dev.Canonical → s.dev.bar0 = true → Completes .injMon s fun d =>
    d.flag 0x60010 0 = true ∧ d = { s.dev with regs := d.regs }) ∧
  ∀ (s : State) (hourly : Bool), s.dev.Canonical →
    (∀ x ∈ s.dev.mbxs, ∀ t ∈ x.2.tickets, t.req.opcode ≠ 0x0B06) → (hourly = true ∨ s.dev.wear.pages ≠ 0) →
    (Completes (.ledgerPageWrite hourly true) s fun d =>
      d.cnt 0x60120 = (s.dev.cnt 0x60120 + 1) % 2 ^ 64 ∧ d.boot.ledger = d.pagesNow ∧
      (hourly = false → d.wear.pages = s.dev.wear.pages - 1) ∧
      (hourly = true → d.cnt 0x60100 = (s.dev.cnt 0x60100 + 1) % 2 ^ 64)) ∧
    Completes (.ledgerPageWrite hourly false) s fun d =>
      d.Raised 0xC000 0xC064 ∧ d.flag 0x6000C 3 = true ∧ d.boot = s.dev.boot

/-- R65, R83, R491, R556, R626 to R636. -/
def Obligations.MoveRows : Prop :=
  (∀ (s : State) (die : Fin 4) (group : Fin 82),
    let l := s.dev.laneAt die group
    (Map.getD s.dev.lanes (die * 128 + l) {}).testing = true →
    (Completes (.laneSelfTestDone die group true) s fun d =>
      d = (s.dev.setLane die l fun y => { y with testing := false }).excludeLane die group) ∧
    Completes (.laneSelfTestDone die group false) s fun d =>
      d = (s.dev.setLane die l fun y => { y with testing := false }).countWear (srcLane die l) 0x1021 []) ∧
  (∀ (s : State) (m : Move) (ok bad : Bool), s.dev.wear.move = some m →
    (m.kind = 0 → s.dev.pairState = 2 →
      (m.step ≤ 2 → Completes (.courseMove ok bad) s fun d => d = (s.dev.moveGive m ok).settle) ∧
      (3 ≤ m.step → m.step < 6 → Completes (.courseMove ok bad) s fun d => d = (s.dev.courseSwitch m bad).settle)) ∧
    (m.kind = 0 → 6 ≤ m.step → Completes (.courseMove ok bad) s fun d => d = (s.dev.moveEnd m).settle) ∧
    (m.kind = 3 → s.dev.pairState = 2 →
      (m.step ≤ 2 → Completes (.laneMove ok) s fun d => d = (s.dev.moveGive m ok).settle) ∧
      (3 ≤ m.step → m.step < 6 →
        let i := keySrc m.unit % 0x1000
        ∀ x < 82, ((List.range 82).find? fun y => s.dev.laneAt (i / 128) y = i % 128) = some x →
          Completes (.laneMove ok) s fun d =>
            d.laneAt (i / 128) x = keySrc m.spare % 0x1000 % 128 ∧ (d.wearUnit m.unit).st = some 4 ∧
            ∃ n, d.wear.move = some n ∧ n.step = 7 ∧ n.kind = m.kind ∧ n.unit = m.unit ∧ n.spare = m.spare)) ∧
    (m.kind = 3 → 6 ≤ m.step → Completes (.laneMove ok) s fun d => d = (s.dev.moveEnd m).settle) ∧
    (m.kind = 0 → m.step < 6 → s.dev.pairState ≠ 2 → Completes (.courseMove ok bad) s fun d => d.wear.move = none)) ∧
  (∀ (s : State) (lane : Fin 8) (x : Nat) (l : List Nat),
    let die := (lane : Nat) / 2
    let u := unitKey (srcLane die (s.dev.laneAt die (80 + (lane : Nat) % 2))) 0
    (3, u) ∈ s.dev.wear.waits → s.dev.sparesOf 3 u = x :: l → Completes (.fjarairLaneMove lane) s fun d =>
      d = ((((s.dev.unwait (3, u)).fjLane lane false).laneSwitch u x).event 0x700008 9).moved 3 u x) ∧
  (∀ (s : State) (m : Fin 2) (w : Nat × Nat) (x : Nat) (l : List Nat), Map.sorted s.dev.wear.units = true → x ≠ w.2 →
    (s.dev.wear.waits.find? fun w => w.1 = 6 && keySrc w.2 = srcMem m) = some w → s.dev.isOn (110 + m) = true →
    s.dev.sparesOf 6 w.2 = x :: l →
    (Completes (.pseudoChannelMove m true) s fun d =>
      (d.wearUnit w.2).st = some 4 ∧ (d.wearUnit x).st = some 0 ∧ w ∉ d.wear.waits) ∧
    Completes (.pseudoChannelMove m false) s fun d => (d.wearUnit x).st = some 3 ∧ d.Raised (keySrc x) 0xC063) ∧
  (∀ s : State,
    (s.dev.wear.move.isSome = true ∨ s.dev.partnerWaits = [] → Completes .moveRetry s fun d => d = s.dev) ∧
    (s.dev.wear.move = none → ∀ w l, s.dev.partnerWaits = w :: l → ∀ x t, s.dev.sparesOf w.1 w.2 = x :: t →
      s.dev.mayMove w.1 w.2 = false → Completes .moveRetry s fun d =>
        d = s.dev.defer w ∧
        d.cnt 0x60118 = if s.dev.wear.noted.contains w then s.dev.cnt 0x60118 else (s.dev.cnt 0x60118 + 1) % 2 ^ 64)) ∧
  (∀ s : State, 3 ≤ s.dev.stage → s.dev.isOn (2 + s.dev.stw.active) = true → s.dev.stw.lostAt = none →
    (s.dev.stw.spare = 0 →
      (Completes .stewardHeartbeatLoss s fun d => d = s.dev.takeLedger ∧ d.stw.active = 1 - s.dev.stw.active) ∧
      Completes (.stewardRoleChange false) s fun d => d = s.dev.takeLedger) ∧
    (s.dev.stw.spare ≠ 0 →
      (Completes .stewardHeartbeatLoss s fun d =>
        d = { s.dev with stw := { s.dev.stw with lostAt := some s.dev.now, halted := [] } }) ∧
      Completes (.stewardRoleChange false) s fun d =>
        d = { s.dev with stw := { s.dev.stw with lostAt := some s.dev.now, halted := [] } })) ∧
  (∀ s : State, s.dev.unitState (unitKey (srcSteward s.dev.stw.active) 0) = 3 → s.dev.stw.spare = 0 → s.dev.flag 0x60000 0 = true →
    s.dev.stw.lostAt = none → Completes (.stewardRoleChange true) s fun d =>
      d = (s.dev.plannedChange false).spend 8 ∧ d.stw.active = 1 - s.dev.stw.active ∧ d.stw.spare = 2) ∧
  ∀ (s : State) (accepts : Bool), s.dev.stw.spare = 1 → (1 - s.dev.stw.active) ∉ s.dev.stw.halted →
    (s.dev.stw.swap = none →
      (Completes (.spareImageLoaded false accepts) s fun d => d = { s.dev with stw := { s.dev.stw with spare := 2 } }) ∧
      (s.dev.stw.lostAt = none → s.dev.unitState (unitKey (srcSteward s.dev.stw.active) 0) ≠ 3 →
        Completes (.spareImageLoaded true accepts) s fun d => d = { s.dev with stw := { s.dev.stw with spare := 0 } })) ∧
    ∀ w, s.dev.stw.swap = some w →
      (Completes (.spareImageLoaded false accepts) s fun d => d.stw.swap = none ∧ d.stw.active = s.dev.stw.active) ∧
      (s.dev.wear.move = none → Completes (.spareImageLoaded true true) s fun d =>
        d.stw.swap = none ∧ d.stw.active = 1 - s.dev.stw.active)

/-! ### The debug port and boundary scan (chapter 23) -/

/-- R668 to R671, R674. -/
def Obligations.DebugFramesAreGated : Prop :=
  (∀ (c : Instr) (s : State) (good : Bool) (lvl : Nat), s.dev.frameRow c = some (good, lvl) →
    (s.dev.isOn 1 = false ∨ s.dev.dbg.started = false → exec c s = .next s) ∧
    (s.dev.isOn 1 = true → s.dev.dbg.started = true →
      (good = false → Completes c s fun d =>
        d = { s.dev with dbg := { s.dev.dbg with errs := satAdd 32 s.dev.dbg.errs 1 }, out := s.dev.out ++ [.dbg 4 []] }) ∧
      (good = true → s.dev.debugLevel < lvl → Completes c s fun d =>
        d.Raised 0xE000 0xE022 ∧ d = { s.dev with faults := d.faults, out := s.dev.out ++ [.dbg 3 []] }))) ∧
  ∀ s : State, s.dev.isOn 1 = true → s.dev.power.armed = false → Completes .attentionSequence s fun d => d.dbg.started = true

/-- R670 to R674. -/
def Obligations.DebugAccesses : Prop :=
  (∀ s : State, s.dev.Speaks 0 → Completes (.debugNop true) s fun d => d = { s.dev with out := s.dev.out ++ [.dbg 1 []] }) ∧
  (∀ (s : State) (space : BitVec 4) (addr : BitVec 48) (count : BitVec 8), s.dev.Speaks 2 →
    Dev.debugSpan space.toNat addr.toNat (count.toNat + 1) = true →
    Completes (.debugRead space addr count true true) s fun d => d = { s.dev with out := s.dev.out ++ [.dbg 2 []] }) ∧
  (∀ (s : State) (addr : BitVec 48), s.dev.Speaks 1 → addr.toNat % 4 = 0 → addr.toNat < 2 ^ 24 → s.dev.unpowered addr.toNat = false →
    Completes (.debugRead 0 addr 0 true false) s fun d =>
      d = { s.dev with out := s.dev.out ++ [.dbg 1 [s.dev.peek addr.toNat]] }) ∧
  (∀ (s : State) (set : Fin 64) (off : Nat), s.dev.Speaks 2 → s.dev.isOn (38 + set) = true → off % 4 = 0 → off + 4 ≤ 2 ^ 19 →
    Completes (.debugRead 3 (BitVec.ofNat 48 (set * 2 ^ 32 + off)) 0 true false) s fun d =>
      (off / 8 ∉ (s.dev.set set).poison → d = { s.dev with out := s.dev.out ++ [.dbg 1 [s.dev.memWord set off]] }) ∧
      (off / 8 ∈ (s.dev.set set).poison → d = { s.dev with out := s.dev.out ++ [.dbg 5 [0]] })) ∧
  (∀ (s : State) (set : Fin 64) (p : Fin 9) (k : Fin 32), s.dev.Speaks 2 →
    Completes (.debugRead 4 (BitVec.ofNat 48 (set * 2 ^ 16 + p * 2 ^ 12 + k)) 0 true false) s fun d =>
      d = { s.dev with out := s.dev.out ++ [.dbg 1 [(s.dev.eng set p).core.reg k % 2 ^ 32]] }) ∧
  (∀ (s : State) (addr : BitVec 48) (v : BitVec 32), s.dev.Speaks 3 → addr.toNat % 4 = 0 → addr.toNat < 2 ^ 24 →
    Completes (.debugWrite 0 addr [v] true) s fun d => d = (s.dev.hostWrite addr.toNat 15 v.toNat).debugAck 1) ∧
  (∀ (s : State) (set : Fin 64) (off : Nat) (v : BitVec 32), s.dev.Speaks 3 → s.dev.isOn (38 + set) = true → off % 4 = 0 →
    off + 4 ≤ 2 ^ 19 → Completes (.debugWrite 3 (BitVec.ofNat 48 (set * 2 ^ 32 + off)) [v] true) s fun d =>
      d = (s.dev.memStore set off (leBytes 4 v.toNat)).debugAck 1) ∧
  (∀ (s : State) (set : Fin 64) (p : Fin 9) (k : Fin 32) (v : BitVec 32), s.dev.Canonical → s.dev.Speaks 3 → (k : Nat) ≠ 0 →
    let a := BitVec.ofNat 48 (set * 2 ^ 16 + p * 2 ^ 12 + k)
    ((s.dev.eng set p).halted = true → Completes (.debugWrite 4 a [v] true) s fun d =>
      d.out = s.dev.out ++ [.dbg 1 []] ∧
      (d.eng set p).core = (s.dev.eng set p).core.set k ((s.dev.eng set p).core.reg k / 2 ^ 32 * 2 ^ 32 + v.toNat) false) ∧
    ((s.dev.eng set p).halted = false → Completes (.debugWrite 4 a [v] true) s fun d =>
      d = { s.dev with out := s.dev.out ++ [.dbg 3 []] })) ∧
  (∀ (s : State) (n : Fin 8) (v : BitVec 32), s.dev.Speaks 2 → s.dev.debugLevel = 2 → v.getLsbD 30 = false →
    Map.sorted s.dev.dbg.bps = true →
    Completes (.debugWrite 6 (BitVec.ofNat 48 (0x10 + 4 * n)) [v] true) s fun d =>
      Map.getD d.dbg.bps (0x10 + 4 * n) 0 = (v &&& 0xFBF00FFF#32) ∧ d.out = s.dev.out ++ [.dbg 1 []]) ∧
  ∀ (s : State) (addr : BitVec 48) (v : BitVec 32), s.dev.Speaks 2 → s.dev.debugLevel = 2 → addr.toNat % 4 = 0 →
    addr.toNat < 2 ^ 24 → Completes (.debugWrite 0 addr [v] true) s fun d => d.Raised 0xE000 0xE022 ∧ d.regs = s.dev.regs

/-- R674, R675. -/
def Obligations.DebugUnlocking : Prop :=
  (∀ (s : State) (level : BitVec 2), s.dev.Speaks 0 → level ≠ 0 →
    (s.dev.flag 0x220 28 = false → Completes (.debugChallenge level true) s fun d =>
      ∃ n, Map.get? d.dbg.nonces level.toNat = some (n, s.dev.now + 60000000000) ∧ n.length = 48 ∧
        d.out = s.dev.out ++ [.dbg 1 (Dev.bytesToWords n)] ∧ d.regs = s.dev.regs) ∧
    (s.dev.flag 0x220 28 = true → Completes (.debugChallenge level true) s fun d =>
      d = { s.dev with out := s.dev.out ++ [.dbg 3 []] })) ∧
  (∀ (s : State) (level : BitVec 2) (response : List (BitVec 32)), s.dev.Canonical → s.dev.Speaks 0 → level ≠ 0 →
    response.length = 24 → Completes (.debugUnlock level response true) s fun d =>
      d.flag 0x220 29 = true ∧ d.debugLevel = s.dev.debugLevel ∧
      d.dbg.verify = some (level.toNat, response.flatMap fun w => beBytes 4 w.toNat) ∧ d.out = s.dev.out ++ [.dbg 1 []]) ∧
  (∀ (s : State) (level : Nat) (sig : List Byte), s.dev.Canonical → Map.sorted s.dev.dbg.nonces = true → level < 4 →
    s.dev.dbg.verify = some (level, sig) → Completes .unlockVerifyDone s fun d =>
      d.dbg.verify = none ∧ d.flag 0x220 29 = false ∧ Map.get? d.dbg.nonces level = none ∧
      (s.dev.unlockPasses level sig = true → d.debugLevel = level ∧ d.fld 0x220 23 16 = 0 ∧ d.Raised 0xE000 0xE020) ∧
      (s.dev.unlockPasses level sig = false →
        d.debugLevel = s.dev.debugLevel ∧ d.fld 0x220 23 16 = min 255 (s.dev.fld 0x220 23 16 + 1) ∧ d.Raised 0xE000 0xE021 ∧
        (3 ≤ s.dev.fld 0x220 23 16 → d.flag 0x220 28 = true ∧ d.dbg.lockEnd = some (s.dev.now + 60000000000)))) ∧
  (∀ s : State, s.dev.Canonical → s.dev.Speaks 0 → Completes (.debugLock true) s fun d =>
    d.debugLevel = 0 ∧ d.dbg.bps = [] ∧ d.stw.halted = [] ∧ (∀ x ∈ d.sets, ∀ e ∈ x.2.engines, e.2.halted = false) ∧
    d.out = s.dev.out ++ [.dbg 1 []]) ∧
  (∀ (s : State) (level : BitVec 2) (n : List Byte) (t : Nat), Map.sorted s.dev.dbg.nonces = true →
    Map.get? s.dev.dbg.nonces level.toNat = some (n, t) →
    (t ≤ s.dev.now → Completes (.nonceExpiry level) s fun d =>
      Map.get? d.dbg.nonces level.toNat = none ∧ d = { s.dev with dbg := { s.dev.dbg with nonces := d.dbg.nonces } }) ∧
    (s.dev.now < t → Completes (.nonceExpiry level) s fun d => d = s.dev)) ∧
  ∀ (s : State) (t : Nat), s.dev.Canonical → s.dev.dbg.lockEnd = some t →
    (t ≤ s.dev.now → Completes .lockoutEnd s fun d => d.flag 0x220 28 = false ∧ d.dbg.lockEnd = none ∧ d.debugLevel = s.dev.debugLevel) ∧
    (s.dev.now < t → Completes .lockoutEnd s fun d => d = s.dev)

/-- R676, R679, R681, R682. -/
def Obligations.HaltingAndScan : Prop :=
  (∀ (s : State) (set : Fin 64) (p : Fin 9), s.dev.Canonical → s.dev.Speaks 2 →
    let pos := BitVec.ofNat 4 p
    let e := s.dev.eng set p
    (Dev.engState e p = 0 → e.item = none → Completes (.engineHalt set pos true) s fun d =>
      (d.eng set p).halted = true ∧ d.out = s.dev.out ++ [.dbg 1 []]) ∧
    (e.halted = true → Completes (.engineResume set pos true) s fun d =>
      (d.eng set p).halted = false ∧ (d.eng set p).core = e.core ∧ (d.eng set p).item = e.item ∧ d.out = s.dev.out ++ [.dbg 1 []]) ∧
    (e.halted = false → Completes (.engineResume set pos true) s fun d => d = { s.dev with out := s.dev.out ++ [.dbg 2 []] }) ∧
    (e.halted = true → e.item.isSome = true → Completes (.stepStretch set pos true) s fun d =>
      (d.eng set p).halted = false ∧ Map.has (d.eng set p).intr 1 = true ∧ (d.eng set p).core = e.core) ∧
    (e.halted = true → e.item.isSome = true → s.dev.debugLevel = 3 → Completes (.stepMicro set pos true) s fun d =>
      (d.eng set p).halted = false ∧ (d.eng set p).dbg = 1 ∧ (d.eng set p).core = e.core)) ∧
  (∀ (s : State) (x : Fin 2), s.dev.Speaks 2 →
    ((x : Nat) ≠ s.dev.stw.active → (x : Nat) ∉ s.dev.stw.halted → s.dev.stw.spare < 2 → Completes (.stewardHalt x true) s fun d =>
      d = { s.dev with stw := { s.dev.stw with spare := 1, halted := s.dev.stw.halted ++ [(x : Nat)] }, out := s.dev.out ++ [.dbg 1 []] }) ∧
    ((x : Nat) = s.dev.stw.active → s.dev.debugLevel = 3 →
      (s.dev.stw.spare = 0 → s.dev.stw.swap = none → Completes (.stewardHalt x true) s fun d =>
        d.stw.swap = some ⟨none, 0, true, none⟩ ∧ d.stw.spare = 1 ∧ d.stw.active = s.dev.stw.active ∧ d.out = s.dev.out ++ [.dbg 1 []]) ∧
      (s.dev.stw.spare ≠ 0 → Completes (.stewardHalt x true) s fun d => d = { s.dev with out := s.dev.out ++ [.dbg 3 []] })) ∧
    ((x : Nat) ∈ s.dev.stw.halted →
      (Completes (.stewardResume x true) s fun d =>
        (x : Nat) ∉ d.stw.halted ∧ (s.dev.stw.spare ≠ 2 → d.stw.spare = 1) ∧ d.out = s.dev.out ++ [.dbg 1 []]) ∧
      Completes (.stewardStep x true) s fun d => d = { s.dev with out := s.dev.out ++ [.dbg 1 []] }) ∧
    ((x : Nat) ∉ s.dev.stw.halted → Completes (.stewardStep x true) s fun d => d = { s.dev with out := s.dev.out ++ [.dbg 2 []] })) ∧
  (∀ (s : State) (balls load : Nat),
    (Completes .tapReset s fun d => d = { s.dev with dbg := { s.dev.dbg with ir := 2, drives := false } }) ∧
    (Completes (.samplePreload balls load) s fun d =>
      d = { s.dev with dbg := { s.dev.dbg with ir := 1, drives := false, cells := load }, out := s.dev.out ++ [.tdo balls] }) ∧
    (Completes .idcode s fun d =>
      d = { s.dev with dbg := { s.dev.dbg with ir := 2, drives := false }, out := s.dev.out ++ [.tdo 0x1480014F] }) ∧
    Completes .bypass s fun d => d = { s.dev with dbg := { s.dev.dbg with ir := 0xFF, drives := false } }) ∧
  ∀ (c : Instr) (ir : Nat) (drives : Bool) (s : State), s.dev.Canonical →
    (c, ir, drives) ∈ [(Instr.extest, 0, true), (Instr.clamp, 3, true), (Instr.highz, 4, false), (Instr.extestPulse, 5, true),
      (Instr.extestTrain, 6, true)] →
    (s.dev.scanAllowed = true → Completes c s fun d => d = { s.dev with dbg := { s.dev.dbg with ir := ir, drives := drives } }) ∧
    (s.dev.scanAllowed = false → Completes c s fun d =>
      d.dbg = { s.dev.dbg with ir := 0xFF, drives := false } ∧ d.flag 0x220 27 = true ∧ d.Raised 0xE000 0xE022)

/-! ### Frames, and the memory of a set -/

/-- What each row of `frameOf` leaves unchanged. -/
def Obligations.ConfinedRowsKeepTheRest : Prop :=
  ∀ (c : Instr) (s s' : State) (f : Dev → Dev → Dev), frameOf c = some f → exec c s = .next s' →
    s'.dev = f s.dev s'.dev ∧ s'.pending = s.pending

/-- The memory of a set, byte by byte. -/
def Obligations.SetMemoryReadsWhatWasWritten : Prop :=
  ∀ (d : Dev) (s a : Nat) (l : List Byte), Map.sorted d.sets = true → Memory.wf (d.set s).mem = true →
    (d.memWrite s a l).memRead s a l.length = l ∧
    (∀ b n, b + n ≤ a ∨ a + l.length ≤ b → (d.memWrite s a l).memRead s b n = d.memRead s b n) ∧
    (∀ t, t ≠ s → (d.memWrite s a l).set t = d.set t) ∧
    Memory.wf ((d.memWrite s a l).set s).mem = true ∧
    (∀ w, w ∈ ((d.memWrite s a l).set s).poison ↔ w ∈ (d.set s).poison ∧ ¬ (a ≤ 8 * w ∧ 8 * w + 8 ≤ a + l.length)) ∧
    (d.memWrite s a l) = { d with sets := (d.memWrite s a l).sets }
end

