-- ==== Sys2Proof/Laws/Map.lean ====
section
/-! SUPPORT. Sparse maps: the canonical form (strictly rising keys, no entry equal to what an unlisted key reads as), which every
operation keeps, and reading after writing. -/

namespace Sys2Proof.Machine.Map

variable {α : Type}

theorem sorted_cons_iff (k : Nat) (v : α) (m : Map α) :
    sorted ((k, v) :: m) = true ↔ (∀ e ∈ m, k < e.1) ∧ sorted m = true := by
  induction m generalizing k v with
  | nil => simp [sorted]
  | cons e m ih =>
    obtain ⟨k', v'⟩ := e
    simp only [sorted, Bool.and_eq_true, decide_eq_true_eq, List.mem_cons]
    constructor
    · rintro ⟨h, hs⟩
      refine ⟨fun e he => ?_, hs⟩
      rcases he with rfl | he
      · exact h
      · exact Nat.lt_trans h (((ih k' v').mp hs).1 e he)
    · exact fun ⟨h, hs⟩ => ⟨h (k', v') (.inl rfl), hs⟩

/-- A key below all the listed ones is not listed. -/
theorem get?_eq_none {m : Map α} {q : Nat} (h : ∀ e ∈ m, q < e.1) : get? m q = none := by
  cases m with
  | nil => rfl
  | cons e m =>
    have hq := h e (.head _)
    simp [get?, hq, Nat.ne_of_gt hq]

/-- Reading a key just written. -/
@[simp] theorem get?_put_self (m : Map α) (q : Nat) (v : α) : get? (put m q v) q = some v := by
  induction m with
  | nil => simp [put, get?]
  | cons e m ih =>
    obtain ⟨k, w⟩ := e
    simp only [put]
    split
    · simp [get?]
    · split <;> simp_all [get?]

/-- Reading another key than the one written. -/
theorem get?_put_of_ne (m : Map α) {q r : Nat} (v : α) (h : r ≠ q) (hs : sorted m = true) :
    get? (put m q v) r = get? m r := by
  induction m with
  | nil =>
    simp only [put, get?]
    split <;> simp_all
  | cons e m ih =>
    obtain ⟨k, w⟩ := e
    have hm := (sorted_cons_iff k w m).mp hs
    simp only [put]
    split
    · simp_all [get?]
      split
      · omega
      · rfl
    · split
      · simp only [get?]
        rw [if_neg (Ne.symm h)]
        split
        · rw [if_neg (by omega), if_pos (by omega)]
        · rfl
      · simp only [get?, ih hm.2]

theorem mem_put {m : Map α} {q : Nat} {v : α} {e : Nat × α} (h : e ∈ put m q v) : e = (q, v) ∨ e ∈ m := by
  induction m with
  | nil => simpa [put] using h
  | cons x m ih =>
    simp only [put] at h
    split at h
    · rcases List.mem_cons.mp h with h | h <;> simp [h]
    · split at h
      · rcases List.mem_cons.mp h with h | h <;> simp_all
      · rcases List.mem_cons.mp h with h | h
        · simp [h]
        · rcases ih h with h | h <;> simp [h]

theorem mem_erase {m : Map α} {q : Nat} {e : Nat × α} (h : e ∈ erase m q) : e ∈ m := by
  induction m with
  | nil => simp [erase] at h
  | cons x m ih =>
    simp only [erase] at h
    split at h
    · exact .tail _ h
    · split at h
      · exact h
      · rcases List.mem_cons.mp h with h | h
        · simp [h]
        · exact .tail _ (ih h)

/-- Writing a key keeps the keys rising. -/
theorem sorted_put {m : Map α} (q : Nat) (v : α) (h : sorted m = true) : sorted (put m q v) = true := by
  induction m with
  | nil => simp [put, sorted]
  | cons e m ih =>
    obtain ⟨k, w⟩ := e
    have hm := (sorted_cons_iff k w m).mp h
    simp only [put]
    split
    · subst_vars
      exact (sorted_cons_iff _ _ _).mpr hm
    · split
      · simp [sorted, *]
      · refine (sorted_cons_iff _ _ _).mpr ⟨fun e he => ?_, ih hm.2⟩
        rcases mem_put he with rfl | he
        · simp only
          omega
        · exact hm.1 e he

/-- Erasing a key keeps the keys rising. -/
theorem sorted_erase {m : Map α} (q : Nat) (h : sorted m = true) : sorted (erase m q) = true := by
  induction m with
  | nil => rfl
  | cons e m ih =>
    obtain ⟨k, w⟩ := e
    have hm := (sorted_cons_iff k w m).mp h
    simp only [erase]
    split
    · exact hm.2
    · split
      · exact h
      · exact (sorted_cons_iff _ _ _).mpr ⟨fun e he => hm.1 e (mem_erase he), ih hm.2⟩

theorem wf_iff [DecidableEq α] (m : Map α) (d : α) :
    wf m d = true ↔ sorted m = true ∧ ∀ e ∈ m, e.2 ≠ d := by
  simp [wf, List.all_eq_true]

/-- The empty map is canonical. -/
@[simp] theorem wf_nil [DecidableEq α] (d : α) : wf ([] : Map α) d = true := rfl

/-- Writing with the default removed keeps the canonical form. -/
@[simp] theorem wf_putD [DecidableEq α] {m : Map α} {d : α} (q : Nat) (v : α) (h : wf m d = true) :
    wf (putD m q d v) d = true := by
  have ⟨hs, hd⟩ := (wf_iff m d).mp h
  unfold putD
  split
  · exact (wf_iff _ _).mpr ⟨sorted_erase q hs, fun e he => hd e (mem_erase he)⟩
  · refine (wf_iff _ _).mpr ⟨sorted_put q v hs, fun e he => ?_⟩
    rcases mem_put he with rfl | he
    · assumption
    · exact hd e he

/-- Changing a value in place keeps the canonical form. -/
@[simp] theorem wf_upd [DecidableEq α] {m : Map α} {d : α} (q : Nat) (f : α → α) (h : wf m d = true) :
    wf (upd m q d f) d = true := wf_putD q _ h

/-- An erased key is not listed. -/
theorem get?_erase_self {m : Map α} (q : Nat) (hs : sorted m = true) : get? (erase m q) q = none := by
  induction m with
  | nil => rfl
  | cons e m ih =>
    obtain ⟨k, w⟩ := e
    have hm := (sorted_cons_iff k w m).mp hs
    simp only [erase]
    split
    · next h => exact get?_eq_none (h ▸ hm.1)
    · next h =>
      split
      · next h' => simp [get?, h, h']
      · next h' => simp only [get?, if_neg h, if_neg h', ih hm.2]

/-- Erasing leaves what another key reads. -/
theorem get?_erase_of_ne {m : Map α} {q r : Nat} (h : r ≠ q) (hs : sorted m = true) : get? (erase m q) r = get? m r := by
  induction m with
  | nil => rfl
  | cons e m ih =>
    obtain ⟨k, w⟩ := e
    have hm := (sorted_cons_iff k w m).mp hs
    simp only [erase]
    split
    · next hk =>
      subst hk
      simp only [get?, if_neg (Ne.symm h)]
      split
      · exact get?_eq_none fun e he => Nat.lt_trans ‹_› (hm.1 e he)
      · rfl
    · split
      · rfl
      · simp only [get?, ih hm.2]

/-- Writing keeps the keys rising, the default removed. -/
theorem sorted_putD [DecidableEq α] {m : Map α} (q : Nat) (d v : α) (h : sorted m = true) : sorted (putD m q d v) = true := by
  unfold putD
  split
  · exact sorted_erase q h
  · exact sorted_put q v h

theorem sorted_upd [DecidableEq α] {m : Map α} (q : Nat) (d : α) (f : α → α) (h : sorted m = true) : sorted (upd m q d f) = true :=
  sorted_putD q d _ h

/-- Reading a key just written. -/
theorem getD_putD_self [DecidableEq α] {m : Map α} (q : Nat) (d v : α) (hs : sorted m = true) : getD (putD m q d v) q d = v := by
  unfold putD getD
  split
  · next h => rw [get?_erase_self q hs, h]; rfl
  · rw [get?_put_self]; rfl

/-- Reading another key than the one written. -/
theorem getD_putD_of_ne [DecidableEq α] {m : Map α} {q r : Nat} (d v : α) (h : r ≠ q) (hs : sorted m = true) :
    getD (putD m q d v) r d = getD m r d := by
  unfold putD getD
  split
  · rw [get?_erase_of_ne h hs]
  · rw [get?_put_of_ne m v h hs]

theorem getD_upd_self [DecidableEq α] {m : Map α} (q : Nat) (d : α) (f : α → α) (hs : sorted m = true) :
    getD (upd m q d f) q d = f (getD m q d) := getD_putD_self q d _ hs

theorem getD_upd_of_ne [DecidableEq α] {m : Map α} {q r : Nat} (d : α) (f : α → α) (h : r ≠ q) (hs : sorted m = true) :
    getD (upd m q d f) r d = getD m r d := getD_putD_of_ne d _ h hs

/-- What a map may list after a write. -/
theorem mem_putD [DecidableEq α] {m : Map α} {q : Nat} {d v : α} {e : Nat × α} (h : e ∈ putD m q d v) : e = (q, v) ∨ e ∈ m := by
  unfold putD at h
  split at h
  · exact .inr (mem_erase h)
  · exact mem_put h

theorem mem_upd [DecidableEq α] {m : Map α} {q : Nat} {d : α} {f : α → α} {e : Nat × α} (h : e ∈ upd m q d f) :
    e = (q, f (getD m q d)) ∨ e ∈ m := mem_putD h

end Sys2Proof.Machine.Map
end

