-- ==== Sys2Proof/Laws/State.lean ====
section
/-! SUPPORT. What each named update of the block leaves alone: every field but the one it is named for, one rewrite rule a field, so
that no proof unfolds a record update. -/

namespace Sys2Proof.Machine.Dev

variable (d : Dev)

/-- `setReg` changes `regs` alone. -/
@[simp] theorem setReg_fields (a v : Nat) :
    (d.setReg a v).cnts = d.cnts ∧ (d.setReg a v).latch = d.latch ∧ (d.setReg a v).readData = d.readData ∧
    (d.setReg a v).staged = d.staged ∧ (d.setReg a v).fresh = d.fresh ∧ (d.setReg a v).out = d.out ∧
    (d.setReg a v).unmasked = d.unmasked ∧ (d.setReg a v).msixPend = d.msixPend ∧ (d.setReg a v).faults = d.faults ∧
    (d.setReg a v).time = d.time ∧ (d.setReg a v).doms = d.doms ∧ (d.setReg a v).serving = d.serving ∧
    (d.setReg a v).ledgers = d.ledgers ∧ (d.setReg a v).accts = d.accts ∧ (d.setReg a v).nextPid = d.nextPid ∧
    (d.setReg a v).west = d.west ∧ (d.setReg a v).east = d.east ∧ (d.setReg a v).sched = d.sched ∧
    (d.setReg a v).ports = d.ports ∧ (d.setReg a v).lanes = d.lanes ∧ (d.setReg a v).laneMap = d.laneMap ∧
    (d.setReg a v).epochs = d.epochs ∧ (d.setReg a v).staging = d.staging ∧ (d.setReg a v).courses = d.courses ∧
    (d.setReg a v).slices = d.slices ∧ (d.setReg a v).store = d.store ∧ (d.setReg a v).banks = d.banks ∧
    (d.setReg a v).asmMap = d.asmMap ∧ (d.setReg a v).aus = d.aus ∧ (d.setReg a v).streams = d.streams ∧
    (d.setReg a v).sets = d.sets ∧ (d.setReg a v).chans = d.chans ∧ (d.setReg a v).itemIds = d.itemIds ∧
    (d.setReg a v).freeWait = d.freeWait ∧ (d.setReg a v).badCtx = d.badCtx ∧ (d.setReg a v).tiles = d.tiles ∧
    (d.setReg a v).tileKeys = d.tileKeys ∧ (d.setReg a v).mbxs = d.mbxs ∧ (d.setReg a v).power = d.power ∧
    (d.setReg a v).pair = d.pair ∧ (d.setReg a v).wear = d.wear ∧ (d.setReg a v).stw = d.stw ∧ (d.setReg a v).mems = d.mems ∧
    (d.setReg a v).boot = d.boot ∧ (d.setReg a v).dbg = d.dbg ∧ (d.setReg a v).export_ = d.export_ := by
  and_intros <;> rfl

/-- `setFld` changes `regs` alone. -/
@[simp] theorem setFld_fields (a hi lo v : Nat) :
    (d.setFld a hi lo v).cnts = d.cnts ∧ (d.setFld a hi lo v).latch = d.latch ∧ (d.setFld a hi lo v).readData = d.readData ∧
    (d.setFld a hi lo v).staged = d.staged ∧ (d.setFld a hi lo v).fresh = d.fresh ∧ (d.setFld a hi lo v).out = d.out ∧
    (d.setFld a hi lo v).unmasked = d.unmasked ∧ (d.setFld a hi lo v).msixPend = d.msixPend ∧
    (d.setFld a hi lo v).faults = d.faults ∧ (d.setFld a hi lo v).time = d.time ∧ (d.setFld a hi lo v).doms = d.doms ∧
    (d.setFld a hi lo v).serving = d.serving ∧ (d.setFld a hi lo v).ledgers = d.ledgers ∧ (d.setFld a hi lo v).accts = d.accts ∧
    (d.setFld a hi lo v).nextPid = d.nextPid ∧ (d.setFld a hi lo v).west = d.west ∧ (d.setFld a hi lo v).east = d.east ∧
    (d.setFld a hi lo v).sched = d.sched ∧ (d.setFld a hi lo v).ports = d.ports ∧ (d.setFld a hi lo v).lanes = d.lanes ∧
    (d.setFld a hi lo v).laneMap = d.laneMap ∧ (d.setFld a hi lo v).epochs = d.epochs ∧
    (d.setFld a hi lo v).staging = d.staging ∧ (d.setFld a hi lo v).courses = d.courses ∧
    (d.setFld a hi lo v).slices = d.slices ∧ (d.setFld a hi lo v).store = d.store ∧ (d.setFld a hi lo v).banks = d.banks ∧
    (d.setFld a hi lo v).asmMap = d.asmMap ∧ (d.setFld a hi lo v).aus = d.aus ∧ (d.setFld a hi lo v).streams = d.streams ∧
    (d.setFld a hi lo v).sets = d.sets ∧ (d.setFld a hi lo v).chans = d.chans ∧ (d.setFld a hi lo v).itemIds = d.itemIds ∧
    (d.setFld a hi lo v).freeWait = d.freeWait ∧ (d.setFld a hi lo v).badCtx = d.badCtx ∧ (d.setFld a hi lo v).tiles = d.tiles ∧
    (d.setFld a hi lo v).tileKeys = d.tileKeys ∧ (d.setFld a hi lo v).mbxs = d.mbxs ∧ (d.setFld a hi lo v).power = d.power ∧
    (d.setFld a hi lo v).pair = d.pair ∧ (d.setFld a hi lo v).wear = d.wear ∧ (d.setFld a hi lo v).stw = d.stw ∧
    (d.setFld a hi lo v).mems = d.mems ∧ (d.setFld a hi lo v).boot = d.boot ∧ (d.setFld a hi lo v).dbg = d.dbg ∧
    (d.setFld a hi lo v).export_ = d.export_ := by
  and_intros <;> rfl

/-- `setBit` changes `regs` alone. -/
@[simp] theorem setBit_fields (a i : Nat) :
    (d.setBit a i).cnts = d.cnts ∧ (d.setBit a i).latch = d.latch ∧ (d.setBit a i).readData = d.readData ∧
    (d.setBit a i).staged = d.staged ∧ (d.setBit a i).fresh = d.fresh ∧ (d.setBit a i).out = d.out ∧
    (d.setBit a i).unmasked = d.unmasked ∧ (d.setBit a i).msixPend = d.msixPend ∧ (d.setBit a i).faults = d.faults ∧
    (d.setBit a i).time = d.time ∧ (d.setBit a i).doms = d.doms ∧ (d.setBit a i).serving = d.serving ∧
    (d.setBit a i).ledgers = d.ledgers ∧ (d.setBit a i).accts = d.accts ∧ (d.setBit a i).nextPid = d.nextPid ∧
    (d.setBit a i).west = d.west ∧ (d.setBit a i).east = d.east ∧ (d.setBit a i).sched = d.sched ∧
    (d.setBit a i).ports = d.ports ∧ (d.setBit a i).lanes = d.lanes ∧ (d.setBit a i).laneMap = d.laneMap ∧
    (d.setBit a i).epochs = d.epochs ∧ (d.setBit a i).staging = d.staging ∧ (d.setBit a i).courses = d.courses ∧
    (d.setBit a i).slices = d.slices ∧ (d.setBit a i).store = d.store ∧ (d.setBit a i).banks = d.banks ∧
    (d.setBit a i).asmMap = d.asmMap ∧ (d.setBit a i).aus = d.aus ∧ (d.setBit a i).streams = d.streams ∧
    (d.setBit a i).sets = d.sets ∧ (d.setBit a i).chans = d.chans ∧ (d.setBit a i).itemIds = d.itemIds ∧
    (d.setBit a i).freeWait = d.freeWait ∧ (d.setBit a i).badCtx = d.badCtx ∧ (d.setBit a i).tiles = d.tiles ∧
    (d.setBit a i).tileKeys = d.tileKeys ∧ (d.setBit a i).mbxs = d.mbxs ∧ (d.setBit a i).power = d.power ∧
    (d.setBit a i).pair = d.pair ∧ (d.setBit a i).wear = d.wear ∧ (d.setBit a i).stw = d.stw ∧ (d.setBit a i).mems = d.mems ∧
    (d.setBit a i).boot = d.boot ∧ (d.setBit a i).dbg = d.dbg ∧ (d.setBit a i).export_ = d.export_ := by
  and_intros <;> rfl

/-- `clrBit` changes `regs` alone. -/
@[simp] theorem clrBit_fields (a i : Nat) :
    (d.clrBit a i).cnts = d.cnts ∧ (d.clrBit a i).latch = d.latch ∧ (d.clrBit a i).readData = d.readData ∧
    (d.clrBit a i).staged = d.staged ∧ (d.clrBit a i).fresh = d.fresh ∧ (d.clrBit a i).out = d.out ∧
    (d.clrBit a i).unmasked = d.unmasked ∧ (d.clrBit a i).msixPend = d.msixPend ∧ (d.clrBit a i).faults = d.faults ∧
    (d.clrBit a i).time = d.time ∧ (d.clrBit a i).doms = d.doms ∧ (d.clrBit a i).serving = d.serving ∧
    (d.clrBit a i).ledgers = d.ledgers ∧ (d.clrBit a i).accts = d.accts ∧ (d.clrBit a i).nextPid = d.nextPid ∧
    (d.clrBit a i).west = d.west ∧ (d.clrBit a i).east = d.east ∧ (d.clrBit a i).sched = d.sched ∧
    (d.clrBit a i).ports = d.ports ∧ (d.clrBit a i).lanes = d.lanes ∧ (d.clrBit a i).laneMap = d.laneMap ∧
    (d.clrBit a i).epochs = d.epochs ∧ (d.clrBit a i).staging = d.staging ∧ (d.clrBit a i).courses = d.courses ∧
    (d.clrBit a i).slices = d.slices ∧ (d.clrBit a i).store = d.store ∧ (d.clrBit a i).banks = d.banks ∧
    (d.clrBit a i).asmMap = d.asmMap ∧ (d.clrBit a i).aus = d.aus ∧ (d.clrBit a i).streams = d.streams ∧
    (d.clrBit a i).sets = d.sets ∧ (d.clrBit a i).chans = d.chans ∧ (d.clrBit a i).itemIds = d.itemIds ∧
    (d.clrBit a i).freeWait = d.freeWait ∧ (d.clrBit a i).badCtx = d.badCtx ∧ (d.clrBit a i).tiles = d.tiles ∧
    (d.clrBit a i).tileKeys = d.tileKeys ∧ (d.clrBit a i).mbxs = d.mbxs ∧ (d.clrBit a i).power = d.power ∧
    (d.clrBit a i).pair = d.pair ∧ (d.clrBit a i).wear = d.wear ∧ (d.clrBit a i).stw = d.stw ∧ (d.clrBit a i).mems = d.mems ∧
    (d.clrBit a i).boot = d.boot ∧ (d.clrBit a i).dbg = d.dbg ∧ (d.clrBit a i).export_ = d.export_ := by
  and_intros <;> rfl

/-- `bump` changes `cnts` alone. -/
@[simp] theorem bump_fields (a n : Nat) :
    (d.bump a n).regs = d.regs ∧ (d.bump a n).latch = d.latch ∧ (d.bump a n).readData = d.readData ∧
    (d.bump a n).staged = d.staged ∧ (d.bump a n).fresh = d.fresh ∧ (d.bump a n).out = d.out ∧
    (d.bump a n).unmasked = d.unmasked ∧ (d.bump a n).msixPend = d.msixPend ∧ (d.bump a n).faults = d.faults ∧
    (d.bump a n).time = d.time ∧ (d.bump a n).doms = d.doms ∧ (d.bump a n).serving = d.serving ∧
    (d.bump a n).ledgers = d.ledgers ∧ (d.bump a n).accts = d.accts ∧ (d.bump a n).nextPid = d.nextPid ∧
    (d.bump a n).west = d.west ∧ (d.bump a n).east = d.east ∧ (d.bump a n).sched = d.sched ∧ (d.bump a n).ports = d.ports ∧
    (d.bump a n).lanes = d.lanes ∧ (d.bump a n).laneMap = d.laneMap ∧ (d.bump a n).epochs = d.epochs ∧
    (d.bump a n).staging = d.staging ∧ (d.bump a n).courses = d.courses ∧ (d.bump a n).slices = d.slices ∧
    (d.bump a n).store = d.store ∧ (d.bump a n).banks = d.banks ∧ (d.bump a n).asmMap = d.asmMap ∧ (d.bump a n).aus = d.aus ∧
    (d.bump a n).streams = d.streams ∧ (d.bump a n).sets = d.sets ∧ (d.bump a n).chans = d.chans ∧
    (d.bump a n).itemIds = d.itemIds ∧ (d.bump a n).freeWait = d.freeWait ∧ (d.bump a n).badCtx = d.badCtx ∧
    (d.bump a n).tiles = d.tiles ∧ (d.bump a n).tileKeys = d.tileKeys ∧ (d.bump a n).mbxs = d.mbxs ∧
    (d.bump a n).power = d.power ∧ (d.bump a n).pair = d.pair ∧ (d.bump a n).wear = d.wear ∧ (d.bump a n).stw = d.stw ∧
    (d.bump a n).mems = d.mems ∧ (d.bump a n).boot = d.boot ∧ (d.bump a n).dbg = d.dbg ∧
    (d.bump a n).export_ = d.export_ := by
  and_intros <;> rfl

/-- `clearCnt` changes `cnts` alone. -/
@[simp] theorem clearCnt_fields (a : Nat) :
    (d.clearCnt a).regs = d.regs ∧ (d.clearCnt a).latch = d.latch ∧ (d.clearCnt a).readData = d.readData ∧
    (d.clearCnt a).staged = d.staged ∧ (d.clearCnt a).fresh = d.fresh ∧ (d.clearCnt a).out = d.out ∧
    (d.clearCnt a).unmasked = d.unmasked ∧ (d.clearCnt a).msixPend = d.msixPend ∧ (d.clearCnt a).faults = d.faults ∧
    (d.clearCnt a).time = d.time ∧ (d.clearCnt a).doms = d.doms ∧ (d.clearCnt a).serving = d.serving ∧
    (d.clearCnt a).ledgers = d.ledgers ∧ (d.clearCnt a).accts = d.accts ∧ (d.clearCnt a).nextPid = d.nextPid ∧
    (d.clearCnt a).west = d.west ∧ (d.clearCnt a).east = d.east ∧ (d.clearCnt a).sched = d.sched ∧
    (d.clearCnt a).ports = d.ports ∧ (d.clearCnt a).lanes = d.lanes ∧ (d.clearCnt a).laneMap = d.laneMap ∧
    (d.clearCnt a).epochs = d.epochs ∧ (d.clearCnt a).staging = d.staging ∧ (d.clearCnt a).courses = d.courses ∧
    (d.clearCnt a).slices = d.slices ∧ (d.clearCnt a).store = d.store ∧ (d.clearCnt a).banks = d.banks ∧
    (d.clearCnt a).asmMap = d.asmMap ∧ (d.clearCnt a).aus = d.aus ∧ (d.clearCnt a).streams = d.streams ∧
    (d.clearCnt a).sets = d.sets ∧ (d.clearCnt a).chans = d.chans ∧ (d.clearCnt a).itemIds = d.itemIds ∧
    (d.clearCnt a).freeWait = d.freeWait ∧ (d.clearCnt a).badCtx = d.badCtx ∧ (d.clearCnt a).tiles = d.tiles ∧
    (d.clearCnt a).tileKeys = d.tileKeys ∧ (d.clearCnt a).mbxs = d.mbxs ∧ (d.clearCnt a).power = d.power ∧
    (d.clearCnt a).pair = d.pair ∧ (d.clearCnt a).wear = d.wear ∧ (d.clearCnt a).stw = d.stw ∧ (d.clearCnt a).mems = d.mems ∧
    (d.clearCnt a).boot = d.boot ∧ (d.clearCnt a).dbg = d.dbg ∧ (d.clearCnt a).export_ = d.export_ := by
  and_intros <;> rfl

/-- `used` changes `fresh` alone. -/
@[simp] theorem used_fields (n : Nat) :
    (d.used n).regs = d.regs ∧ (d.used n).cnts = d.cnts ∧ (d.used n).latch = d.latch ∧ (d.used n).readData = d.readData ∧
    (d.used n).staged = d.staged ∧ (d.used n).out = d.out ∧ (d.used n).unmasked = d.unmasked ∧
    (d.used n).msixPend = d.msixPend ∧ (d.used n).faults = d.faults ∧ (d.used n).time = d.time ∧ (d.used n).doms = d.doms ∧
    (d.used n).serving = d.serving ∧ (d.used n).ledgers = d.ledgers ∧ (d.used n).accts = d.accts ∧
    (d.used n).nextPid = d.nextPid ∧ (d.used n).west = d.west ∧ (d.used n).east = d.east ∧ (d.used n).sched = d.sched ∧
    (d.used n).ports = d.ports ∧ (d.used n).lanes = d.lanes ∧ (d.used n).laneMap = d.laneMap ∧ (d.used n).epochs = d.epochs ∧
    (d.used n).staging = d.staging ∧ (d.used n).courses = d.courses ∧ (d.used n).slices = d.slices ∧
    (d.used n).store = d.store ∧ (d.used n).banks = d.banks ∧ (d.used n).asmMap = d.asmMap ∧ (d.used n).aus = d.aus ∧
    (d.used n).streams = d.streams ∧ (d.used n).sets = d.sets ∧ (d.used n).chans = d.chans ∧ (d.used n).itemIds = d.itemIds ∧
    (d.used n).freeWait = d.freeWait ∧ (d.used n).badCtx = d.badCtx ∧ (d.used n).tiles = d.tiles ∧
    (d.used n).tileKeys = d.tileKeys ∧ (d.used n).mbxs = d.mbxs ∧ (d.used n).power = d.power ∧ (d.used n).pair = d.pair ∧
    (d.used n).wear = d.wear ∧ (d.used n).stw = d.stw ∧ (d.used n).mems = d.mems ∧ (d.used n).boot = d.boot ∧
    (d.used n).dbg = d.dbg ∧ (d.used n).export_ = d.export_ := by
  and_intros <;> rfl

/-- `setDom` changes `doms` alone. -/
@[simp] theorem setDom_fields (k : Nat) (v : DomState) :
    (d.setDom k v).regs = d.regs ∧ (d.setDom k v).cnts = d.cnts ∧ (d.setDom k v).latch = d.latch ∧
    (d.setDom k v).readData = d.readData ∧ (d.setDom k v).staged = d.staged ∧ (d.setDom k v).fresh = d.fresh ∧
    (d.setDom k v).out = d.out ∧ (d.setDom k v).unmasked = d.unmasked ∧ (d.setDom k v).msixPend = d.msixPend ∧
    (d.setDom k v).faults = d.faults ∧ (d.setDom k v).time = d.time ∧ (d.setDom k v).serving = d.serving ∧
    (d.setDom k v).ledgers = d.ledgers ∧ (d.setDom k v).accts = d.accts ∧ (d.setDom k v).nextPid = d.nextPid ∧
    (d.setDom k v).west = d.west ∧ (d.setDom k v).east = d.east ∧ (d.setDom k v).sched = d.sched ∧
    (d.setDom k v).ports = d.ports ∧ (d.setDom k v).lanes = d.lanes ∧ (d.setDom k v).laneMap = d.laneMap ∧
    (d.setDom k v).epochs = d.epochs ∧ (d.setDom k v).staging = d.staging ∧ (d.setDom k v).courses = d.courses ∧
    (d.setDom k v).slices = d.slices ∧ (d.setDom k v).store = d.store ∧ (d.setDom k v).banks = d.banks ∧
    (d.setDom k v).asmMap = d.asmMap ∧ (d.setDom k v).aus = d.aus ∧ (d.setDom k v).streams = d.streams ∧
    (d.setDom k v).sets = d.sets ∧ (d.setDom k v).chans = d.chans ∧ (d.setDom k v).itemIds = d.itemIds ∧
    (d.setDom k v).freeWait = d.freeWait ∧ (d.setDom k v).badCtx = d.badCtx ∧ (d.setDom k v).tiles = d.tiles ∧
    (d.setDom k v).tileKeys = d.tileKeys ∧ (d.setDom k v).mbxs = d.mbxs ∧ (d.setDom k v).power = d.power ∧
    (d.setDom k v).pair = d.pair ∧ (d.setDom k v).wear = d.wear ∧ (d.setDom k v).stw = d.stw ∧ (d.setDom k v).mems = d.mems ∧
    (d.setDom k v).boot = d.boot ∧ (d.setDom k v).dbg = d.dbg ∧ (d.setDom k v).export_ = d.export_ := by
  and_intros <;> rfl

/-- `setPort` changes `ports` alone. -/
@[simp] theorem setPort_fields (i : Nat) (f : Port → Port) :
    (d.setPort i f).regs = d.regs ∧ (d.setPort i f).cnts = d.cnts ∧ (d.setPort i f).latch = d.latch ∧
    (d.setPort i f).readData = d.readData ∧ (d.setPort i f).staged = d.staged ∧ (d.setPort i f).fresh = d.fresh ∧
    (d.setPort i f).out = d.out ∧ (d.setPort i f).unmasked = d.unmasked ∧ (d.setPort i f).msixPend = d.msixPend ∧
    (d.setPort i f).faults = d.faults ∧ (d.setPort i f).time = d.time ∧ (d.setPort i f).doms = d.doms ∧
    (d.setPort i f).serving = d.serving ∧ (d.setPort i f).ledgers = d.ledgers ∧ (d.setPort i f).accts = d.accts ∧
    (d.setPort i f).nextPid = d.nextPid ∧ (d.setPort i f).west = d.west ∧ (d.setPort i f).east = d.east ∧
    (d.setPort i f).sched = d.sched ∧ (d.setPort i f).lanes = d.lanes ∧ (d.setPort i f).laneMap = d.laneMap ∧
    (d.setPort i f).epochs = d.epochs ∧ (d.setPort i f).staging = d.staging ∧ (d.setPort i f).courses = d.courses ∧
    (d.setPort i f).slices = d.slices ∧ (d.setPort i f).store = d.store ∧ (d.setPort i f).banks = d.banks ∧
    (d.setPort i f).asmMap = d.asmMap ∧ (d.setPort i f).aus = d.aus ∧ (d.setPort i f).streams = d.streams ∧
    (d.setPort i f).sets = d.sets ∧ (d.setPort i f).chans = d.chans ∧ (d.setPort i f).itemIds = d.itemIds ∧
    (d.setPort i f).freeWait = d.freeWait ∧ (d.setPort i f).badCtx = d.badCtx ∧ (d.setPort i f).tiles = d.tiles ∧
    (d.setPort i f).tileKeys = d.tileKeys ∧ (d.setPort i f).mbxs = d.mbxs ∧ (d.setPort i f).power = d.power ∧
    (d.setPort i f).pair = d.pair ∧ (d.setPort i f).wear = d.wear ∧ (d.setPort i f).stw = d.stw ∧
    (d.setPort i f).mems = d.mems ∧ (d.setPort i f).boot = d.boot ∧ (d.setPort i f).dbg = d.dbg ∧
    (d.setPort i f).export_ = d.export_ := by
  and_intros <;> rfl

/-- `setLane` changes `lanes` alone. -/
@[simp] theorem setLane_fields (die l : Nat) (f : Lane → Lane) :
    (d.setLane die l f).regs = d.regs ∧ (d.setLane die l f).cnts = d.cnts ∧ (d.setLane die l f).latch = d.latch ∧
    (d.setLane die l f).readData = d.readData ∧ (d.setLane die l f).staged = d.staged ∧ (d.setLane die l f).fresh = d.fresh ∧
    (d.setLane die l f).out = d.out ∧ (d.setLane die l f).unmasked = d.unmasked ∧ (d.setLane die l f).msixPend = d.msixPend ∧
    (d.setLane die l f).faults = d.faults ∧ (d.setLane die l f).time = d.time ∧ (d.setLane die l f).doms = d.doms ∧
    (d.setLane die l f).serving = d.serving ∧ (d.setLane die l f).ledgers = d.ledgers ∧ (d.setLane die l f).accts = d.accts ∧
    (d.setLane die l f).nextPid = d.nextPid ∧ (d.setLane die l f).west = d.west ∧ (d.setLane die l f).east = d.east ∧
    (d.setLane die l f).sched = d.sched ∧ (d.setLane die l f).ports = d.ports ∧ (d.setLane die l f).laneMap = d.laneMap ∧
    (d.setLane die l f).epochs = d.epochs ∧ (d.setLane die l f).staging = d.staging ∧ (d.setLane die l f).courses = d.courses ∧
    (d.setLane die l f).slices = d.slices ∧ (d.setLane die l f).store = d.store ∧ (d.setLane die l f).banks = d.banks ∧
    (d.setLane die l f).asmMap = d.asmMap ∧ (d.setLane die l f).aus = d.aus ∧ (d.setLane die l f).streams = d.streams ∧
    (d.setLane die l f).sets = d.sets ∧ (d.setLane die l f).chans = d.chans ∧ (d.setLane die l f).itemIds = d.itemIds ∧
    (d.setLane die l f).freeWait = d.freeWait ∧ (d.setLane die l f).badCtx = d.badCtx ∧ (d.setLane die l f).tiles = d.tiles ∧
    (d.setLane die l f).tileKeys = d.tileKeys ∧ (d.setLane die l f).mbxs = d.mbxs ∧ (d.setLane die l f).power = d.power ∧
    (d.setLane die l f).pair = d.pair ∧ (d.setLane die l f).wear = d.wear ∧ (d.setLane die l f).stw = d.stw ∧
    (d.setLane die l f).mems = d.mems ∧ (d.setLane die l f).boot = d.boot ∧ (d.setLane die l f).dbg = d.dbg ∧
    (d.setLane die l f).export_ = d.export_ := by
  and_intros <;> rfl

/-- `setCourse` changes `courses` alone. -/
@[simp] theorem setCourse_fields (c : Nat) (f : Course → Course) :
    (d.setCourse c f).regs = d.regs ∧ (d.setCourse c f).cnts = d.cnts ∧ (d.setCourse c f).latch = d.latch ∧
    (d.setCourse c f).readData = d.readData ∧ (d.setCourse c f).staged = d.staged ∧ (d.setCourse c f).fresh = d.fresh ∧
    (d.setCourse c f).out = d.out ∧ (d.setCourse c f).unmasked = d.unmasked ∧ (d.setCourse c f).msixPend = d.msixPend ∧
    (d.setCourse c f).faults = d.faults ∧ (d.setCourse c f).time = d.time ∧ (d.setCourse c f).doms = d.doms ∧
    (d.setCourse c f).serving = d.serving ∧ (d.setCourse c f).ledgers = d.ledgers ∧ (d.setCourse c f).accts = d.accts ∧
    (d.setCourse c f).nextPid = d.nextPid ∧ (d.setCourse c f).west = d.west ∧ (d.setCourse c f).east = d.east ∧
    (d.setCourse c f).sched = d.sched ∧ (d.setCourse c f).ports = d.ports ∧ (d.setCourse c f).lanes = d.lanes ∧
    (d.setCourse c f).laneMap = d.laneMap ∧ (d.setCourse c f).epochs = d.epochs ∧ (d.setCourse c f).staging = d.staging ∧
    (d.setCourse c f).slices = d.slices ∧ (d.setCourse c f).store = d.store ∧ (d.setCourse c f).banks = d.banks ∧
    (d.setCourse c f).asmMap = d.asmMap ∧ (d.setCourse c f).aus = d.aus ∧ (d.setCourse c f).streams = d.streams ∧
    (d.setCourse c f).sets = d.sets ∧ (d.setCourse c f).chans = d.chans ∧ (d.setCourse c f).itemIds = d.itemIds ∧
    (d.setCourse c f).freeWait = d.freeWait ∧ (d.setCourse c f).badCtx = d.badCtx ∧ (d.setCourse c f).tiles = d.tiles ∧
    (d.setCourse c f).tileKeys = d.tileKeys ∧ (d.setCourse c f).mbxs = d.mbxs ∧ (d.setCourse c f).power = d.power ∧
    (d.setCourse c f).pair = d.pair ∧ (d.setCourse c f).wear = d.wear ∧ (d.setCourse c f).stw = d.stw ∧
    (d.setCourse c f).mems = d.mems ∧ (d.setCourse c f).boot = d.boot ∧ (d.setCourse c f).dbg = d.dbg ∧
    (d.setCourse c f).export_ = d.export_ := by
  and_intros <;> rfl

/-- `setSlice` changes `slices` alone. -/
@[simp] theorem setSlice_fields (n : Nat) (f : Slice → Slice) :
    (d.setSlice n f).regs = d.regs ∧ (d.setSlice n f).cnts = d.cnts ∧ (d.setSlice n f).latch = d.latch ∧
    (d.setSlice n f).readData = d.readData ∧ (d.setSlice n f).staged = d.staged ∧ (d.setSlice n f).fresh = d.fresh ∧
    (d.setSlice n f).out = d.out ∧ (d.setSlice n f).unmasked = d.unmasked ∧ (d.setSlice n f).msixPend = d.msixPend ∧
    (d.setSlice n f).faults = d.faults ∧ (d.setSlice n f).time = d.time ∧ (d.setSlice n f).doms = d.doms ∧
    (d.setSlice n f).serving = d.serving ∧ (d.setSlice n f).ledgers = d.ledgers ∧ (d.setSlice n f).accts = d.accts ∧
    (d.setSlice n f).nextPid = d.nextPid ∧ (d.setSlice n f).west = d.west ∧ (d.setSlice n f).east = d.east ∧
    (d.setSlice n f).sched = d.sched ∧ (d.setSlice n f).ports = d.ports ∧ (d.setSlice n f).lanes = d.lanes ∧
    (d.setSlice n f).laneMap = d.laneMap ∧ (d.setSlice n f).epochs = d.epochs ∧ (d.setSlice n f).staging = d.staging ∧
    (d.setSlice n f).courses = d.courses ∧ (d.setSlice n f).store = d.store ∧ (d.setSlice n f).banks = d.banks ∧
    (d.setSlice n f).asmMap = d.asmMap ∧ (d.setSlice n f).aus = d.aus ∧ (d.setSlice n f).streams = d.streams ∧
    (d.setSlice n f).sets = d.sets ∧ (d.setSlice n f).chans = d.chans ∧ (d.setSlice n f).itemIds = d.itemIds ∧
    (d.setSlice n f).freeWait = d.freeWait ∧ (d.setSlice n f).badCtx = d.badCtx ∧ (d.setSlice n f).tiles = d.tiles ∧
    (d.setSlice n f).tileKeys = d.tileKeys ∧ (d.setSlice n f).mbxs = d.mbxs ∧ (d.setSlice n f).power = d.power ∧
    (d.setSlice n f).pair = d.pair ∧ (d.setSlice n f).wear = d.wear ∧ (d.setSlice n f).stw = d.stw ∧
    (d.setSlice n f).mems = d.mems ∧ (d.setSlice n f).boot = d.boot ∧ (d.setSlice n f).dbg = d.dbg ∧
    (d.setSlice n f).export_ = d.export_ := by
  and_intros <;> rfl

/-- `setBank` changes `banks` alone. -/
@[simp] theorem setBank_fields (b : Nat) (f : Bank → Bank) :
    (d.setBank b f).regs = d.regs ∧ (d.setBank b f).cnts = d.cnts ∧ (d.setBank b f).latch = d.latch ∧
    (d.setBank b f).readData = d.readData ∧ (d.setBank b f).staged = d.staged ∧ (d.setBank b f).fresh = d.fresh ∧
    (d.setBank b f).out = d.out ∧ (d.setBank b f).unmasked = d.unmasked ∧ (d.setBank b f).msixPend = d.msixPend ∧
    (d.setBank b f).faults = d.faults ∧ (d.setBank b f).time = d.time ∧ (d.setBank b f).doms = d.doms ∧
    (d.setBank b f).serving = d.serving ∧ (d.setBank b f).ledgers = d.ledgers ∧ (d.setBank b f).accts = d.accts ∧
    (d.setBank b f).nextPid = d.nextPid ∧ (d.setBank b f).west = d.west ∧ (d.setBank b f).east = d.east ∧
    (d.setBank b f).sched = d.sched ∧ (d.setBank b f).ports = d.ports ∧ (d.setBank b f).lanes = d.lanes ∧
    (d.setBank b f).laneMap = d.laneMap ∧ (d.setBank b f).epochs = d.epochs ∧ (d.setBank b f).staging = d.staging ∧
    (d.setBank b f).courses = d.courses ∧ (d.setBank b f).slices = d.slices ∧ (d.setBank b f).store = d.store ∧
    (d.setBank b f).asmMap = d.asmMap ∧ (d.setBank b f).aus = d.aus ∧ (d.setBank b f).streams = d.streams ∧
    (d.setBank b f).sets = d.sets ∧ (d.setBank b f).chans = d.chans ∧ (d.setBank b f).itemIds = d.itemIds ∧
    (d.setBank b f).freeWait = d.freeWait ∧ (d.setBank b f).badCtx = d.badCtx ∧ (d.setBank b f).tiles = d.tiles ∧
    (d.setBank b f).tileKeys = d.tileKeys ∧ (d.setBank b f).mbxs = d.mbxs ∧ (d.setBank b f).power = d.power ∧
    (d.setBank b f).pair = d.pair ∧ (d.setBank b f).wear = d.wear ∧ (d.setBank b f).stw = d.stw ∧
    (d.setBank b f).mems = d.mems ∧ (d.setBank b f).boot = d.boot ∧ (d.setBank b f).dbg = d.dbg ∧
    (d.setBank b f).export_ = d.export_ := by
  and_intros <;> rfl

/-- `setAu` changes `aus` alone. -/
@[simp] theorem setAu_fields (u : Nat) (f : Au → Au) :
    (d.setAu u f).regs = d.regs ∧ (d.setAu u f).cnts = d.cnts ∧ (d.setAu u f).latch = d.latch ∧
    (d.setAu u f).readData = d.readData ∧ (d.setAu u f).staged = d.staged ∧ (d.setAu u f).fresh = d.fresh ∧
    (d.setAu u f).out = d.out ∧ (d.setAu u f).unmasked = d.unmasked ∧ (d.setAu u f).msixPend = d.msixPend ∧
    (d.setAu u f).faults = d.faults ∧ (d.setAu u f).time = d.time ∧ (d.setAu u f).doms = d.doms ∧
    (d.setAu u f).serving = d.serving ∧ (d.setAu u f).ledgers = d.ledgers ∧ (d.setAu u f).accts = d.accts ∧
    (d.setAu u f).nextPid = d.nextPid ∧ (d.setAu u f).west = d.west ∧ (d.setAu u f).east = d.east ∧
    (d.setAu u f).sched = d.sched ∧ (d.setAu u f).ports = d.ports ∧ (d.setAu u f).lanes = d.lanes ∧
    (d.setAu u f).laneMap = d.laneMap ∧ (d.setAu u f).epochs = d.epochs ∧ (d.setAu u f).staging = d.staging ∧
    (d.setAu u f).courses = d.courses ∧ (d.setAu u f).slices = d.slices ∧ (d.setAu u f).store = d.store ∧
    (d.setAu u f).banks = d.banks ∧ (d.setAu u f).asmMap = d.asmMap ∧ (d.setAu u f).streams = d.streams ∧
    (d.setAu u f).sets = d.sets ∧ (d.setAu u f).chans = d.chans ∧ (d.setAu u f).itemIds = d.itemIds ∧
    (d.setAu u f).freeWait = d.freeWait ∧ (d.setAu u f).badCtx = d.badCtx ∧ (d.setAu u f).tiles = d.tiles ∧
    (d.setAu u f).tileKeys = d.tileKeys ∧ (d.setAu u f).mbxs = d.mbxs ∧ (d.setAu u f).power = d.power ∧
    (d.setAu u f).pair = d.pair ∧ (d.setAu u f).wear = d.wear ∧ (d.setAu u f).stw = d.stw ∧ (d.setAu u f).mems = d.mems ∧
    (d.setAu u f).boot = d.boot ∧ (d.setAu u f).dbg = d.dbg ∧ (d.setAu u f).export_ = d.export_ := by
  and_intros <;> rfl

/-- `setSet` changes `sets` alone. -/
@[simp] theorem setSet_fields (n : Nat) (f : SetSt → SetSt) :
    (d.setSet n f).regs = d.regs ∧ (d.setSet n f).cnts = d.cnts ∧ (d.setSet n f).latch = d.latch ∧
    (d.setSet n f).readData = d.readData ∧ (d.setSet n f).staged = d.staged ∧ (d.setSet n f).fresh = d.fresh ∧
    (d.setSet n f).out = d.out ∧ (d.setSet n f).unmasked = d.unmasked ∧ (d.setSet n f).msixPend = d.msixPend ∧
    (d.setSet n f).faults = d.faults ∧ (d.setSet n f).time = d.time ∧ (d.setSet n f).doms = d.doms ∧
    (d.setSet n f).serving = d.serving ∧ (d.setSet n f).ledgers = d.ledgers ∧ (d.setSet n f).accts = d.accts ∧
    (d.setSet n f).nextPid = d.nextPid ∧ (d.setSet n f).west = d.west ∧ (d.setSet n f).east = d.east ∧
    (d.setSet n f).sched = d.sched ∧ (d.setSet n f).ports = d.ports ∧ (d.setSet n f).lanes = d.lanes ∧
    (d.setSet n f).laneMap = d.laneMap ∧ (d.setSet n f).epochs = d.epochs ∧ (d.setSet n f).staging = d.staging ∧
    (d.setSet n f).courses = d.courses ∧ (d.setSet n f).slices = d.slices ∧ (d.setSet n f).store = d.store ∧
    (d.setSet n f).banks = d.banks ∧ (d.setSet n f).asmMap = d.asmMap ∧ (d.setSet n f).aus = d.aus ∧
    (d.setSet n f).streams = d.streams ∧ (d.setSet n f).chans = d.chans ∧ (d.setSet n f).itemIds = d.itemIds ∧
    (d.setSet n f).freeWait = d.freeWait ∧ (d.setSet n f).badCtx = d.badCtx ∧ (d.setSet n f).tiles = d.tiles ∧
    (d.setSet n f).tileKeys = d.tileKeys ∧ (d.setSet n f).mbxs = d.mbxs ∧ (d.setSet n f).power = d.power ∧
    (d.setSet n f).pair = d.pair ∧ (d.setSet n f).wear = d.wear ∧ (d.setSet n f).stw = d.stw ∧ (d.setSet n f).mems = d.mems ∧
    (d.setSet n f).boot = d.boot ∧ (d.setSet n f).dbg = d.dbg ∧ (d.setSet n f).export_ = d.export_ := by
  and_intros <;> rfl

/-- `setEng` changes `sets` alone. -/
@[simp] theorem setEng_fields (n p : Nat) (f : Engine → Engine) :
    (d.setEng n p f).regs = d.regs ∧ (d.setEng n p f).cnts = d.cnts ∧ (d.setEng n p f).latch = d.latch ∧
    (d.setEng n p f).readData = d.readData ∧ (d.setEng n p f).staged = d.staged ∧ (d.setEng n p f).fresh = d.fresh ∧
    (d.setEng n p f).out = d.out ∧ (d.setEng n p f).unmasked = d.unmasked ∧ (d.setEng n p f).msixPend = d.msixPend ∧
    (d.setEng n p f).faults = d.faults ∧ (d.setEng n p f).time = d.time ∧ (d.setEng n p f).doms = d.doms ∧
    (d.setEng n p f).serving = d.serving ∧ (d.setEng n p f).ledgers = d.ledgers ∧ (d.setEng n p f).accts = d.accts ∧
    (d.setEng n p f).nextPid = d.nextPid ∧ (d.setEng n p f).west = d.west ∧ (d.setEng n p f).east = d.east ∧
    (d.setEng n p f).sched = d.sched ∧ (d.setEng n p f).ports = d.ports ∧ (d.setEng n p f).lanes = d.lanes ∧
    (d.setEng n p f).laneMap = d.laneMap ∧ (d.setEng n p f).epochs = d.epochs ∧ (d.setEng n p f).staging = d.staging ∧
    (d.setEng n p f).courses = d.courses ∧ (d.setEng n p f).slices = d.slices ∧ (d.setEng n p f).store = d.store ∧
    (d.setEng n p f).banks = d.banks ∧ (d.setEng n p f).asmMap = d.asmMap ∧ (d.setEng n p f).aus = d.aus ∧
    (d.setEng n p f).streams = d.streams ∧ (d.setEng n p f).chans = d.chans ∧ (d.setEng n p f).itemIds = d.itemIds ∧
    (d.setEng n p f).freeWait = d.freeWait ∧ (d.setEng n p f).badCtx = d.badCtx ∧ (d.setEng n p f).tiles = d.tiles ∧
    (d.setEng n p f).tileKeys = d.tileKeys ∧ (d.setEng n p f).mbxs = d.mbxs ∧ (d.setEng n p f).power = d.power ∧
    (d.setEng n p f).pair = d.pair ∧ (d.setEng n p f).wear = d.wear ∧ (d.setEng n p f).stw = d.stw ∧
    (d.setEng n p f).mems = d.mems ∧ (d.setEng n p f).boot = d.boot ∧ (d.setEng n p f).dbg = d.dbg ∧
    (d.setEng n p f).export_ = d.export_ := by
  and_intros <;> rfl

/-- `setChan` changes `chans` alone. -/
@[simp] theorem setChan_fields (c : Nat) (f : Chan → Chan) :
    (d.setChan c f).regs = d.regs ∧ (d.setChan c f).cnts = d.cnts ∧ (d.setChan c f).latch = d.latch ∧
    (d.setChan c f).readData = d.readData ∧ (d.setChan c f).staged = d.staged ∧ (d.setChan c f).fresh = d.fresh ∧
    (d.setChan c f).out = d.out ∧ (d.setChan c f).unmasked = d.unmasked ∧ (d.setChan c f).msixPend = d.msixPend ∧
    (d.setChan c f).faults = d.faults ∧ (d.setChan c f).time = d.time ∧ (d.setChan c f).doms = d.doms ∧
    (d.setChan c f).serving = d.serving ∧ (d.setChan c f).ledgers = d.ledgers ∧ (d.setChan c f).accts = d.accts ∧
    (d.setChan c f).nextPid = d.nextPid ∧ (d.setChan c f).west = d.west ∧ (d.setChan c f).east = d.east ∧
    (d.setChan c f).sched = d.sched ∧ (d.setChan c f).ports = d.ports ∧ (d.setChan c f).lanes = d.lanes ∧
    (d.setChan c f).laneMap = d.laneMap ∧ (d.setChan c f).epochs = d.epochs ∧ (d.setChan c f).staging = d.staging ∧
    (d.setChan c f).courses = d.courses ∧ (d.setChan c f).slices = d.slices ∧ (d.setChan c f).store = d.store ∧
    (d.setChan c f).banks = d.banks ∧ (d.setChan c f).asmMap = d.asmMap ∧ (d.setChan c f).aus = d.aus ∧
    (d.setChan c f).streams = d.streams ∧ (d.setChan c f).sets = d.sets ∧ (d.setChan c f).itemIds = d.itemIds ∧
    (d.setChan c f).freeWait = d.freeWait ∧ (d.setChan c f).badCtx = d.badCtx ∧ (d.setChan c f).tiles = d.tiles ∧
    (d.setChan c f).tileKeys = d.tileKeys ∧ (d.setChan c f).mbxs = d.mbxs ∧ (d.setChan c f).power = d.power ∧
    (d.setChan c f).pair = d.pair ∧ (d.setChan c f).wear = d.wear ∧ (d.setChan c f).stw = d.stw ∧
    (d.setChan c f).mems = d.mems ∧ (d.setChan c f).boot = d.boot ∧ (d.setChan c f).dbg = d.dbg ∧
    (d.setChan c f).export_ = d.export_ := by
  and_intros <;> rfl

/-- `setMbx` changes `mbxs` alone. -/
@[simp] theorem setMbx_fields (m : Nat) (f : Mbx → Mbx) :
    (d.setMbx m f).regs = d.regs ∧ (d.setMbx m f).cnts = d.cnts ∧ (d.setMbx m f).latch = d.latch ∧
    (d.setMbx m f).readData = d.readData ∧ (d.setMbx m f).staged = d.staged ∧ (d.setMbx m f).fresh = d.fresh ∧
    (d.setMbx m f).out = d.out ∧ (d.setMbx m f).unmasked = d.unmasked ∧ (d.setMbx m f).msixPend = d.msixPend ∧
    (d.setMbx m f).faults = d.faults ∧ (d.setMbx m f).time = d.time ∧ (d.setMbx m f).doms = d.doms ∧
    (d.setMbx m f).serving = d.serving ∧ (d.setMbx m f).ledgers = d.ledgers ∧ (d.setMbx m f).accts = d.accts ∧
    (d.setMbx m f).nextPid = d.nextPid ∧ (d.setMbx m f).west = d.west ∧ (d.setMbx m f).east = d.east ∧
    (d.setMbx m f).sched = d.sched ∧ (d.setMbx m f).ports = d.ports ∧ (d.setMbx m f).lanes = d.lanes ∧
    (d.setMbx m f).laneMap = d.laneMap ∧ (d.setMbx m f).epochs = d.epochs ∧ (d.setMbx m f).staging = d.staging ∧
    (d.setMbx m f).courses = d.courses ∧ (d.setMbx m f).slices = d.slices ∧ (d.setMbx m f).store = d.store ∧
    (d.setMbx m f).banks = d.banks ∧ (d.setMbx m f).asmMap = d.asmMap ∧ (d.setMbx m f).aus = d.aus ∧
    (d.setMbx m f).streams = d.streams ∧ (d.setMbx m f).sets = d.sets ∧ (d.setMbx m f).chans = d.chans ∧
    (d.setMbx m f).itemIds = d.itemIds ∧ (d.setMbx m f).freeWait = d.freeWait ∧ (d.setMbx m f).badCtx = d.badCtx ∧
    (d.setMbx m f).tiles = d.tiles ∧ (d.setMbx m f).tileKeys = d.tileKeys ∧ (d.setMbx m f).power = d.power ∧
    (d.setMbx m f).pair = d.pair ∧ (d.setMbx m f).wear = d.wear ∧ (d.setMbx m f).stw = d.stw ∧ (d.setMbx m f).mems = d.mems ∧
    (d.setMbx m f).boot = d.boot ∧ (d.setMbx m f).dbg = d.dbg ∧ (d.setMbx m f).export_ = d.export_ := by
  and_intros <;> rfl

/-- `setTile` changes `tiles` alone. -/
@[simp] theorem setTile_fields (h : Nat) (f : Tile → Tile) :
    (d.setTile h f).regs = d.regs ∧ (d.setTile h f).cnts = d.cnts ∧ (d.setTile h f).latch = d.latch ∧
    (d.setTile h f).readData = d.readData ∧ (d.setTile h f).staged = d.staged ∧ (d.setTile h f).fresh = d.fresh ∧
    (d.setTile h f).out = d.out ∧ (d.setTile h f).unmasked = d.unmasked ∧ (d.setTile h f).msixPend = d.msixPend ∧
    (d.setTile h f).faults = d.faults ∧ (d.setTile h f).time = d.time ∧ (d.setTile h f).doms = d.doms ∧
    (d.setTile h f).serving = d.serving ∧ (d.setTile h f).ledgers = d.ledgers ∧ (d.setTile h f).accts = d.accts ∧
    (d.setTile h f).nextPid = d.nextPid ∧ (d.setTile h f).west = d.west ∧ (d.setTile h f).east = d.east ∧
    (d.setTile h f).sched = d.sched ∧ (d.setTile h f).ports = d.ports ∧ (d.setTile h f).lanes = d.lanes ∧
    (d.setTile h f).laneMap = d.laneMap ∧ (d.setTile h f).epochs = d.epochs ∧ (d.setTile h f).staging = d.staging ∧
    (d.setTile h f).courses = d.courses ∧ (d.setTile h f).slices = d.slices ∧ (d.setTile h f).store = d.store ∧
    (d.setTile h f).banks = d.banks ∧ (d.setTile h f).asmMap = d.asmMap ∧ (d.setTile h f).aus = d.aus ∧
    (d.setTile h f).streams = d.streams ∧ (d.setTile h f).sets = d.sets ∧ (d.setTile h f).chans = d.chans ∧
    (d.setTile h f).itemIds = d.itemIds ∧ (d.setTile h f).freeWait = d.freeWait ∧ (d.setTile h f).badCtx = d.badCtx ∧
    (d.setTile h f).tileKeys = d.tileKeys ∧ (d.setTile h f).mbxs = d.mbxs ∧ (d.setTile h f).power = d.power ∧
    (d.setTile h f).pair = d.pair ∧ (d.setTile h f).wear = d.wear ∧ (d.setTile h f).stw = d.stw ∧
    (d.setTile h f).mems = d.mems ∧ (d.setTile h f).boot = d.boot ∧ (d.setTile h f).dbg = d.dbg ∧
    (d.setTile h f).export_ = d.export_ := by
  and_intros <;> rfl

/-- `setEpochs` changes `epochs` alone. -/
@[simp] theorem setEpochs_fields (f : Epochs → Epochs) :
    (d.setEpochs f).regs = d.regs ∧ (d.setEpochs f).cnts = d.cnts ∧ (d.setEpochs f).latch = d.latch ∧
    (d.setEpochs f).readData = d.readData ∧ (d.setEpochs f).staged = d.staged ∧ (d.setEpochs f).fresh = d.fresh ∧
    (d.setEpochs f).out = d.out ∧ (d.setEpochs f).unmasked = d.unmasked ∧ (d.setEpochs f).msixPend = d.msixPend ∧
    (d.setEpochs f).faults = d.faults ∧ (d.setEpochs f).time = d.time ∧ (d.setEpochs f).doms = d.doms ∧
    (d.setEpochs f).serving = d.serving ∧ (d.setEpochs f).ledgers = d.ledgers ∧ (d.setEpochs f).accts = d.accts ∧
    (d.setEpochs f).nextPid = d.nextPid ∧ (d.setEpochs f).west = d.west ∧ (d.setEpochs f).east = d.east ∧
    (d.setEpochs f).sched = d.sched ∧ (d.setEpochs f).ports = d.ports ∧ (d.setEpochs f).lanes = d.lanes ∧
    (d.setEpochs f).laneMap = d.laneMap ∧ (d.setEpochs f).staging = d.staging ∧ (d.setEpochs f).courses = d.courses ∧
    (d.setEpochs f).slices = d.slices ∧ (d.setEpochs f).store = d.store ∧ (d.setEpochs f).banks = d.banks ∧
    (d.setEpochs f).asmMap = d.asmMap ∧ (d.setEpochs f).aus = d.aus ∧ (d.setEpochs f).streams = d.streams ∧
    (d.setEpochs f).sets = d.sets ∧ (d.setEpochs f).chans = d.chans ∧ (d.setEpochs f).itemIds = d.itemIds ∧
    (d.setEpochs f).freeWait = d.freeWait ∧ (d.setEpochs f).badCtx = d.badCtx ∧ (d.setEpochs f).tiles = d.tiles ∧
    (d.setEpochs f).tileKeys = d.tileKeys ∧ (d.setEpochs f).mbxs = d.mbxs ∧ (d.setEpochs f).power = d.power ∧
    (d.setEpochs f).pair = d.pair ∧ (d.setEpochs f).wear = d.wear ∧ (d.setEpochs f).stw = d.stw ∧
    (d.setEpochs f).mems = d.mems ∧ (d.setEpochs f).boot = d.boot ∧ (d.setEpochs f).dbg = d.dbg ∧
    (d.setEpochs f).export_ = d.export_ := by
  and_intros <;> rfl

/-- `setTime` changes `time` alone. -/
@[simp] theorem setTime_fields (f : Time → Time) :
    (d.setTime f).regs = d.regs ∧ (d.setTime f).cnts = d.cnts ∧ (d.setTime f).latch = d.latch ∧
    (d.setTime f).readData = d.readData ∧ (d.setTime f).staged = d.staged ∧ (d.setTime f).fresh = d.fresh ∧
    (d.setTime f).out = d.out ∧ (d.setTime f).unmasked = d.unmasked ∧ (d.setTime f).msixPend = d.msixPend ∧
    (d.setTime f).faults = d.faults ∧ (d.setTime f).doms = d.doms ∧ (d.setTime f).serving = d.serving ∧
    (d.setTime f).ledgers = d.ledgers ∧ (d.setTime f).accts = d.accts ∧ (d.setTime f).nextPid = d.nextPid ∧
    (d.setTime f).west = d.west ∧ (d.setTime f).east = d.east ∧ (d.setTime f).sched = d.sched ∧ (d.setTime f).ports = d.ports ∧
    (d.setTime f).lanes = d.lanes ∧ (d.setTime f).laneMap = d.laneMap ∧ (d.setTime f).epochs = d.epochs ∧
    (d.setTime f).staging = d.staging ∧ (d.setTime f).courses = d.courses ∧ (d.setTime f).slices = d.slices ∧
    (d.setTime f).store = d.store ∧ (d.setTime f).banks = d.banks ∧ (d.setTime f).asmMap = d.asmMap ∧
    (d.setTime f).aus = d.aus ∧ (d.setTime f).streams = d.streams ∧ (d.setTime f).sets = d.sets ∧
    (d.setTime f).chans = d.chans ∧ (d.setTime f).itemIds = d.itemIds ∧ (d.setTime f).freeWait = d.freeWait ∧
    (d.setTime f).badCtx = d.badCtx ∧ (d.setTime f).tiles = d.tiles ∧ (d.setTime f).tileKeys = d.tileKeys ∧
    (d.setTime f).mbxs = d.mbxs ∧ (d.setTime f).power = d.power ∧ (d.setTime f).pair = d.pair ∧ (d.setTime f).wear = d.wear ∧
    (d.setTime f).stw = d.stw ∧ (d.setTime f).mems = d.mems ∧ (d.setTime f).boot = d.boot ∧ (d.setTime f).dbg = d.dbg ∧
    (d.setTime f).export_ = d.export_ := by
  and_intros <;> rfl

/-- `setFaults` changes `faults` alone. -/
@[simp] theorem setFaults_fields (f : Faults → Faults) :
    (d.setFaults f).regs = d.regs ∧ (d.setFaults f).cnts = d.cnts ∧ (d.setFaults f).latch = d.latch ∧
    (d.setFaults f).readData = d.readData ∧ (d.setFaults f).staged = d.staged ∧ (d.setFaults f).fresh = d.fresh ∧
    (d.setFaults f).out = d.out ∧ (d.setFaults f).unmasked = d.unmasked ∧ (d.setFaults f).msixPend = d.msixPend ∧
    (d.setFaults f).time = d.time ∧ (d.setFaults f).doms = d.doms ∧ (d.setFaults f).serving = d.serving ∧
    (d.setFaults f).ledgers = d.ledgers ∧ (d.setFaults f).accts = d.accts ∧ (d.setFaults f).nextPid = d.nextPid ∧
    (d.setFaults f).west = d.west ∧ (d.setFaults f).east = d.east ∧ (d.setFaults f).sched = d.sched ∧
    (d.setFaults f).ports = d.ports ∧ (d.setFaults f).lanes = d.lanes ∧ (d.setFaults f).laneMap = d.laneMap ∧
    (d.setFaults f).epochs = d.epochs ∧ (d.setFaults f).staging = d.staging ∧ (d.setFaults f).courses = d.courses ∧
    (d.setFaults f).slices = d.slices ∧ (d.setFaults f).store = d.store ∧ (d.setFaults f).banks = d.banks ∧
    (d.setFaults f).asmMap = d.asmMap ∧ (d.setFaults f).aus = d.aus ∧ (d.setFaults f).streams = d.streams ∧
    (d.setFaults f).sets = d.sets ∧ (d.setFaults f).chans = d.chans ∧ (d.setFaults f).itemIds = d.itemIds ∧
    (d.setFaults f).freeWait = d.freeWait ∧ (d.setFaults f).badCtx = d.badCtx ∧ (d.setFaults f).tiles = d.tiles ∧
    (d.setFaults f).tileKeys = d.tileKeys ∧ (d.setFaults f).mbxs = d.mbxs ∧ (d.setFaults f).power = d.power ∧
    (d.setFaults f).pair = d.pair ∧ (d.setFaults f).wear = d.wear ∧ (d.setFaults f).stw = d.stw ∧
    (d.setFaults f).mems = d.mems ∧ (d.setFaults f).boot = d.boot ∧ (d.setFaults f).dbg = d.dbg ∧
    (d.setFaults f).export_ = d.export_ := by
  and_intros <;> rfl

/-- `setSrc` changes `faults` alone. -/
@[simp] theorem setSrc_fields (n : Nat) (f : Src → Src) :
    (d.setSrc n f).regs = d.regs ∧ (d.setSrc n f).cnts = d.cnts ∧ (d.setSrc n f).latch = d.latch ∧
    (d.setSrc n f).readData = d.readData ∧ (d.setSrc n f).staged = d.staged ∧ (d.setSrc n f).fresh = d.fresh ∧
    (d.setSrc n f).out = d.out ∧ (d.setSrc n f).unmasked = d.unmasked ∧ (d.setSrc n f).msixPend = d.msixPend ∧
    (d.setSrc n f).time = d.time ∧ (d.setSrc n f).doms = d.doms ∧ (d.setSrc n f).serving = d.serving ∧
    (d.setSrc n f).ledgers = d.ledgers ∧ (d.setSrc n f).accts = d.accts ∧ (d.setSrc n f).nextPid = d.nextPid ∧
    (d.setSrc n f).west = d.west ∧ (d.setSrc n f).east = d.east ∧ (d.setSrc n f).sched = d.sched ∧
    (d.setSrc n f).ports = d.ports ∧ (d.setSrc n f).lanes = d.lanes ∧ (d.setSrc n f).laneMap = d.laneMap ∧
    (d.setSrc n f).epochs = d.epochs ∧ (d.setSrc n f).staging = d.staging ∧ (d.setSrc n f).courses = d.courses ∧
    (d.setSrc n f).slices = d.slices ∧ (d.setSrc n f).store = d.store ∧ (d.setSrc n f).banks = d.banks ∧
    (d.setSrc n f).asmMap = d.asmMap ∧ (d.setSrc n f).aus = d.aus ∧ (d.setSrc n f).streams = d.streams ∧
    (d.setSrc n f).sets = d.sets ∧ (d.setSrc n f).chans = d.chans ∧ (d.setSrc n f).itemIds = d.itemIds ∧
    (d.setSrc n f).freeWait = d.freeWait ∧ (d.setSrc n f).badCtx = d.badCtx ∧ (d.setSrc n f).tiles = d.tiles ∧
    (d.setSrc n f).tileKeys = d.tileKeys ∧ (d.setSrc n f).mbxs = d.mbxs ∧ (d.setSrc n f).power = d.power ∧
    (d.setSrc n f).pair = d.pair ∧ (d.setSrc n f).wear = d.wear ∧ (d.setSrc n f).stw = d.stw ∧ (d.setSrc n f).mems = d.mems ∧
    (d.setSrc n f).boot = d.boot ∧ (d.setSrc n f).dbg = d.dbg ∧ (d.setSrc n f).export_ = d.export_ := by
  and_intros <;> rfl

/-- `setPower` changes `power` alone. -/
@[simp] theorem setPower_fields (f : Power → Power) :
    (d.setPower f).regs = d.regs ∧ (d.setPower f).cnts = d.cnts ∧ (d.setPower f).latch = d.latch ∧
    (d.setPower f).readData = d.readData ∧ (d.setPower f).staged = d.staged ∧ (d.setPower f).fresh = d.fresh ∧
    (d.setPower f).out = d.out ∧ (d.setPower f).unmasked = d.unmasked ∧ (d.setPower f).msixPend = d.msixPend ∧
    (d.setPower f).faults = d.faults ∧ (d.setPower f).time = d.time ∧ (d.setPower f).doms = d.doms ∧
    (d.setPower f).serving = d.serving ∧ (d.setPower f).ledgers = d.ledgers ∧ (d.setPower f).accts = d.accts ∧
    (d.setPower f).nextPid = d.nextPid ∧ (d.setPower f).west = d.west ∧ (d.setPower f).east = d.east ∧
    (d.setPower f).sched = d.sched ∧ (d.setPower f).ports = d.ports ∧ (d.setPower f).lanes = d.lanes ∧
    (d.setPower f).laneMap = d.laneMap ∧ (d.setPower f).epochs = d.epochs ∧ (d.setPower f).staging = d.staging ∧
    (d.setPower f).courses = d.courses ∧ (d.setPower f).slices = d.slices ∧ (d.setPower f).store = d.store ∧
    (d.setPower f).banks = d.banks ∧ (d.setPower f).asmMap = d.asmMap ∧ (d.setPower f).aus = d.aus ∧
    (d.setPower f).streams = d.streams ∧ (d.setPower f).sets = d.sets ∧ (d.setPower f).chans = d.chans ∧
    (d.setPower f).itemIds = d.itemIds ∧ (d.setPower f).freeWait = d.freeWait ∧ (d.setPower f).badCtx = d.badCtx ∧
    (d.setPower f).tiles = d.tiles ∧ (d.setPower f).tileKeys = d.tileKeys ∧ (d.setPower f).mbxs = d.mbxs ∧
    (d.setPower f).pair = d.pair ∧ (d.setPower f).wear = d.wear ∧ (d.setPower f).stw = d.stw ∧ (d.setPower f).mems = d.mems ∧
    (d.setPower f).boot = d.boot ∧ (d.setPower f).dbg = d.dbg ∧ (d.setPower f).export_ = d.export_ := by
  and_intros <;> rfl

/-- `setPair` changes `pair` alone. -/
@[simp] theorem setPair_fields (f : Pair → Pair) :
    (d.setPair f).regs = d.regs ∧ (d.setPair f).cnts = d.cnts ∧ (d.setPair f).latch = d.latch ∧
    (d.setPair f).readData = d.readData ∧ (d.setPair f).staged = d.staged ∧ (d.setPair f).fresh = d.fresh ∧
    (d.setPair f).out = d.out ∧ (d.setPair f).unmasked = d.unmasked ∧ (d.setPair f).msixPend = d.msixPend ∧
    (d.setPair f).faults = d.faults ∧ (d.setPair f).time = d.time ∧ (d.setPair f).doms = d.doms ∧
    (d.setPair f).serving = d.serving ∧ (d.setPair f).ledgers = d.ledgers ∧ (d.setPair f).accts = d.accts ∧
    (d.setPair f).nextPid = d.nextPid ∧ (d.setPair f).west = d.west ∧ (d.setPair f).east = d.east ∧
    (d.setPair f).sched = d.sched ∧ (d.setPair f).ports = d.ports ∧ (d.setPair f).lanes = d.lanes ∧
    (d.setPair f).laneMap = d.laneMap ∧ (d.setPair f).epochs = d.epochs ∧ (d.setPair f).staging = d.staging ∧
    (d.setPair f).courses = d.courses ∧ (d.setPair f).slices = d.slices ∧ (d.setPair f).store = d.store ∧
    (d.setPair f).banks = d.banks ∧ (d.setPair f).asmMap = d.asmMap ∧ (d.setPair f).aus = d.aus ∧
    (d.setPair f).streams = d.streams ∧ (d.setPair f).sets = d.sets ∧ (d.setPair f).chans = d.chans ∧
    (d.setPair f).itemIds = d.itemIds ∧ (d.setPair f).freeWait = d.freeWait ∧ (d.setPair f).badCtx = d.badCtx ∧
    (d.setPair f).tiles = d.tiles ∧ (d.setPair f).tileKeys = d.tileKeys ∧ (d.setPair f).mbxs = d.mbxs ∧
    (d.setPair f).power = d.power ∧ (d.setPair f).wear = d.wear ∧ (d.setPair f).stw = d.stw ∧ (d.setPair f).mems = d.mems ∧
    (d.setPair f).boot = d.boot ∧ (d.setPair f).dbg = d.dbg ∧ (d.setPair f).export_ = d.export_ := by
  and_intros <;> rfl

/-- `setWearing` changes `wear` alone. -/
@[simp] theorem setWearing_fields (f : Wear → Wear) :
    (d.setWearing f).regs = d.regs ∧ (d.setWearing f).cnts = d.cnts ∧ (d.setWearing f).latch = d.latch ∧
    (d.setWearing f).readData = d.readData ∧ (d.setWearing f).staged = d.staged ∧ (d.setWearing f).fresh = d.fresh ∧
    (d.setWearing f).out = d.out ∧ (d.setWearing f).unmasked = d.unmasked ∧ (d.setWearing f).msixPend = d.msixPend ∧
    (d.setWearing f).faults = d.faults ∧ (d.setWearing f).time = d.time ∧ (d.setWearing f).doms = d.doms ∧
    (d.setWearing f).serving = d.serving ∧ (d.setWearing f).ledgers = d.ledgers ∧ (d.setWearing f).accts = d.accts ∧
    (d.setWearing f).nextPid = d.nextPid ∧ (d.setWearing f).west = d.west ∧ (d.setWearing f).east = d.east ∧
    (d.setWearing f).sched = d.sched ∧ (d.setWearing f).ports = d.ports ∧ (d.setWearing f).lanes = d.lanes ∧
    (d.setWearing f).laneMap = d.laneMap ∧ (d.setWearing f).epochs = d.epochs ∧ (d.setWearing f).staging = d.staging ∧
    (d.setWearing f).courses = d.courses ∧ (d.setWearing f).slices = d.slices ∧ (d.setWearing f).store = d.store ∧
    (d.setWearing f).banks = d.banks ∧ (d.setWearing f).asmMap = d.asmMap ∧ (d.setWearing f).aus = d.aus ∧
    (d.setWearing f).streams = d.streams ∧ (d.setWearing f).sets = d.sets ∧ (d.setWearing f).chans = d.chans ∧
    (d.setWearing f).itemIds = d.itemIds ∧ (d.setWearing f).freeWait = d.freeWait ∧ (d.setWearing f).badCtx = d.badCtx ∧
    (d.setWearing f).tiles = d.tiles ∧ (d.setWearing f).tileKeys = d.tileKeys ∧ (d.setWearing f).mbxs = d.mbxs ∧
    (d.setWearing f).power = d.power ∧ (d.setWearing f).pair = d.pair ∧ (d.setWearing f).stw = d.stw ∧
    (d.setWearing f).mems = d.mems ∧ (d.setWearing f).boot = d.boot ∧ (d.setWearing f).dbg = d.dbg ∧
    (d.setWearing f).export_ = d.export_ := by
  and_intros <;> rfl

/-- `setStw` changes `stw` alone. -/
@[simp] theorem setStw_fields (f : Stewards → Stewards) :
    (d.setStw f).regs = d.regs ∧ (d.setStw f).cnts = d.cnts ∧ (d.setStw f).latch = d.latch ∧
    (d.setStw f).readData = d.readData ∧ (d.setStw f).staged = d.staged ∧ (d.setStw f).fresh = d.fresh ∧
    (d.setStw f).out = d.out ∧ (d.setStw f).unmasked = d.unmasked ∧ (d.setStw f).msixPend = d.msixPend ∧
    (d.setStw f).faults = d.faults ∧ (d.setStw f).time = d.time ∧ (d.setStw f).doms = d.doms ∧
    (d.setStw f).serving = d.serving ∧ (d.setStw f).ledgers = d.ledgers ∧ (d.setStw f).accts = d.accts ∧
    (d.setStw f).nextPid = d.nextPid ∧ (d.setStw f).west = d.west ∧ (d.setStw f).east = d.east ∧ (d.setStw f).sched = d.sched ∧
    (d.setStw f).ports = d.ports ∧ (d.setStw f).lanes = d.lanes ∧ (d.setStw f).laneMap = d.laneMap ∧
    (d.setStw f).epochs = d.epochs ∧ (d.setStw f).staging = d.staging ∧ (d.setStw f).courses = d.courses ∧
    (d.setStw f).slices = d.slices ∧ (d.setStw f).store = d.store ∧ (d.setStw f).banks = d.banks ∧
    (d.setStw f).asmMap = d.asmMap ∧ (d.setStw f).aus = d.aus ∧ (d.setStw f).streams = d.streams ∧ (d.setStw f).sets = d.sets ∧
    (d.setStw f).chans = d.chans ∧ (d.setStw f).itemIds = d.itemIds ∧ (d.setStw f).freeWait = d.freeWait ∧
    (d.setStw f).badCtx = d.badCtx ∧ (d.setStw f).tiles = d.tiles ∧ (d.setStw f).tileKeys = d.tileKeys ∧
    (d.setStw f).mbxs = d.mbxs ∧ (d.setStw f).power = d.power ∧ (d.setStw f).pair = d.pair ∧ (d.setStw f).wear = d.wear ∧
    (d.setStw f).mems = d.mems ∧ (d.setStw f).boot = d.boot ∧ (d.setStw f).dbg = d.dbg ∧
    (d.setStw f).export_ = d.export_ := by
  and_intros <;> rfl

/-- `setMem` changes `mems` alone. -/
@[simp] theorem setMem_fields (m : Nat) (f : MemId → MemId) :
    (d.setMem m f).regs = d.regs ∧ (d.setMem m f).cnts = d.cnts ∧ (d.setMem m f).latch = d.latch ∧
    (d.setMem m f).readData = d.readData ∧ (d.setMem m f).staged = d.staged ∧ (d.setMem m f).fresh = d.fresh ∧
    (d.setMem m f).out = d.out ∧ (d.setMem m f).unmasked = d.unmasked ∧ (d.setMem m f).msixPend = d.msixPend ∧
    (d.setMem m f).faults = d.faults ∧ (d.setMem m f).time = d.time ∧ (d.setMem m f).doms = d.doms ∧
    (d.setMem m f).serving = d.serving ∧ (d.setMem m f).ledgers = d.ledgers ∧ (d.setMem m f).accts = d.accts ∧
    (d.setMem m f).nextPid = d.nextPid ∧ (d.setMem m f).west = d.west ∧ (d.setMem m f).east = d.east ∧
    (d.setMem m f).sched = d.sched ∧ (d.setMem m f).ports = d.ports ∧ (d.setMem m f).lanes = d.lanes ∧
    (d.setMem m f).laneMap = d.laneMap ∧ (d.setMem m f).epochs = d.epochs ∧ (d.setMem m f).staging = d.staging ∧
    (d.setMem m f).courses = d.courses ∧ (d.setMem m f).slices = d.slices ∧ (d.setMem m f).store = d.store ∧
    (d.setMem m f).banks = d.banks ∧ (d.setMem m f).asmMap = d.asmMap ∧ (d.setMem m f).aus = d.aus ∧
    (d.setMem m f).streams = d.streams ∧ (d.setMem m f).sets = d.sets ∧ (d.setMem m f).chans = d.chans ∧
    (d.setMem m f).itemIds = d.itemIds ∧ (d.setMem m f).freeWait = d.freeWait ∧ (d.setMem m f).badCtx = d.badCtx ∧
    (d.setMem m f).tiles = d.tiles ∧ (d.setMem m f).tileKeys = d.tileKeys ∧ (d.setMem m f).mbxs = d.mbxs ∧
    (d.setMem m f).power = d.power ∧ (d.setMem m f).pair = d.pair ∧ (d.setMem m f).wear = d.wear ∧ (d.setMem m f).stw = d.stw ∧
    (d.setMem m f).boot = d.boot ∧ (d.setMem m f).dbg = d.dbg ∧ (d.setMem m f).export_ = d.export_ := by
  and_intros <;> rfl

/-- `setBoot` changes `boot` alone. -/
@[simp] theorem setBoot_fields (f : Boot → Boot) :
    (d.setBoot f).regs = d.regs ∧ (d.setBoot f).cnts = d.cnts ∧ (d.setBoot f).latch = d.latch ∧
    (d.setBoot f).readData = d.readData ∧ (d.setBoot f).staged = d.staged ∧ (d.setBoot f).fresh = d.fresh ∧
    (d.setBoot f).out = d.out ∧ (d.setBoot f).unmasked = d.unmasked ∧ (d.setBoot f).msixPend = d.msixPend ∧
    (d.setBoot f).faults = d.faults ∧ (d.setBoot f).time = d.time ∧ (d.setBoot f).doms = d.doms ∧
    (d.setBoot f).serving = d.serving ∧ (d.setBoot f).ledgers = d.ledgers ∧ (d.setBoot f).accts = d.accts ∧
    (d.setBoot f).nextPid = d.nextPid ∧ (d.setBoot f).west = d.west ∧ (d.setBoot f).east = d.east ∧
    (d.setBoot f).sched = d.sched ∧ (d.setBoot f).ports = d.ports ∧ (d.setBoot f).lanes = d.lanes ∧
    (d.setBoot f).laneMap = d.laneMap ∧ (d.setBoot f).epochs = d.epochs ∧ (d.setBoot f).staging = d.staging ∧
    (d.setBoot f).courses = d.courses ∧ (d.setBoot f).slices = d.slices ∧ (d.setBoot f).store = d.store ∧
    (d.setBoot f).banks = d.banks ∧ (d.setBoot f).asmMap = d.asmMap ∧ (d.setBoot f).aus = d.aus ∧
    (d.setBoot f).streams = d.streams ∧ (d.setBoot f).sets = d.sets ∧ (d.setBoot f).chans = d.chans ∧
    (d.setBoot f).itemIds = d.itemIds ∧ (d.setBoot f).freeWait = d.freeWait ∧ (d.setBoot f).badCtx = d.badCtx ∧
    (d.setBoot f).tiles = d.tiles ∧ (d.setBoot f).tileKeys = d.tileKeys ∧ (d.setBoot f).mbxs = d.mbxs ∧
    (d.setBoot f).power = d.power ∧ (d.setBoot f).pair = d.pair ∧ (d.setBoot f).wear = d.wear ∧ (d.setBoot f).stw = d.stw ∧
    (d.setBoot f).mems = d.mems ∧ (d.setBoot f).dbg = d.dbg ∧ (d.setBoot f).export_ = d.export_ := by
  and_intros <;> rfl

/-- `setDebug` changes `debug` alone. -/
@[simp] theorem setDebug_fields (f : Debug → Debug) :
    (d.setDebug f).regs = d.regs ∧ (d.setDebug f).cnts = d.cnts ∧ (d.setDebug f).latch = d.latch ∧
    (d.setDebug f).readData = d.readData ∧ (d.setDebug f).staged = d.staged ∧ (d.setDebug f).fresh = d.fresh ∧
    (d.setDebug f).out = d.out ∧ (d.setDebug f).unmasked = d.unmasked ∧ (d.setDebug f).msixPend = d.msixPend ∧
    (d.setDebug f).faults = d.faults ∧ (d.setDebug f).time = d.time ∧ (d.setDebug f).doms = d.doms ∧
    (d.setDebug f).serving = d.serving ∧ (d.setDebug f).ledgers = d.ledgers ∧ (d.setDebug f).accts = d.accts ∧
    (d.setDebug f).nextPid = d.nextPid ∧ (d.setDebug f).west = d.west ∧ (d.setDebug f).east = d.east ∧
    (d.setDebug f).sched = d.sched ∧ (d.setDebug f).ports = d.ports ∧ (d.setDebug f).lanes = d.lanes ∧
    (d.setDebug f).laneMap = d.laneMap ∧ (d.setDebug f).epochs = d.epochs ∧ (d.setDebug f).staging = d.staging ∧
    (d.setDebug f).courses = d.courses ∧ (d.setDebug f).slices = d.slices ∧ (d.setDebug f).store = d.store ∧
    (d.setDebug f).banks = d.banks ∧ (d.setDebug f).asmMap = d.asmMap ∧ (d.setDebug f).aus = d.aus ∧
    (d.setDebug f).streams = d.streams ∧ (d.setDebug f).sets = d.sets ∧ (d.setDebug f).chans = d.chans ∧
    (d.setDebug f).itemIds = d.itemIds ∧ (d.setDebug f).freeWait = d.freeWait ∧ (d.setDebug f).badCtx = d.badCtx ∧
    (d.setDebug f).tiles = d.tiles ∧ (d.setDebug f).tileKeys = d.tileKeys ∧ (d.setDebug f).mbxs = d.mbxs ∧
    (d.setDebug f).power = d.power ∧ (d.setDebug f).pair = d.pair ∧ (d.setDebug f).wear = d.wear ∧ (d.setDebug f).stw = d.stw ∧
    (d.setDebug f).mems = d.mems ∧ (d.setDebug f).boot = d.boot ∧ (d.setDebug f).export_ = d.export_ := by
  and_intros <;> rfl

/-- `setLedger` changes `ledgers` alone. -/
@[simp] theorem setLedger_fields (n : Nat) (f : Ledger → Ledger) :
    (d.setLedger n f).regs = d.regs ∧ (d.setLedger n f).cnts = d.cnts ∧ (d.setLedger n f).latch = d.latch ∧
    (d.setLedger n f).readData = d.readData ∧ (d.setLedger n f).staged = d.staged ∧ (d.setLedger n f).fresh = d.fresh ∧
    (d.setLedger n f).out = d.out ∧ (d.setLedger n f).unmasked = d.unmasked ∧ (d.setLedger n f).msixPend = d.msixPend ∧
    (d.setLedger n f).faults = d.faults ∧ (d.setLedger n f).time = d.time ∧ (d.setLedger n f).doms = d.doms ∧
    (d.setLedger n f).serving = d.serving ∧ (d.setLedger n f).accts = d.accts ∧ (d.setLedger n f).nextPid = d.nextPid ∧
    (d.setLedger n f).west = d.west ∧ (d.setLedger n f).east = d.east ∧ (d.setLedger n f).sched = d.sched ∧
    (d.setLedger n f).ports = d.ports ∧ (d.setLedger n f).lanes = d.lanes ∧ (d.setLedger n f).laneMap = d.laneMap ∧
    (d.setLedger n f).epochs = d.epochs ∧ (d.setLedger n f).staging = d.staging ∧ (d.setLedger n f).courses = d.courses ∧
    (d.setLedger n f).slices = d.slices ∧ (d.setLedger n f).store = d.store ∧ (d.setLedger n f).banks = d.banks ∧
    (d.setLedger n f).asmMap = d.asmMap ∧ (d.setLedger n f).aus = d.aus ∧ (d.setLedger n f).streams = d.streams ∧
    (d.setLedger n f).sets = d.sets ∧ (d.setLedger n f).chans = d.chans ∧ (d.setLedger n f).itemIds = d.itemIds ∧
    (d.setLedger n f).freeWait = d.freeWait ∧ (d.setLedger n f).badCtx = d.badCtx ∧ (d.setLedger n f).tiles = d.tiles ∧
    (d.setLedger n f).tileKeys = d.tileKeys ∧ (d.setLedger n f).mbxs = d.mbxs ∧ (d.setLedger n f).power = d.power ∧
    (d.setLedger n f).pair = d.pair ∧ (d.setLedger n f).wear = d.wear ∧ (d.setLedger n f).stw = d.stw ∧
    (d.setLedger n f).mems = d.mems ∧ (d.setLedger n f).boot = d.boot ∧ (d.setLedger n f).dbg = d.dbg ∧
    (d.setLedger n f).export_ = d.export_ := by
  and_intros <;> rfl

end Sys2Proof.Machine.Dev
end

