-- ==== Sys2Proof/Laws/Ops.lean ====
section
/-! SUPPORT. What each shared operation can do: commands, the register file, interrupts, the local error registers, the memory of a set. -/

namespace Sys2Proof.Machine

/-! ### Commands -/

/-- A command over `act` answers a next state, changes the block by `f` and leaves the queue. -/
theorem act_iff {s t : State} {f : Dev → Dev} : s.act f = .next t ↔ t = ⟨f s.dev, s.pending⟩ := by
  unfold State.act
  constructor
  · intro h; cases h; rfl
  · rintro rfl; rfl

/-- A host's command acts where BAR0 is enabled and is inert elsewhere. -/
theorem host_iff {s t : State} {f : Dev → Dev} :
    s.host f = .next t ↔ t = ⟨if s.dev.bar0 then f s.dev else s.dev, s.pending⟩ := act_iff

/-- A command of an interface is inert where the number is no interface code. -/
theorem actIf_iff {s t : State} {i : Nat} {f : Dev → Dev} :
    s.actIf i f = .next t ↔ t = ⟨if isIface i then f s.dev else s.dev, s.pending⟩ := act_iff

theorem hostIf_iff {s t : State} {i : Nat} {f : Dev → Dev} :
    s.hostIf i f = .next t ↔ t = ⟨if s.dev.bar0 then (if isIface i then f s.dev else s.dev) else s.dev, s.pending⟩ := host_iff

namespace Dev

variable (d : Dev)

/-! ### The register file -/

/-- A register just stored reads the low 32 bits of what was stored. -/
theorem reg_setReg_self (a v : Nat) (hs : Map.sorted d.regs = true) :
    (d.setReg a v).reg a = if BitVec.ofNat 32 v = BitVec.ofNat 32 (resetOf a) then resetOf a else v % 2 ^ 32 := by
  by_cases h : BitVec.ofNat 32 v = BitVec.ofNat 32 (resetOf a)
  · simp only [reg, setReg, Map.putD, if_pos h, Map.get?_erase_self a hs]
  · simp only [reg, setReg, Map.putD, if_neg h, Map.get?_put_self, BitVec.toNat_ofNat]

/-- A store leaves what other registers read. -/
theorem reg_setReg_of_ne {a b : Nat} (v : Nat) (h : b ≠ a) (hs : Map.sorted d.regs = true) : (d.setReg a v).reg b = d.reg b := by
  by_cases e : BitVec.ofNat 32 v = BitVec.ofNat 32 (resetOf a)
  · simp only [reg, setReg, Map.putD, if_pos e, Map.get?_erase_of_ne h hs]
  · simp only [reg, setReg, Map.putD, if_neg e, Map.get?_put_of_ne d.regs _ h hs]

/-- A store keeps the canonical form of the register file. -/
theorem regsCanonical_setReg (a v : Nat) (h : d.regsCanonical = true) : (d.setReg a v).regsCanonical = true := by
  simp only [regsCanonical, Bool.and_eq_true, List.all_eq_true, bne_iff_ne, ne_eq] at h ⊢
  refine ⟨Map.sorted_putD a _ _ h.1, fun e he => ?_⟩
  simp only [setReg, Map.putD] at he
  split at he
  · exact h.2 e (Map.mem_erase he)
  · rcases Map.mem_put he with rfl | he
    · assumption
    · exact h.2 e he

/-! ### Counters -/

theorem cnt_bump_self (a n : Nat) (hs : Map.sorted d.cnts = true) : (d.bump a n).cnt a = (d.cnt a + n) % 2 ^ 64 := by
  simp [cnt, bump, Map.getD_upd_self _ _ _ hs]

theorem cnt_bump_of_ne {a b : Nat} (n : Nat) (h : b ≠ a) (hs : Map.sorted d.cnts = true) : (d.bump a n).cnt b = d.cnt b := by
  simp [cnt, bump, Map.getD_upd_of_ne _ _ h hs]

/-! ### Interrupts and errors: what they may change -/

theorem signal_frame (v : Nat) : d.signal v = { d with out := (d.signal v).out, msixPend := (d.signal v).msixPend } := by
  unfold signal; split <;> rfl

theorem sumBit_frame (i : Nat) :
    d.sumBit i = { d with regs := (d.sumBit i).regs, out := (d.sumBit i).out, msixPend := (d.sumBit i).msixPend } := by
  unfold sumBit; dsimp only; split
  · rw [signal_frame]; simp [setBit, setFld, setReg]
  · rfl

theorem event_frame (a i : Nat) :
    d.event a i = { d with regs := (d.event a i).regs, out := (d.event a i).out, msixPend := (d.event a i).msixPend } := by
  unfold event; dsimp only; split
  · rfl
  · rw [sumBit_frame]; simp [setBit, setFld, setReg]

theorem wordPoisoned_frame (m : Nat) :
    d.wordPoisoned m = { d with regs := (d.wordPoisoned m).regs, cnts := (d.wordPoisoned m).cnts } := rfl

/-- Raising an error may change registers, counters, signals and the local error registers, and nothing else. -/
theorem raiseAs_frame (src code : Nat) (detail : List Nat) (inj wear : Bool) :
    let e := d.raiseAs src code detail inj wear
    e = { d with regs := e.regs, cnts := e.cnts, out := e.out, msixPend := e.msixPend, faults := e.faults } := by
  unfold raiseAs
  dsimp only
  split <;> split <;> first | rfl | (rw [sumBit_frame]; done) | (rw [sumBit_frame]; rfl)

/-- What raising an error leaves in the local error registers. -/
theorem raiseAs_faults (src code : Nat) (detail : List Nat) (inj wear : Bool) :
    (d.raiseAs src code detail inj wear).faults = { d.faults with pend := (d.raiseAs src code detail inj wear).faults.pend } := by
  unfold raiseAs
  dsimp only
  split <;> split <;> first | rfl | (rw [sumBit_frame]; done) | (rw [sumBit_frame]; rfl)

/-! ### The memory of a set -/

/-- Bytes written one by one keep the canonical form of a memory. -/
theorem foldl_put_wf (l : List (Byte × Nat)) : ∀ m : Map Byte, Memory.wf m = true →
    Memory.wf (l.foldl (fun m e => Map.putD m e.2 0 e.1) m) = true := by
  induction l with
  | nil => exact fun m h => h
  | cons e l ih => exact fun m h => ih _ (Map.wf_putD _ _ h)

/-- A write to a set's memory keeps the canonical form of every set's memory. -/
theorem memWrite_wf (s a : Nat) (l : List Byte) (h : ∀ e ∈ d.sets, Memory.wf e.2.mem = true) (hs : Memory.wf (d.set s).mem = true) :
    ∀ e ∈ (d.memWrite s a l).sets, Memory.wf e.2.mem = true := by
  intro e he
  simp only [memWrite, setSet] at he
  rcases Map.mem_upd he with rfl | he
  · exact foldl_put_wf _ _ hs
  · exact h e he

/-! ### The units: reading one that was changed, and another -/

theorem port_setPort_self (i : Nat) (f : Port → Port) (hs : Map.sorted d.ports = true) : (d.setPort i f).port i = f (d.port i) :=
  Map.getD_upd_self i _ f hs

theorem port_setPort_of_ne {i j : Nat} (f : Port → Port) (h : j ≠ i) (hs : Map.sorted d.ports = true) : (d.setPort i f).port j = d.port j :=
  Map.getD_upd_of_ne _ f h hs

theorem course_setCourse_self (i : Nat) (f : Course → Course) (hs : Map.sorted d.courses = true) : (d.setCourse i f).course i = f (d.course i) :=
  Map.getD_upd_self i _ f hs

theorem course_setCourse_of_ne {i j : Nat} (f : Course → Course) (h : j ≠ i) (hs : Map.sorted d.courses = true) : (d.setCourse i f).course j = d.course j :=
  Map.getD_upd_of_ne _ f h hs

theorem bank_setBank_self (i : Nat) (f : Bank → Bank) (hs : Map.sorted d.banks = true) : (d.setBank i f).bank i = f (d.bank i) :=
  Map.getD_upd_self i _ f hs

theorem bank_setBank_of_ne {i j : Nat} (f : Bank → Bank) (h : j ≠ i) (hs : Map.sorted d.banks = true) : (d.setBank i f).bank j = d.bank j :=
  Map.getD_upd_of_ne _ f h hs

theorem set_setSet_self (i : Nat) (f : SetSt → SetSt) (hs : Map.sorted d.sets = true) : (d.setSet i f).set i = f (d.set i) :=
  Map.getD_upd_self i _ f hs

theorem set_setSet_of_ne {i j : Nat} (f : SetSt → SetSt) (h : j ≠ i) (hs : Map.sorted d.sets = true) : (d.setSet i f).set j = d.set j :=
  Map.getD_upd_of_ne _ f h hs

theorem chan_setChan_self (i : Nat) (f : Chan → Chan) (hs : Map.sorted d.chans = true) : (d.setChan i f).chan i = f (d.chan i) :=
  Map.getD_upd_self i _ f hs

theorem chan_setChan_of_ne {i j : Nat} (f : Chan → Chan) (h : j ≠ i) (hs : Map.sorted d.chans = true) : (d.setChan i f).chan j = d.chan j :=
  Map.getD_upd_of_ne _ f h hs

theorem mbx_setMbx_self (i : Nat) (f : Mbx → Mbx) (hs : Map.sorted d.mbxs = true) : (d.setMbx i f).mbx i = f (d.mbx i) :=
  Map.getD_upd_self i _ f hs

theorem mbx_setMbx_of_ne {i j : Nat} (f : Mbx → Mbx) (h : j ≠ i) (hs : Map.sorted d.mbxs = true) : (d.setMbx i f).mbx j = d.mbx j :=
  Map.getD_upd_of_ne _ f h hs

end Dev

end Sys2Proof.Machine
end

