-- ==== Sys2Proof/WellFormed.lean ====
section
/-! DEFINITION. What a command must satisfy beside the types of its operands: an interface it names has an interface code, a brick it
names exists, a frame of the Fjarair link is of its row's type and comes from a lane and a side that exist, and a frame of the debug port has a COUNT's
number of words. -/

namespace Sys2Proof

/-- Whether a number is an interface code (R500). -/
def ifaceCode (i : Nat) : Bool := i < 48 || (64 ≤ i && i < 96)

/-- Whether a frame is one that the link can carry, with a body of its row's type (R552). -/
def frameFits (ok : FjBody → Bool) (f : Fjarair) : Bool := f.side < 2 && f.lane < 8 && ok f.body

/-- Whether a body carries mirror records of which the first satisfies `p`. -/
def dataOf (p : PairRec → Bool) : FjBody → Bool
  | .data (r :: _) => p r
  | _ => false

namespace Instr

/-- A well-formed command. -/
def wellFormed : Instr → Bool
  | .frameReceived i _ => ifaceCode i
  | .pfcPauseExpiry i _ => ifaceCode i
  | .presenceChange i _ => ifaceCode i
  | .portEnableWrite i _ => ifaceCode i
  | .autonegResolved i _ => ifaceCode i
  | .linkUp i => ifaceCode i
  | .trainAttemptTimeout i => ifaceCode i
  | .retryGapEnd i => ifaceCode i
  | .lockLostTimeout i => ifaceCode i
  | .pfcWatchdogTrip i _ => ifaceCode i
  | .pfcRecoverEnd i _ => ifaceCode i
  | .pfcTxRefresh i => ifaceCode i
  | .quarWindowEnd i => ifaceCode i
  | .preemptVerifySend i => ifaceCode i
  | .preemptVerifyResult i _ => ifaceCode i
  | .schedulerRelease i _ => ifaceCode i
  | .egressFrameEnd i _ => ifaceCode i
  | .schIfRateWrite i _ => ifaceCode i
  | .figureBoundary i _ => ifaceCode i
  | .reelSwitch i => ifaceCode i
  | .reelReplaced i _ => ifaceCode i
  | .handoverDrainEnd i => ifaceCode i
  | .brickSweepVisit _ b _ => b < 668672
  | .hello f => frameFits (fun b => match b with | .hello .. => true | _ => false) f
  | .heartbeat f => frameFits (fun b => match b with | .heartbeat .. => true | _ => false) f
  | .ackFrame f => frameFits (fun b => match b with | .ack => true | _ => false) f
  | .nakFrame f => frameFits (fun b => match b with | .nak => true | _ => false) f
  | .markTime f => frameFits (dataOf fun r => match r with | .markTime .. => true | _ => false) f
  | .courseRecord f => frameFits (dataOf fun r => match r with | .course .. => true | _ => false) f
  | .ifaceRecord f => frameFits (dataOf fun r => match r with | .iface .. => true | _ => false) f
  | .ctxSet f => frameFits (dataOf fun r => match r with | .ctxSet .. => true | _ => false) f
  | .ctxFreeRecord f => frameFits (dataOf fun r => match r with | .ctxFree .. => true | _ => false) f
  | .ctxTouch f => frameFits (dataOf fun r => match r with | .ctxTouch .. => true | _ => false) f
  | .commitRecord f => frameFits (dataOf fun r => match r with | .commit .. => true | _ => false) f
  | .tfire f => frameFits (dataOf fun r => match r with | .tfire .. => true | _ => false) f
  | .polRecord f => frameFits (dataOf fun r => match r with | .pol .. => true | _ => false) f
  | .queueRecord f => frameFits (dataOf fun r => match r with | .queue .. => true | _ => false) f
  | .syncStart f => frameFits (dataOf fun r => match r with | .syncStart => true | _ => false) f
  | .syncDone f => frameFits (dataOf fun r => match r with | .syncDone => true | _ => false) f
  | .ctrlAbsent f => frameFits (fun b => match b with | .ctrl .absent => true | _ => false) f
  | .ctrlOffer f => frameFits (fun b => match b with | .ctrl (.offer _) => true | _ => false) f
  | .ctrlAccept f => frameFits (fun b => match b with | .ctrl (.accept _) => true | _ => false) f
  | .ctrlRefuse f => frameFits (fun b => match b with | .ctrl (.refuse _) => true | _ => false) f
  | .ctrlSwitch f => frameFits (fun b => match b with | .ctrl (.switch _) => true | _ => false) f
  | .ctrlTakeAsk f => frameFits (fun b => match b with | .ctrl (.ask _) => true | _ => false) f
  | .ctrlMove f => frameFits (fun b => match b with | .ctrl .move => true | _ => false) f
  | .ctrlMoveEnd f => frameFits (fun b => match b with | .ctrl .moveEnd => true | _ => false) f
  | .xferFrame f => frameFits (fun b => match b with | .xfer .. => true | _ => false) f
  | .debugWrite _ _ data _ => 1 ≤ data.length && data.length ≤ 256
  | .debugUnlock _ response _ => 1 ≤ response.length && response.length ≤ 256
  | _ => true

end Instr

end Sys2Proof
end

