-- ==== Sys2Proof/Tests/Slice0.lean ====
section
/-! SUPPORT. Tests on small states. A witness applies a statement to concrete states and operands that meet all its hypotheses, each
by evaluation: what it then says is that the statement's row runs there, so no hypothesis of the statement is empty. The expected
values of the other tests are worked out from the manual. -/

namespace Sys2Proof.Machine

set_option Elab.async false

/-! ### Small states -/

/-- Every check of the canonical form, as one Bool. -/
def canonicalB (d : Dev) : Bool :=
  d.regsCanonical && Map.wf d.cnts 0 && Map.wf d.latch 0 && Map.sorted d.doms && Map.sorted d.ports && Map.sorted d.lanes
    && Map.sorted d.courses && (Map.sorted d.slices && d.slices.all fun e => Map.sorted e.2.sets) && Map.sorted d.aus
    && (Map.sorted d.banks && Map.sorted d.boot.ledger.banks) && Map.sorted d.sched.reels && Map.sorted d.sets && Map.sorted d.chans
    && Map.sorted d.mbxs && (d.sets.all fun e => Memory.wf e.2.mem) && d.sets.all fun e => Map.sorted e.2.engines

theorem canonical_of {d : Dev} (h : canonicalB d = true) : d.Canonical := by
  simp only [canonicalB, Bool.and_eq_true, List.all_eq_true] at h
  obtain ⟨⟨⟨⟨⟨⟨⟨⟨⟨⟨⟨⟨⟨⟨⟨h1, h2⟩, h3⟩, h4⟩, h5⟩, h6⟩, h7⟩, h8⟩, h9⟩, h10⟩, h11⟩, h12⟩, h13⟩, h14⟩, h15⟩, h16⟩ := h
  exact ⟨h1, h2, h3, h4, h5, h6, h7, h8, h9, h10, h11, h12, h13, h14, h15, h16⟩

/-- A block in RUN with every domain ON. -/
def up : Dev := { regs := [(0x20C, 0x60000000)], doms := (List.range 112).map fun k => (k, .on), stw := { spare := 0 } }

/-- A state with no command waiting. -/
def at_ (d : Dev) : State := ⟨d, []⟩

/-- That block at a moment of the interval view, in ns. -/
def Dev.atNs (d : Dev) (ns : Nat) : Dev :=
  { d with time := { d.time with mono := ns * 2 ^ 24, distMono := ns * 2 ^ 24, wall := ns * 2 ^ 24, distWall := ns * 2 ^ 24 } }

/-- The row `c` runs at the block `d`. -/
def applies (c : Instr) (d : Dev) : Prop := Completes c (at_ d) fun _ => True

theorem Completes.applies {c : Instr} {d : Dev} {P : Dev → Prop} (h : Completes c (at_ d) P) : applies c d := by
  obtain ⟨e, h, -⟩ := h
  exact ⟨e, h, trivial⟩

/-! ### Witnesses -/

theorem witness_StepRunsTheFrontCommand (h : Obligations.StepRunsTheFrontCommand) :
    step ⟨up, [.idcode, .bypass]⟩ = exec .idcode ⟨up, [.bypass]⟩ :=
  h .idcode [.bypass] ⟨up, [.idcode, .bypass]⟩ rfl

theorem witness_EmptyQueueIdles (h : Obligations.EmptyQueueIdles) : step (at_ up) = .next (at_ up) := h (at_ up) rfl

theorem witness_CanonicalFormIsKept (h : Obligations.CanonicalFormIsKept) :
    ∃ t, step ⟨up, [.timMonoLoRead]⟩ = .next t ∧ t.dev.Canonical :=
  ⟨_, rfl, h ⟨up, [.timMonoLoRead]⟩ _ (canonical_of (by decide +kernel)) rfl⟩

theorem witness_FusesOnlyGrow (h : Obligations.FusesOnlyGrow) :
    ∃ t, step ⟨{ up with boot := { keys := [{}, { revoked := true }, {}, {}], fwSvn := 3 } }, [.deviceReset]⟩ = .next t ∧
      t.dev.FusesAtLeast 3 [1] :=
  ⟨_, rfl, h 3 [1] ⟨{ up with boot := { keys := [{}, { revoked := true }, {}, {}], fwSvn := 3 } }, [.deviceReset]⟩ _
    ⟨by decide, by decide⟩ rfl⟩

theorem witness_OnlyStartUpWritesOtp (h : Obligations.OnlyStartUpWritesOtp) :
    ∃ t, exec .deviceReset (at_ up) = .next t ∧ t.dev.boot.fwSvn = 0 :=
  ⟨_, rfl, (h .deviceReset (at_ up) _ (fun _ hc => nomatch hc) rfl).2⟩

theorem witness_OnlyKeyCommandsWriteTileKeys (h : Obligations.OnlyKeyCommandsWriteTileKeys) :
    ∃ t, exec .deviceReset (at_ up) = .next t ∧ t.dev.tileKeys = up.tileKeys :=
  ⟨_, rfl, h .deviceReset (at_ up) _ trivial rfl⟩

/-- The register at an address. -/
def regOf (a : Nat) : RegDef := (reg? a).getD ⟨"", 0, 0, 0, []⟩

/-- A field of that register. -/
def fieldOf (a i : Nat) : Field := (regOf a).fields.getD i ⟨0, 0, .ro, .now, 0, 0, none⟩

theorem up_canonical : up.Canonical := canonical_of (by decide +kernel)

/-- A block that an IDLE field of bay 0's PRS block is not free in: its course holds a fragment. -/
def fragmented : Dev :=
  { up with courses := [(0, { frags := [⟨⟨0, 0, 4, 0, 0, 17, 1⟩, 1, [], 100, 0, 1000⟩] })] }

theorem witness_RegisterWriteByFields (h : Obligations.RegisterWriteByFields) :
    applies (.registerWrite 0x280004 15 0x1234567) up ∧ applies (.registerWrite 0x280004 15 0) up ∧
    applies (.registerWrite 0x10C 15 7) up :=
  ⟨(h (at_ up) 0x280004 0x1234567 (regOf 0x280004) (fieldOf 0x280004 0) up_canonical (by decide +kernel) (by decide)
      (by decide +kernel) (by decide) (by decide +kernel) (by decide +kernel)).applies,
    (h (at_ up) 0x280004 0 (regOf 0x280004) (fieldOf 0x280004 1) up_canonical (by decide +kernel) (by decide)
      (by decide +kernel) (by decide) (by decide +kernel) (by decide +kernel)).applies,
    (h (at_ up) 0x10C 7 (regOf 0x10C) (fieldOf 0x10C 0) up_canonical (by decide +kernel) (by decide)
      (by decide +kernel) (by decide) (by decide +kernel) (by decide +kernel)).applies⟩

/-- `d` with a register's word set. -/
def Dev.withReg (d : Dev) (a v : Nat) : Dev := d.setReg a v

theorem witness_PartialAndStrayWrites (h : Obligations.PartialAndStrayWrites) :
    applies (.registerWrite 0x200 7 5) up ∧ applies (.registerWrite 0x9000 15 5) up :=
  ⟨(h.1 (at_ up) 0x200 7 5 (by decide +kernel) (by decide)).applies,
    (h.2 (at_ up) 0x9000 5 (by decide +kernel) (by decide +kernel) (by decide) (by decide +kernel)).applies⟩

/-- Time stands at 2^53 + 3 s and a fraction. -/
def late : Dev := up.atNs (9007199254740995 * 1000000000 + 123456789)

theorem witness_ReadsWithSideEffects (h : Obligations.ReadsWithSideEffects) :
    applies (.rcFieldRead 0x400) (up.withReg 0x400 0x00071203) ∧
    applies (.counterLoRead 0x700100) { up with cnts := [(0x700100, 0x500000007)] } ∧ applies .timNsRead late ∧
    applies .timMonoLoRead late :=
  ⟨(h.1 (at_ (up.withReg 0x400 0x00071203)) 0x400 (regOf 0x400) (fieldOf 0x400 0) (canonical_of (by decide +kernel)) (by decide +kernel)
      (by decide +kernel) (by decide) (by decide) (by decide +kernel) (by decide +kernel) (by decide +kernel)).applies,
    (h.2.1 (at_ { up with cnts := [(0x700100, 0x500000007)] }) 0x700100 (canonical_of (by decide +kernel)) (by decide +kernel)
      (by decide +kernel) (by decide +kernel)).applies,
    (h.2.2.1 (at_ late) (canonical_of (by decide +kernel)) (by decide +kernel)).applies,
    (h.2.2.2 (at_ late) (canonical_of (by decide +kernel)) (by decide +kernel)).applies⟩

/-- A block whose domain `k` is OFF. -/
def without_ (k : Nat) : Dev := up.setDom k .off

theorem witness_AccessToAnUnpoweredRegister (h : Obligations.AccessToAnUnpoweredRegister) :
    applies (.domainOffAccess 0x600000 true) (without_ 38) ∧ applies (.domainOffAccess 0x600000 false) (without_ 38) :=
  ⟨(h (at_ (without_ 38)) 0x600000 true (by decide +kernel) (by decide +kernel)).applies,
    (h (at_ (without_ 38)) 0x600000 false (by decide +kernel) (by decide +kernel)).applies⟩

theorem witness_RegisterRowsStoreTheirValue (h : Obligations.RegisterRowsStoreTheirValue) :
    applies (.portEnableWrite 95 true) up ∧ applies (.breakoutWrite 15 true) up ∧ applies (.prtBindHiWrite 47 15 0x8FFF0001) up ∧
    applies (.auEnableWrite 15 false) up ∧ applies (.brkResvWrite 1 7 8193) up ∧ applies (.brkThreshWrite 1 3 4097) up ∧
    applies (.schIfRateWrite 95 50000) up :=
  ⟨(h.1 (at_ up) 95 true up_canonical (by decide +kernel) (by decide) (by decide +kernel)).applies,
    (h.2.1 (at_ up) 15 true up_canonical (by decide +kernel) (by decide +kernel) (.inl (by decide +kernel))).applies,
    (h.2.2.1 (at_ up) 47 15 0x8FFF0001 up_canonical (by decide +kernel) (by decide +kernel)).applies,
    (h.2.2.2.1 (at_ up) 15 false up_canonical (by decide +kernel) (by decide +kernel)).applies,
    (h.2.2.2.2.1 (at_ up) 1 7 8193 up_canonical (by decide +kernel) (by decide +kernel) (by decide +kernel)).applies,
    (h.2.2.2.2.2.1 (at_ up) 1 3 4097 up_canonical (by decide +kernel) (by decide +kernel) (by decide +kernel)).applies,
    (h.2.2.2.2.2.2 (at_ up) 95 50000 up_canonical (by decide +kernel) (by decide) (by decide +kernel) (by decide +kernel)).applies⟩

theorem witness_InjectionRowsArmTheirBit (h : Obligations.InjectionRowsArmTheirBit) :
    applies (.injUnc 22) up ∧ applies (.injDfree 0) up ∧ applies (.injSensor) up ∧ applies (.injNodeid 15) up :=
  ⟨(h (at_ up) (.injUnc 22) _ _ up_canonical (by decide +kernel) rfl (by decide +kernel)).applies,
    (h (at_ up) (.injDfree 0) _ _ up_canonical (by decide +kernel) rfl (by decide +kernel)).applies,
    (h (at_ up) .injSensor _ _ up_canonical (by decide +kernel) rfl (by decide +kernel)).applies,
    (h (at_ up) (.injNodeid 15) _ _ up_canonical (by decide +kernel) rfl (by decide +kernel)).applies⟩

theorem witness_MsixMaskWrites (h : Obligations.MsixMaskWrites) :
    applies (.msixVectorUnmask 79 true) up ∧ applies (.msixVectorUnmask 79 false) { up with msixPend := [79] } :=
  ⟨(h (at_ up) 79 (by decide +kernel)).1.applies, (h (at_ { up with msixPend := [79] }) 79 (by decide +kernel)).2.applies⟩

/-! Time -/

/-- Time under DISC `disc` at `ns`, running. -/
def timed (disc ns : Nat) (f : Time → Time) : Dev :=
  let d := (up.setFld 0x40000 5 4 disc).atNs ns
  { d with time := f d.time }

theorem witness_TimeAdvancesByTheIncrement (h : Obligations.TimeAdvancesByTheIncrement) :
    applies (.timeIslandCycle false true) (timed 0 7 fun t => { t with steps := [-3] }) ∧ applies (.timeIslandCycle false false) (timed 0 7 id) ∧
    applies (.timeIslandCycle false true) (timed 0 7 fun t => { t with running := false }) :=
  ⟨((h (at_ (timed 0 7 fun t => { t with steps := [-3] })) false true).1 (by decide +kernel)).applies,
    ((h (at_ (timed 0 7 id)) false false).1 (by decide +kernel)).applies,
    ((h (at_ (timed 0 7 fun t => { t with running := false })) false true).2 (by decide +kernel)).applies⟩

theorem witness_StepsOutOfRangeAreRefused (h : Obligations.StepsOutOfRangeAreRefused) :
    applies (.timStepWrite 0xFFFFFFF0) (timed 0 7 id) ∧ ((timed 0 7 id).stepNow (-8)).Raised 0xB000 0xB005 ∧
    applies (.timStepWrite 0x7FFFFFFF) (timed 0 (2 ^ 48 * 1000000000 - 1) id) :=
  ⟨(h.1 (at_ (timed 0 7 id)) 0xFFFFFFF0 (canonical_of (by decide +kernel)) (by decide +kernel) (by decide +kernel)).applies,
    (h.2 (timed 0 7 id) (-8) (canonical_of (by decide +kernel)) (by decide +kernel)).2.1,
    (h.1 (at_ (timed 0 (2 ^ 48 * 1000000000 - 1) id)) 0x7FFFFFFF (canonical_of (by decide +kernel)) (by decide +kernel) (by decide +kernel)).applies⟩

theorem witness_TimeRegisterRows (h : Obligations.TimeRegisterRows) :
    applies (.timStepWrite 0xFFFFFFF9) (timed 0 7 id) ∧ applies (.timAdjWrite 0x7FFFFFFF) (timed 0 7 id) ∧
    applies (.timServoWrite 5) (timed 2 7 id) ∧ applies (.timServoWrite 5) (timed 3 7 id) ∧
    applies (.timServoWrite 0xFFFFFF9C) (timed 1 7 fun t => { t with lockCount := 7 }) ∧
    applies (.timServoWrite 100) (timed 1 7 id) ∧ applies (.discWrite 3) (timed 0 7 id) ∧ applies (.refselWrite 1) (timed 0 7 fun t => { t with ref10 := true }) :=
  ⟨(h.1 (at_ (timed 0 7 id)) 0xFFFFFFF9 (by decide +kernel) (by decide +kernel)).applies,
    (h.2.1 (at_ (timed 0 7 id)) 0x7FFFFFFF (canonical_of (by decide +kernel)) (by decide +kernel)).applies,
    (h.2.2.1 (at_ (timed 2 7 id)) 5 (by decide +kernel) (.inr (by decide +kernel))).applies,
    (h.2.2.2.1 (at_ (timed 3 7 id)) 5 (by decide +kernel) (by decide +kernel)).applies,
    (h.2.2.2.2.1 (at_ (timed 1 7 fun t => { t with lockCount := 7 })) 0xFFFFFF9C (by decide +kernel) (by decide +kernel) (by decide) (by decide)).applies,
    (h.2.2.2.2.1 (at_ (timed 1 7 id)) 100 (by decide +kernel) (by decide +kernel) (by decide) (by decide)).applies,
    (h.2.2.2.2.2.1 (at_ (timed 0 7 id)) 3 (canonical_of (by decide +kernel)) (by decide +kernel) (by decide +kernel)).applies,
    (h.2.2.2.2.2.2 (at_ (timed 0 7 fun t => { t with ref10 := true })) 1 (canonical_of (by decide +kernel)) (by decide +kernel) (by decide +kernel)).applies⟩

theorem witness_TimeEvents (h : Obligations.TimeEvents) :
    applies .refselTakeover (timed 0 7 fun t => { t with ref10 := true, takeover := some 1, st := .locked }) ∧
    applies (.ppsInEdge true) (timed 0 7 id) ∧ applies (.ppsInEdge true) (timed 2 5000000 id) ∧
    applies .ppsEdgeMissing (timed 2 1500000000 fun t => { t with lockCount := 3 }) ∧
    applies .discTimeout (timed 1 3000000000 fun t => { t with st := .locked }) ∧
    applies (.referenceLoss 0) (timed 0 7 fun t => { t with st := .locked }) ∧
    applies (.timeSnapshot 99) (timed 0 7 fun t => { t with snapAsked := true }) ∧
    applies (.wakeTimeLoad 5) (let d := timed 0 7 fun t => { t with running := false, snapshot := some ⟨1000, 2000, .locked, 7, 2 ^ 48 - 1⟩ }
      { d with power := { d.power with backStep := 3 } }) ∧
    applies (.wakeTimeLoad 5) (let d := timed 0 7 fun t => { t with running := false }
      { d with power := { d.power with backStep := 3 } }) ∧
    applies (.speedWindowEnd 17 1234 700 60) up :=
  ⟨(h.1 (at_ (timed 0 7 fun t => { t with ref10 := true, takeover := some 1, st := .locked })) 1 rfl (by decide +kernel)).applies,
    (h.2.1 (at_ (timed 0 7 id)) true (canonical_of (by decide +kernel)) (by decide +kernel) (by decide +kernel)).applies,
    (h.2.1 (at_ (timed 2 5000000 id)) true (canonical_of (by decide +kernel)) (by decide +kernel) (by decide +kernel)).applies,
    (h.2.2.1 (at_ (timed 2 1500000000 fun t => { t with lockCount := 3 })) (canonical_of (by decide +kernel)) (by decide +kernel) (by decide +kernel)).applies,
    (h.2.2.2.1 (at_ (timed 1 3000000000 fun t => { t with st := .locked })) (by decide +kernel) rfl (by decide +kernel)).applies,
    (h.2.2.2.2.1 (at_ (timed 0 7 fun t => { t with st := .locked })) 0 rfl).applies,
    (h.2.2.2.2.2.1 (at_ (timed 0 7 fun t => { t with snapAsked := true })) 99 rfl (by decide +kernel)).applies,
    (h.2.2.2.2.2.2.1 (at_ (let d := timed 0 7 fun t => { t with running := false, snapshot := some ⟨1000, 2000, .locked, 7, 2 ^ 48 - 1⟩ }
      { d with power := { d.power with backStep := 3 } })) 5 _ rfl (by decide +kernel) rfl).applies,
    (h.2.2.2.2.2.2.2.1 (at_ (let d := timed 0 7 fun t => { t with running := false }
      { d with power := { d.power with backStep := 3 } })) 5 (canonical_of (by decide +kernel)) rfl (by decide +kernel) rfl).applies,
    (h.2.2.2.2.2.2.2.2 (at_ up) 17 1234 700 60 up_canonical (by decide +kernel)).applies⟩

/-! Bays and network ports -/

/-- The block at a moment with interface `i` in a given condition and enabled. -/
def withPort (i ns : Nat) (p : Port) : Dev :=
  let d := (up.setBit (portBase i) 0).atNs ns
  { d with ports := [(i, p)] }

theorem witness_InterfaceStateMoves (h : Obligations.InterfaceStateMoves) :
    applies (.presenceChange 95 true) ((withPort 95 7 {}).setBit (portBase 79) 4) ∧
    applies (.presenceChange 47 false) (withPort 47 7 { st := .admitted, present := true }) ∧
    applies (.autonegResolved 47 0xFFFF) (withPort 47 7 { st := .training, present := true }) ∧
    applies (.trainAttemptTimeout 64) (withPort 64 3000000000 { st := .training }) ∧
    applies (.retryGapEnd 0) (withPort 0 10000000000 { st := .training, gapFrom := some 0, modesOut := 7 }) ∧
    applies (.linkUp 47) (withPort 47 7 { st := .training, mode := 3, present := true }) ∧
    applies (.linkUp 0) (withPort 0 7 { st := .training, mode := 1, present := true, quarPending := true }) ∧
    applies (.lockLostTimeout 79) (withPort 79 7 { st := .quarantined, present := true, mode := 4, speed := 4 }) ∧
    applies (.quarWindowEnd 47) (withPort 47 1999999999 { trig := [(1, 3)], winStart := 999999999 }) := by
  have go (i : Fin 96) (ns : Nat) (p : Port) (f : Dev → Dev) (c : canonicalB (f (withPort i ns p)) = true) (w : isIface i = true) :=
    h (at_ (f (withPort i ns p))) i (canonical_of c) w
  exact ⟨((go 95 7 {} (·.setBit (portBase 79) 4) (by decide +kernel) (by decide)).1 rfl (by decide +kernel) (by decide +kernel)).applies,
    ((go 47 7 { st := .admitted, present := true } id (by decide +kernel) (by decide)).2.1 (by decide)).applies,
    ((go 47 7 { st := .training, present := true } id (by decide +kernel) (by decide)).2.2.1 0xFFFF 3 rfl rfl (by decide +kernel) (by decide +kernel)).applies,
    ((go 64 3000000000 { st := .training } id (by decide +kernel) (by decide)).2.2.2.1 rfl rfl (by decide +kernel)).applies,
    ((go 0 10000000000 { st := .training, gapFrom := some 0, modesOut := 7 } id (by decide +kernel) (by decide)).2.2.2.2.1 0 rfl rfl (by decide +kernel)).applies,
    ((go 47 7 { st := .training, mode := 3, present := true } id (by decide +kernel) (by decide)).2.2.2.2.2.1 rfl (by decide) rfl).applies,
    ((go 0 7 { st := .training, mode := 1, present := true, quarPending := true } id (by decide +kernel) (by decide)).2.2.2.2.2.1 rfl (by decide) rfl).applies,
    ((go 79 7 { st := .quarantined, present := true, mode := 4, speed := 4 } id (by decide +kernel) (by decide)).2.2.2.2.2.2.1 (.inr rfl)).applies,
    ((go 47 1999999999 { trig := [(1, 3)], winStart := 999999999 } id (by decide +kernel) (by decide)).2.2.2.2.2.2.2 (by decide) (by decide +kernel)).applies⟩

/-- A frame of `n` bytes between unicast stations, of an EtherType with no rule of its own, with its check sequence. -/
def goodFrame (n : Nat) : List Byte :=
  let b : List Byte := [2, 0, 0, 0, 0, 1, 2, 0, 0, 0, 0, 2, 8, 0] ++ List.replicate (n - 18) 0x55
  b ++ fcs b

/-- What an interface hands over of it. -/
def rx (b : List Byte) : RxFrame := ⟨b, false, false, false, false, true, 0⟩

/-- An interface in ADMITTED with the ACTIVE role. -/
def serving (i : Nat) : Dev := withPort i 7 { st := .admitted, present := true, mode := 1, speed := 1, active := true, seq := 2 ^ 48 - 1 }

theorem witness_ReceivedFrameOutcome (h : Obligations.ReceivedFrameOutcome) :
    applies (.frameReceived 47 { rx [] with malformed := true }) up ∧ applies (.frameReceived 64 (rx (List.replicate 64 1))) up ∧
    applies (.frameReceived 47 (rx (goodFrame 64))) (serving 47) :=
  ⟨((h (at_ up) 47 { rx [] with malformed := true } up_canonical (by decide) rfl).1 rfl).applies,
    (((h (at_ up) 64 (rx (List.replicate 64 1)) up_canonical (by decide) rfl).2 rfl rfl rfl rfl).1 (by decide +kernel)).applies,
    (((h (at_ (serving 47)) 47 (rx (goodFrame 64)) (canonical_of (by decide +kernel)) (by decide) rfl).2 rfl rfl rfl rfl).2 (by decide +kernel)
      (by decide +kernel) (by decide +kernel) (by decide +kernel) (by decide +kernel) (by decide +kernel) (by decide +kernel)
      (by decide +kernel) (by decide +kernel) (by decide +kernel) (by decide +kernel) (by decide +kernel)).applies⟩

/-- A copy waiting in a queue. -/
def aWaiting : Waiting := { desc := { chain := 0, gen := 0, mlen := 60 }, enq := 0, nb := 1 }

/-- Bay 47 with priority 0 held past its watchdog while a packet of it waits. -/
def held47 : Dev :=
  let d := withPort 47 20000000 { paused := [(0, 90000000)], wdStart := [(0, 0)], speed := 1, st := .admitted, active := true }
  { (d.setFld (portBase 47 + 0x0C) 7 0 1) with sched := { queues := [(47 * 640, { items := [aWaiting] })] } }

theorem witness_PauseLaneAndVerifyRows (h : Obligations.PauseLaneAndVerifyRows) :
    applies (.pfcPauseExpiry 47 7) (withPort 47 500 { paused := [(7, 500)] }) ∧
    applies (.pfcWatchdogTrip 47 0) held47 ∧
    applies (.pfcRecoverEnd 64 3) (withPort 64 200000000 { recover := [(3, 0)] }) ∧
    applies (.pfcTxRefresh 95) ((withPort 95 7 { st := .admitted, active := true, xoffSent := true }).setFld (portBase 95 + 0x0C) 15 8 5) ∧
    applies (.preemptVerifySend 0) (withPort 0 7 { verifying := true, verifyTries := 2, st := .quarantined, active := true }) ∧
    applies (.preemptVerifyResult 0 true) (withPort 0 7 { verifying := true, verifyTries := 3 }) ∧
    applies (.preemptVerifyResult 0 false) (withPort 0 7 { verifying := true, verifyTries := 3 }) ∧
    applies (.fecWindowEnd 3 81 5 17) up := by
  have go (i : Fin 96) (d : Dev) (c : canonicalB d = true) (w : isIface i = true) := h.1 (at_ d) i (canonical_of c) w
  exact ⟨((go 47 (withPort 47 500 { paused := [(7, 500)] }) (by decide +kernel) (by decide)).1 7 500 rfl (by decide)).applies,
    ((go 47 held47
      (by decide +kernel) (by decide)).2.1 0 0 rfl (by decide +kernel) (by decide +kernel) (by decide +kernel) (by decide +kernel)).applies,
    ((go 64 (withPort 64 200000000 { recover := [(3, 0)] }) (by decide +kernel) (by decide)).2.2.1 3 0 rfl (by decide +kernel)).applies,
    ((go 95 ((withPort 95 7 { st := .admitted, active := true, xoffSent := true }).setFld (portBase 95 + 0x0C) 15 8 5) (by decide +kernel)
      (by decide)).2.2.2.1 rfl rfl rfl (by decide +kernel)).applies,
    ((go 0 (withPort 0 7 { verifying := true, verifyTries := 2, st := .quarantined, active := true }) (by decide +kernel) (by decide)).2.2.2.2.1 rfl
      (by decide) rfl (.inr rfl)).applies,
    ((go 0 (withPort 0 7 { verifying := true, verifyTries := 3 }) (by decide +kernel) (by decide)).2.2.2.2.2 rfl).1.applies,
    (((go 0 (withPort 0 7 { verifying := true, verifyTries := 3 }) (by decide +kernel) (by decide)).2.2.2.2.2 rfl).2 (by decide)).applies,
    (h.2 (at_ up) 3 81 5 17 up_canonical).applies⟩

/-! Courses, automata, banks, learned entries and contexts -/

/-- The block at a moment with physical course `c` in a given condition. -/
def withCourse (c ns : Nat) (x : Course) : Dev := { up.atNs ns with courses := [(c, x)] }

/-- A packet of the current epoch. -/
def aDesc : Desc := { mlen := 60, aseq := 5 }

theorem witness_CourseSlotSelection (h : Obligations.CourseSlotSelection) :
    applies (.coursePass 15 noUpset) { up with staging := [(15, [⟨aDesc, List.replicate 60 0⟩])] } ∧
    applies (.coursePass 0 noUpset) (withCourse 0 7 { recirc := [⟨aDesc, 9, false⟩] }) ∧
    applies (.coursePass 0 noUpset) (withCourse 0 7 { inject := [⟨aDesc, 0, true⟩] }) ∧
    applies (.contextMissReturn 17 0 true []) (withCourse 17 7 { missq := [{ desc := aDesc, look := { key := some (1, [7]) } }] }) ∧
    applies (.fragHoldExpiry 17 0 false) (withCourse 17 500 { hold := [⟨{ desc := aDesc }, ⟨0, 0, 4, 0, 0, 17, 1⟩, 0, 500⟩] }) ∧
    applies (.fragHoldExpiry 17 0 true) (withCourse 17 500 { hold := [⟨{ desc := aDesc }, ⟨0, 0, 4, 0, 0, 17, 1⟩, 0, 900⟩] }) ∧
    applies (.fragEntryExpiry 0 0) (withCourse 0 5000000 { frags := [⟨⟨0, 0, 4, 0, 0, 17, 1⟩, 3, [], 100, 0, 1000⟩] }) :=
  ⟨((h.1 (at_ { up with staging := [(15, [⟨aDesc, List.replicate 60 0⟩])] }) 15 noUpset (by decide +kernel) (by decide)).1 _ _ rfl).applies,
    ((h.1 (at_ (withCourse 0 7 { recirc := [⟨aDesc, 9, false⟩] })) 0 noUpset (by decide +kernel) (by decide)).2.1 _ _ rfl (by decide) (by decide) rfl).applies,
    ((h.1 (at_ (withCourse 0 7 { inject := [⟨aDesc, 0, true⟩] })) 0 noUpset (by decide +kernel) (by decide)).2.2 _ _ rfl (by decide) (by decide) rfl rfl).applies,
    (h.2.1 (at_ (withCourse 17 7 { missq := [{ desc := aDesc, look := { key := some (1, [7]) } }] })) 17 0 true [] _ 1 [7]
      (canonical_of (by decide +kernel)) rfl rfl).applies,
    ((h.2.2.1 (at_ (withCourse 17 500 { hold := [⟨{ desc := aDesc }, ⟨0, 0, 4, 0, 0, 17, 1⟩, 0, 500⟩] })) 17 0 _ rfl).1 (by decide)).applies,
    (h.2.2.1 (at_ (withCourse 17 500 { hold := [⟨{ desc := aDesc }, ⟨0, 0, 4, 0, 0, 17, 1⟩, 0, 900⟩] })) 17 0 _ rfl).2.applies,
    (h.2.2.2 (at_ (withCourse 0 5000000 { frags := [⟨⟨0, 0, 4, 0, 0, 17, 1⟩, 3, [], 100, 0, 1000⟩] })) 0 0 _ (canonical_of (by decide +kernel))
      rfl (by decide +kernel)).applies⟩

/-- A scan of 100 bytes. -/
def aScan (inline : Bool) : Scan := ⟨{ desc := aDesc }, List.replicate 60 0, inline, 3, 0, 60⟩

/-- An automata unit in a given condition. -/
def withAu (u ns : Nat) (a : Au) : Dev := { up.atNs ns with aus := [(u, a)] }

theorem witness_ScansAndWindows (h : Obligations.ScansAndWindows) :
    applies (.scanStart 15) (withAu 15 7 { queue := [aScan true] }) ∧
    applies (.scanStart 0) (withAu 0 7 { queue := [aScan false], spend := 1000000 }) ∧
    applies (.scanComplete 0 0 .none 0 noUpset) (withAu 0 7 { running := [aScan false] }) ∧
    applies (.auBudgetWindow 15) (withAu 15 1000 { spend := 7, inlineNow := 5 }) ∧
    applies (.mortarWindowEnd 17) (withCourse 17 1000000000 { missWin := 3, missOut := true }) :=
  ⟨((h.1 (at_ (withAu 15 7 { queue := [aScan true] })) 15 0 (aScan true) (canonical_of (by decide +kernel)) (by decide +kernel) (by decide +kernel) rfl).1
      (by decide +kernel)).applies,
    ((h.1 (at_ (withAu 0 7 { queue := [aScan false], spend := 1000000 })) 0 0 (aScan false) (canonical_of (by decide +kernel)) (by decide +kernel)
      (by decide +kernel) rfl).2 rfl (by decide +kernel)).applies,
    (h.2.1 (at_ (withAu 0 7 { running := [aScan false] })) 0 0 (aScan false) .none 0 noUpset rfl).applies,
    (h.2.2.1 (at_ (withAu 15 1000 { spend := 7, inlineNow := 5 })) 15 (canonical_of (by decide +kernel)) (by decide +kernel)).applies,
    (h.2.2.2 (at_ (withCourse 17 1000000000 { missWin := 3, missOut := true })) 17 (canonical_of (by decide +kernel)) (by decide +kernel)).applies⟩

/-- Bank 1 worn, its spare 32 under replacement, and an entry in it. -/
def wornBank : Dev :=
  { up with banks := [(1, { entries := [(4, { width := 40, key := [1], mask := [255] })], st := some 3 }), (32, { st := some 2 })],
            asmMap := [(0, 1)] }

theorem witness_BankScanAndReplacement (h : Obligations.BankScanAndReplacement) :
    applies (.bankScannerVisit 67 2047 true true true none) up ∧ applies (.bankScannerVisit 67 2047 false true false none) up ∧
    applies (.bankScannerVisit 67 2047 true false true none) up ∧ applies (.bankScannerVisit 1 4 false false true none) wornBank ∧
    applies (.bankReplace 1 true) wornBank ∧ applies (.bankReplace 1 false) wornBank :=
  ⟨(h.1 (at_ up) 67 2047 up_canonical (by decide +kernel) (by decide +kernel)).1.applies,
    ((h.1 (at_ up) 67 2047 up_canonical (by decide +kernel) (by decide +kernel)).2.1 false).applies,
    ((h.1 (at_ up) 67 2047 up_canonical (by decide +kernel) (by decide +kernel)).2.2.1 true).applies,
    ((h.1 (at_ wornBank) 1 4 (canonical_of (by decide +kernel)) (by decide +kernel) (by decide +kernel)).2.2.2 true).applies,
    (h.2 (at_ wornBank) 1 0 32 (by decide +kernel) (by decide +kernel) (by decide +kernel) (by decide +kernel)).1.applies,
    (h.2 (at_ wornBank) 1 0 32 (by decide +kernel) (by decide +kernel) (by decide +kernel) (by decide +kernel)).2.applies⟩

/-- The key of a station in bridge domain 2. -/
def stationKey : Nat := 2 * 2 ^ 48 + 0x020000000001

theorem witness_LearnedEntryRows (h : Obligations.LearnedEntryRows) :
    applies (.learnNoticeApply 0) (withCourse 0 7 { notices := [⟨stationKey, 3, false⟩] }) ∧
    applies (.learnNoticeApply 0) (withCourse 0 7 { notices := [⟨stationKey, 3, true⟩], learned := [(stationKey, { iface := 3, aged := true })] }) ∧
    applies (.pinHoldEnd 0 2 0x020000000001)
      (withCourse 0 11000000000 { learned := [(stationKey, { iface := 3, pinned := true, moves := 4, flap := some (1000000000, 0) })] }) ∧
    applies (.l2SweepVisit 0 2 0x020000000001 false) (withCourse 0 7 { learned := [(stationKey, { iface := 3 })] }) ∧
    applies (.l2SweepVisit 0 2 0x020000000001 false) (withCourse 0 7 { learned := [(stationKey, { iface := 3, aged := true })] }) ∧
    applies (.lockExpiry (.learned 0 2 0x020000000001)) (withCourse 0 1000000 { learned := [(stationKey, { iface := 3, lock := some (5, 0) })] }) ∧
    applies (.lockExpiry (.context 0xFFFFFF)) { up.atNs 1000000 with store := [(0xFFFFFF, { valid := true, lock := some (63, 0) })] } :=
  ⟨((h.1 (at_ (withCourse 0 7 { notices := [⟨stationKey, 3, false⟩] })) 0 _ [] (canonical_of (by decide +kernel)) rfl).1 (by decide +kernel)
      (by decide +kernel)).applies,
    ((h.1 (at_ (withCourse 0 7 { notices := [⟨stationKey, 3, true⟩], learned := [(stationKey, { iface := 3, aged := true })] })) 0 _ []
      (canonical_of (by decide +kernel)) rfl).2 { iface := 3, aged := true } (by decide +kernel) rfl rfl).applies,
    (h.2.1 (at_ (withCourse 0 11000000000 { learned := [(stationKey, { iface := 3, pinned := true, moves := 4, flap := some (1000000000, 0) })] }))
      0 2 0x020000000001 { iface := 3, pinned := true, moves := 4, flap := some (1000000000, 0) } 1000000000 0 (canonical_of (by decide +kernel))
      (by decide +kernel) rfl rfl (by decide +kernel) (by decide +kernel)).applies,
    ((h.2.2.1 (at_ (withCourse 0 7 { learned := [(stationKey, { iface := 3 })] })) 0 2 0x020000000001 { iface := 3 } (canonical_of (by decide +kernel))
      (by decide +kernel) rfl rfl rfl (by decide +kernel)).1 rfl).applies,
    ((h.2.2.1 (at_ (withCourse 0 7 { learned := [(stationKey, { iface := 3, aged := true })] })) 0 2 0x020000000001 { iface := 3, aged := true }
      (canonical_of (by decide +kernel)) (by decide +kernel) rfl rfl rfl (by decide +kernel)).2 rfl).applies,
    (h.2.2.2.1 (at_ (withCourse 0 1000000 { learned := [(stationKey, { iface := 3, lock := some (5, 0) })] })) 0 2 0x020000000001
      { iface := 3, lock := some (5, 0) } 5 0 (canonical_of (by decide +kernel)) (by decide +kernel) rfl (by decide +kernel)).applies,
    (h.2.2.2.2 (at_ { up.atNs 1000000 with store := [(0xFFFFFF, { valid := true, lock := some (63, 0) })] }) 0xFFFFFF 63 0 (by decide +kernel)
      (by decide +kernel)).applies⟩

/-- A context in use. -/
def aCtx : Ctx := { valid := true, key := [1, 2], gen := 3, ageEn := true }

/-- The slice of context 0x17 with one changed line and a PEND entry. -/
def cached : Dev :=
  { up.atNs 1000000 with slices := [(7, { sets := [(4, [.line 0x17 aCtx (some 0), .pend 1 [9] 2000000, .pend 1 [8] 1000000])] })] }

theorem witness_ContextCacheRows (h : Obligations.ContextCacheRows) :
    applies (.contextWriteBack 0x17) cached ∧ applies (.pendExpiry 7 4) cached ∧ applies (.pendExpiry 15 1023) cached ∧
    applies (.contextSweepVisit 0xFFFFFF false) { up with store := [(0xFFFFFF, aCtx)] } :=
  ⟨(h.1 (at_ cached) 0x17 4 0 aCtx aCtx (by decide +kernel) (by decide +kernel) (by
      intro c t hm
      have e : Map.getD (Dev.slice cached (23 % 16)).sets 4 [] =
        [.line 0x17 aCtx (some 0), .pend 1 [9] 2000000, .pend 1 [8] 1000000] := by decide +kernel
      simpa [at_, e] using hm) rfl (by decide +kernel)).applies,
    (h.2.1 (at_ cached) 7 4 (canonical_of (by decide +kernel))).applies,
    (h.2.1 (at_ cached) 15 1023 (canonical_of (by decide +kernel))).applies,
    (h.2.2 (at_ { up with store := [(0xFFFFFF, aCtx)] }) 0xFFFFFF (by decide +kernel) (by decide +kernel) (by decide +kernel) (by decide +kernel) (by decide +kernel)
      (by decide +kernel) (by decide +kernel) (by decide +kernel) (by decide +kernel) (by decide +kernel)).applies⟩

/-! Queues, egress, reels, bricks, epochs -/

/-- A chain of 60 bytes. -/
def aChain : Chain := { refcnt := 1, cls := 0, holder := 0, gen := 0, bricks := [0], admIf := 0, bytes := List.replicate 60 0 }

/-- A copy of it in a queue, with its mortar word. -/
def aCopy : Waiting := { desc := { chain := 0, gen := 0, mlen := 60, mortar := crc32c (List.replicate 60 0), queue := 3 }, enq := 0, nb := 1 }

/-- Bay 0 in service with that copy in its queue 3. -/
def sending0 : Dev :=
  { withPort 0 7 { st := .admitted, present := true, mode := 1, speed := 1, active := true } with
    west := { fresh := 1, chains := [(0, aChain)] }, sched := { queues := [(3, { items := [aCopy] })] } }

/-- The block as its scheduler chooses. -/
def chosen0 : Dev := (sending0.dropNever 0).noteHeld 0

/-- That block with a head that has aged taken out, and the choice made. -/
def choice0 : Dev × Option (Nat × Waiting) :=
  let e := chosen0
  (e.ageChosen 0 (e.mayStart 0 false) (e.queuesOf 0).length).takeHead 0
    ((e.ageChosen 0 (e.mayStart 0 false) (e.queuesOf 0).length).mayStart 0 false)
    (e.ageChosen 0 (e.mayStart 0 false) (e.queuesOf 0).length).markRoom

/-- Bay 0 as the copy crosses the ball. -/
def crossing0 (w : Waiting) : Dev :=
  { sending0 with sched := { sending := [(0, w)] }, regs := [(0x20C, 0x60000000), (0x100400, 0x1010)] }

/-- The bytes and word that leave. -/
def left0 (w : Waiting) : Patched := match (crossing0 w).onWire w with | .ok y => y | .error _ => ⟨[], 0, 0, 0⟩

/-- Bay 47 with refusals to tell. -/
def refusing : Dev :=
  { withPort 47 500000000 { st := .admitted, active := true, speed := 1, mode := 1 } with sched := { notices := [(47, { counts := [(3, 2)] })] } }

theorem ok_of {ε α : Type} {x : Except ε α} {y : α} (h : x.toOption = some y) : x = .ok y := by
  cases x <;> simp_all [Except.toOption]

theorem witness_EgressRows (h : Obligations.EgressRows) :
    applies (.schedulerRelease 0 false) sending0 ∧ applies (.egressFrameEnd 0 ⟨none, false, false, 0⟩) (crossing0 aCopy) ∧
    applies (.egressFrameEnd 0 ⟨some (List.replicate 60 1), false, false, 0⟩) ((crossing0 aCopy).setReg (mrtBase 0) 0x1001) ∧
    applies (.agerVisit (.hold 17 0) none) (withCourse 17 500000000000 { hold := [⟨{ desc := aDesc }, ⟨0, 0, 4, 0, 0, 17, 1⟩, 0, 500⟩] }) ∧
    applies (.agerVisit (.recirc 0 0) none) (withCourse 0 500000000000 { recirc := [⟨aDesc, 9, false⟩] }) ∧
    applies (.refusalNotice 47) refusing :=
  ⟨(h.1 (at_ sending0) 0 chosen0 choice0.1 3 aCopy (left0 aCopy) (by decide) (by decide +kernel) (by decide +kernel) (by decide +kernel)
      (by decide +kernel) rfl (Prod.ext rfl (by decide +kernel)) (ok_of (by decide +kernel))).applies,
    ((h.2.1 (at_ (crossing0 aCopy)) 0 ⟨none, false, false, 0⟩ aCopy aChain (left0 aCopy) (by decide) (by decide +kernel) (by decide +kernel)
      (by decide +kernel) rfl rfl rfl rfl (by decide +kernel) rfl (ok_of (by decide +kernel))).1 (by decide +kernel)).applies,
    ((h.2.1 (at_ ((crossing0 aCopy).setReg (mrtBase 0) 0x1001)) 0 ⟨some (List.replicate 60 1), false, false, 0⟩ aCopy aChain (left0 aCopy)
      (by decide) (by decide +kernel) (by decide +kernel) (by decide +kernel) rfl rfl rfl rfl (by decide +kernel) rfl (ok_of (by decide +kernel))).2
      (by decide +kernel) (by decide +kernel)).applies,
    ((h.2.2.1 (at_ (withCourse 17 500000000000 { hold := [⟨{ desc := aDesc }, ⟨0, 0, 4, 0, 0, 17, 1⟩, 0, 500⟩] })) 17 0).1 _ rfl
      (by decide +kernel)).applies,
    ((h.2.2.1 (at_ (withCourse 0 500000000000 { recirc := [⟨aDesc, 9, false⟩] })) 0 0).2 _ rfl (by decide +kernel)).applies,
    (h.2.2.2 (at_ refusing) 47 (by decide +kernel) (by decide +kernel) (by decide +kernel) (by decide +kernel) (by decide +kernel)
      (by decide +kernel) (by decide +kernel) (by decide +kernel)).applies⟩

/-- A reel that holds bay 0's classes half of the time. -/
def aReel : Reel := { tileId := 9, handle := 1, gated := 0xFF, start := 5, cycle := 1000, figures := [(0x0F, 500), (0xF0, 500)] }

/-- Interface `i`'s reels in a given condition. -/
def withReels (i : Nat) (r : ReelPort) : Dev := { up.atNs 700 with sched := { reels := [(i, r)] } }

/-- The East half with an orphan brick. -/
def orphaned (o : Orphan) (lap : Nat) : Dev := { up with east := { fresh := 10, orphans := [(4, o)], lapNo := lap } }

theorem witness_ReelAndSweeperRows (h : Obligations.ReelAndSweeperRows) :
    applies (.figureBoundary 95 false) (withReels 95 { cur := some aReel }) ∧
    applies (.figureBoundary 0 true) (withReels 0 { cur := some aReel }) ∧
    applies (.reelSwitch 0) (withReels 0 { pend := some aReel }) ∧
    applies (.reelReplaced 0 false) (withReels 0 { cur := some aReel, broken := true }) ∧
    applies (.reelReplaced 0 true) (withReels 0 { cur := some aReel, broken := true }) ∧
    applies (.brickSweepVisit 1 5 none) (orphaned ⟨0, 0, 0⟩ 3) ∧ applies (.brickSweepVisit 1 4 none) (orphaned ⟨0, 0, 0⟩ 3) ∧
    applies (.brickSweepVisit 1 4 none) (orphaned ⟨0, 0, 3⟩ 3) := by
  have go (i : Fin 96) (r : ReelPort) (c : canonicalB (withReels i r) = true) (w : isIface i = true) :=
    h.1 (at_ (withReels i r)) i (canonical_of c) w
  exact ⟨(go 95 { cur := some aReel } (by decide +kernel) (by decide)).1.applies,
    ((go 0 { cur := some aReel } (by decide +kernel) (by decide)).2.1 (by decide +kernel)).applies,
    ((go 0 { pend := some aReel } (by decide +kernel) (by decide)).2.2.1 aReel rfl (by decide +kernel)).applies,
    ((go 0 { cur := some aReel, broken := true } (by decide +kernel) (by decide)).2.2.2 rfl).1.applies,
    ((go 0 { cur := some aReel, broken := true } (by decide +kernel) (by decide)).2.2.2 rfl).2.applies,
    ((h.2 (at_ (orphaned ⟨0, 0, 0⟩ 3)) 1 5 (canonical_of (by decide +kernel)) (by decide +kernel) (by decide +kernel)).1 rfl).applies,
    (((h.2 (at_ (orphaned ⟨0, 0, 0⟩ 3)) 1 4 (canonical_of (by decide +kernel)) (by decide +kernel) (by decide +kernel)).2 _ rfl).1 (.inl rfl)).applies,
    (((h.2 (at_ (orphaned ⟨0, 0, 3⟩ 3)) 1 4 (canonical_of (by decide +kernel)) (by decide +kernel) (by decide +kernel)).2 _ rfl).2 (by decide) rfl
      rfl).applies⟩

/-- The epochs in a given condition. -/
def withEpochs (e : Epochs) (ns : Nat) : Dev := { up.atNs ns with epochs := e, tiles := [(4, { st := 1, kind := 1, pages := 1 })] }

theorem witness_EpochPlacementCommitAndDrain (h : Obligations.EpochPlacementCommitAndDrain) :
    applies (.epochStageDone none) (withEpochs { pend := 1, listed := [4] } 7) ∧
    applies (.epochStageDone none) (withEpochs { pend := 1, listed := [4], stageDown := true } 7) ∧
    applies .commitAt (withEpochs { pend := 3, newNum := 5, commitAt := 7 } 7) ∧
    applies .drainCountZero (withEpochs { draining := true } 7) ∧
    applies .bankSweepDone (withEpochs { draining := true, zero := true, folded := true } 7) ∧
    applies .bankSweepDone (withEpochs { draining := true, zero := true } 7) ∧
    applies .routeFoldDone (withEpochs { draining := true, zero := true, swept := true } 7) ∧
    applies .routeFoldDone (withEpochs { draining := true, zero := true } 7) ∧
    applies .epochEndDeadline (withEpochs { draining := true } 100000000) ∧
    applies .drainAudit { withEpochs { draining := true } 150000000 with courses := [(0, { recirc := [⟨{ aDesc with tag := 1 }, 0, false⟩] })] } :=
  ⟨(h.1 (at_ (withEpochs { pend := 1, listed := [4] } 7)) [] rfl rfl rfl).applies,
    (h.2.1 (at_ (withEpochs { pend := 1, listed := [4], stageDown := true } 7)) none rfl rfl).applies,
    (h.2.2.1 (at_ (withEpochs { pend := 3, newNum := 5, commitAt := 7 } 7)) rfl (by decide +kernel) (by decide)).applies,
    (h.2.2.2.1 (at_ (withEpochs { draining := true } 7)) rfl rfl (by decide +kernel)).applies,
    ((h.2.2.2.2.1 (at_ (withEpochs { draining := true, zero := true, folded := true } 7)) rfl rfl).1 rfl rfl).applies,
    ((h.2.2.2.2.1 (at_ (withEpochs { draining := true, zero := true } 7)) rfl rfl).2.1 rfl rfl).applies,
    ((h.2.2.2.2.1 (at_ (withEpochs { draining := true, zero := true, swept := true } 7)) rfl rfl).2.2.1 rfl rfl).applies,
    ((h.2.2.2.2.1 (at_ (withEpochs { draining := true, zero := true } 7)) rfl rfl).2.2.2 rfl rfl).applies,
    (h.2.2.2.2.2.1 (at_ (withEpochs { draining := true } 100000000)) rfl (by decide +kernel)).applies,
    (h.2.2.2.2.2.2 (at_ { withEpochs { draining := true } 150000000 with courses := [(0, { recirc := [⟨{ aDesc with tag := 1 }, 0, false⟩] })] })
      rfl rfl rfl (by decide +kernel) (by decide +kernel)).applies⟩

/-! Service engines -/

/-- A microword with NANO 0. -/
def micro (seq rd ra rb imm : Nat) : Nat := seq <<< 60 + rd <<< 28 + ra <<< 23 + rb <<< 18 + imm

/-- A nanoword: unit, operation, B_SEL, WIDTH and SETCC. -/
def nano (u o bsel width setcc : Nat) : Nat := u <<< 60 + o <<< 54 + bsel <<< 52 + width <<< 50 + setcc <<< 49

/-- Registers G0 to G31 of which the first are given. -/
def gs (l : List (BitVec 64)) : List (BitVec 64) := (0 :: l) ++ List.replicate (31 - l.length) 0

/-- An engine that runs an item of one microword. -/
def engaged (set pos m n : Nat) (k : Core) (f : Engine → Engine := id) : Dev :=
  { up.atNs 1999999999 with
    epochs := { slot0 := { progs := [(set, { micro := [m], nano := [n], entry := List.replicate 16 0x80000000,
                                             jumps := [[0x80000005, 0]] })] } },
    sets := [(set, { engines := [(pos, f { core := k, item := some { words := List.replicate 32 0, limit := 1000 } })] })] }

/-- The checks of `Runs`, as one Bool. -/
def runsB (d : Dev) (s p m n u o : Nat) : Bool :=
  let e := d.eng s p
  e.item.isSome && !e.wait && !e.seqDue && Dev.engState e p != 3 && e.count < 1024 && !d.flag (Dev.setBase s + 0x0C) 0
    && d.fetch s p == .word m n && nUnit n == u && nOp n == o && (!mSafe m || e.atSafe) && !d.breaks s p true

theorem runs_of {d : Dev} {s p m n u o : Nat} (h : runsB d s p m n u o = true) : d.Runs s p m n u o := by
  simp only [runsB, Bool.and_eq_true, Bool.not_eq_true', bne_iff_ne, beq_iff_eq, decide_eq_true_eq] at h
  obtain ⟨⟨⟨⟨⟨⟨⟨⟨⟨⟨h1, h2⟩, h3⟩, h4⟩, h5⟩, h6⟩, h7⟩, h8⟩, h9⟩, h10⟩, h11⟩ := h
  refine ⟨h1, ⟨h2, h3⟩, h4, h5, h6, h7, h8, h9, fun hs => ?_, h11⟩
  simpa [hs] using h10

theorem sequences_of {d : Dev} {s p m n : Nat} {r : Running} (h : (d.eng s p).item = some r)
    (h' : (!(d.eng s p).wait && (d.eng s p).seqDue && d.fetch s p == .word m n) = true) : d.Sequences s p m n r := by
  simp only [Bool.and_eq_true, Bool.not_eq_true', beq_iff_eq] at h'
  exact ⟨h, h'.1, h'.2⟩

/-- An engine about to execute an operation with G2 and G3 into G1, of 64 bits. -/
def about (u o : Nat) (g2 g3 : BitVec 64) (setcc : Nat := 0) : Dev :=
  engaged 63 7 (micro 0 1 2 3 0) (nano u o 0 3 setcc) { regs := gs [0, g2, g3] }

theorem witness_ArithmeticOperations (h : Obligations.ArithmeticOperations) :
    applies (.engAdd 63 7 false) (about 1 0 (2 ^ 64 - 1) 1 1) ∧ applies (.engSub 63 7 false) (about 1 1 0 1 1) ∧
    applies (.engSar 63 7 false) (about 2 2 (2 ^ 63) 3) ∧ applies (.engExt 63 7 false) (about 2 3 0xF5 0) ∧
    applies (.engIns 63 7 false) (about 2 4 0xF5 1) ∧ applies (.engNop 63 7 false) (about 0 0 1 2) :=
  ⟨(h.1 (at_ (about 1 0 (2 ^ 64 - 1) 1 1)) (.engAdd 63 7 false) _ (micro 0 1 2 3 0) (nano 1 0 0 3 1) rfl (runs_of (by decide +kernel))
      (.inr (by decide +kernel))).applies,
    (h.1 (at_ (about 1 1 0 1 1)) (.engSub 63 7 false) _ (micro 0 1 2 3 0) (nano 1 1 0 3 1) rfl (runs_of (by decide +kernel))
      (.inr (by decide +kernel))).applies,
    (h.1 (at_ (about 2 2 (2 ^ 63) 3)) (.engSar 63 7 false) _ (micro 0 1 2 3 0) (nano 2 2 0 3 0) rfl (runs_of (by decide +kernel))
      (.inl (by decide +kernel))).applies,
    (h.2.1 (at_ (about 2 3 0xF5 0)) 63 7 (micro 0 1 2 3 0) (nano 2 3 0 3 0) (runs_of (by decide +kernel)) (.inl (by decide +kernel))).applies,
    (h.2.2.1 (at_ (about 2 4 0xF5 1)) 63 7 (micro 0 1 2 3 0) (nano 2 4 0 3 0) (runs_of (by decide +kernel)) (.inl (by decide +kernel))).applies,
    (h.2.2.2 (at_ (about 0 0 1 2)) 63 7 (micro 0 1 2 3 0) (nano 0 0 0 3 0) (runs_of (by decide +kernel))).applies⟩

/-- That engine with G2 poisoned. -/
def poisoned2 : Dev := engaged 63 7 (micro 0 1 2 3 0) (nano 1 0 0 3 1) { regs := gs [0, 5, 6], poison := 4 }

theorem witness_FlagsAndTrapsOfOperations (h : Obligations.FlagsAndTrapsOfOperations) :
    applies (.engCmp 63 7 false) (about 1 8 1 2 1) ∧ applies (.engAdd 63 7 false) poisoned2 ∧ applies (.engNop 63 7 true) (about 0 0 1 2) ∧
    applies (.engNop 63 7 false) ((about 0 0 1 2).setBit (Dev.setBase 63 + 0x0C) 0) :=
  ⟨(h.1 (at_ (about 1 8 1 2 1)) 63 7 (micro 0 1 2 3 0) (nano 1 8 0 3 1) (runs_of (by decide +kernel)) (.inr (by decide +kernel))).applies,
    (h.2.1 (at_ poisoned2) (.engAdd 63 7 false) _ (micro 0 1 2 3 0) (nano 1 0 0 3 1) rfl (runs_of (by decide +kernel)) (by decide)
      (by decide +kernel)).applies,
    (h.2.2.1 (at_ (about 0 0 1 2)) 63 7 true (by decide +kernel) (by decide +kernel) (by decide +kernel) (by decide +kernel) (by decide +kernel)
      (.inl rfl)).applies,
    (h.2.2.1 (at_ ((about 0 0 1 2).setBit (Dev.setBase 63 + 0x0C) 0)) 63 7 false (by decide +kernel) (by decide +kernel) (by decide +kernel)
      (by decide +kernel) (by decide +kernel) (.inr (by decide +kernel))).applies⟩

/-- An engine about to execute an operation whose current chain is its set's own chain of 60 bytes, in the West half. -/
def withChain (set pos m n : Nat) (regs : List (BitVec 64)) : Dev :=
  { engaged set pos m n { regs := gs regs, cur := some (0, 0) } with
    west := { fresh := 1, chains := [(0, { aChain with holder := set + 1, cls := 2 })] } }

theorem witness_MemoryPacketAndTimeOperations (h : Obligations.MemoryPacketAndTimeOperations) :
    applies (.engLd 63 7 false) (about 3 0 0x7FFF0 8) ∧ applies (.engLdi 63 7 false) (about 3 1 100 20) ∧
    applies (.engLdc 63 7 false) (about 3 2 100 20) ∧ applies (.engStc 63 7 false) (about 3 3 100 20) ∧
    applies (.engSt 63 7 false) (about 3 4 0x1000 8) ∧ applies (.engAddc 63 7 false) (about 3 5 0x1000 8) ∧
    applies (.engPld 5 8 false) ((withChain 5 8 (micro 0 1 2 3 0) (nano 4 0 0 3 0) [0, 52, 0]).setEng 5 8 fun e => { e with st := some 0 }) ∧
    applies (.engPst 5 0 false) (withChain 5 0 (micro 0 1 2 3 0) (nano 4 1 0 1 0) [0x1234, 58, 0]) ∧
    applies (.engPlen 5 0 false) (withChain 5 0 (micro 0 1 2 3 0) (nano 4 2 0 3 0) []) ∧
    applies (.engCrc 63 7 false) (about 8 0 0 9) ∧ applies (.engHash 63 7 false) (about 8 1 0 9) ∧
    applies (.engRdw 63 7 false) (about 9 0 0 9) ∧ applies (.engRdi 63 7 false) (about 9 1 0 9) ∧
    applies (.engWservo 63 7 false) ((about 9 2 5 9).setBit (Dev.setBase 63 + 0x10) 4) ∧
    applies (.engWadj 63 7 false) ((about 9 3 5 9).setBit (Dev.setBase 63 + 0x10) 4) ∧
    applies (.engWstep 63 7 false) ((about 9 4 5 9).setBit (Dev.setBase 63 + 0x10) 4) := by
  have go (d : Dev) (set : Fin 64) (pos : Fin 9) (m n u o : Nat) (c : canonicalB d = true) (r : runsB d set pos m n u o = true) :=
    h (at_ d) set pos m n u o (canonical_of c) (runs_of r)
  have g (d : Dev) (u o : Nat) (c : canonicalB d = true) (r : runsB d 63 7 (micro 0 1 2 3 0) (nano u o 0 3 0) u o = true) :=
    h (at_ d) 63 7 (micro 0 1 2 3 0) (nano u o 0 3 0) u o (canonical_of c) (runs_of r)
  exact ⟨((g (about 3 0 0x7FFF0 8) 3 0 (by decide +kernel) (by decide +kernel)).1 rfl rfl (by decide +kernel) ⟨by decide +kernel, by decide +kernel⟩
      (by decide +kernel)).applies,
    ((g (about 3 1 100 20) 3 1 (by decide +kernel) (by decide +kernel)).2.1 rfl rfl (by decide +kernel) ⟨by decide +kernel, by decide +kernel⟩
      (by decide +kernel)).applies,
    ((g (about 3 2 100 20) 3 2 (by decide +kernel) (by decide +kernel)).2.2.1 rfl rfl (by decide +kernel) ⟨by decide +kernel, by decide +kernel⟩
      (by decide +kernel)).applies,
    ((g (about 3 3 100 20) 3 3 (by decide +kernel) (by decide +kernel)).2.2.2.1 rfl rfl ⟨by decide +kernel, by decide +kernel⟩
      (by decide +kernel)).applies,
    (((g (about 3 4 0x1000 8) 3 4 (by decide +kernel) (by decide +kernel)).2.2.2.2.1 rfl (.inl rfl) ⟨by decide +kernel, by decide +kernel⟩
      (by decide +kernel) (by decide +kernel) (by decide +kernel) (by decide +kernel)).1 rfl).applies,
    (((g (about 3 5 0x1000 8) 3 5 (by decide +kernel) (by decide +kernel)).2.2.2.2.1 rfl (.inr rfl) ⟨by decide +kernel, by decide +kernel⟩
      (by decide +kernel) (by decide +kernel) (by decide +kernel) (by decide +kernel)).2 rfl).applies,
    (((go ((withChain 5 8 (micro 0 1 2 3 0) (nano 4 0 0 3 0) [0, 52, 0]).setEng 5 8 fun e => { e with st := some 0 }) 5 8 (micro 0 1 2 3 0)
      (nano 4 0 0 3 0) 4 0 (by decide +kernel) (by decide +kernel)).2.2.2.2.2.1 0 0 { aChain with holder := 6, cls := 2 } rfl (by decide +kernel)
      (by decide +kernel) (by decide +kernel)).1 rfl (by decide +kernel) ⟨by decide +kernel, by decide +kernel⟩ (by decide +kernel)
      (by decide +kernel)).applies,
    (((go (withChain 5 0 (micro 0 1 2 3 0) (nano 4 1 0 1 0) [0x1234, 58, 0]) 5 0 (micro 0 1 2 3 0)
      (nano 4 1 0 1 0) 4 1 (by decide +kernel) (by decide +kernel)).2.2.2.2.2.1 0 0 { aChain with holder := 6, cls := 2 } rfl (by decide +kernel)
      (by decide +kernel) (by decide +kernel)).2.1 rfl ⟨by decide +kernel, by decide +kernel⟩ rfl rfl (by decide +kernel)
      (by decide +kernel) (by decide +kernel)).applies,
    (((go (withChain 5 0 (micro 0 1 2 3 0) (nano 4 2 0 3 0) []) 5 0 (micro 0 1 2 3 0)
      (nano 4 2 0 3 0) 4 2 (by decide +kernel) (by decide +kernel)).2.2.2.2.2.1 0 0 { aChain with holder := 6, cls := 2 } rfl (by decide +kernel)
      (by decide +kernel) (by decide +kernel)).2.2 rfl (by decide +kernel)).applies,
    ((g (about 8 0 0 9) 8 0 (by decide +kernel) (by decide +kernel)).2.2.2.2.2.2.1 rfl rfl (by decide +kernel) (by decide +kernel)
      (by decide +kernel)).applies,
    ((g (about 8 1 0 9) 8 1 (by decide +kernel) (by decide +kernel)).2.2.2.2.2.2.2.1 rfl rfl (by decide +kernel)).applies,
    ((g (about 9 0 0 9) 9 0 (by decide +kernel) (by decide +kernel)).2.2.2.2.2.2.2.2.1 rfl rfl (by decide) (by decide)).applies,
    ((g (about 9 1 0 9) 9 1 (by decide +kernel) (by decide +kernel)).2.2.2.2.2.2.2.2.2.1 rfl rfl (by decide +kernel)).applies,
    (((g ((about 9 2 5 9).setBit (Dev.setBase 63 + 0x10) 4) 9 2 (by decide +kernel) (by decide +kernel)).2.2.2.2.2.2.2.2.2.2 rfl (by decide +kernel)
      (by decide +kernel) (by decide +kernel)).1 rfl).applies,
    (((g ((about 9 3 5 9).setBit (Dev.setBase 63 + 0x10) 4) 9 3 (by decide +kernel) (by decide +kernel)).2.2.2.2.2.2.2.2.2.2 rfl (by decide +kernel)
      (by decide +kernel) (by decide +kernel)).2.1 rfl).applies,
    (((g ((about 9 4 5 9).setBit (Dev.setBase 63 + 0x10) 4) 9 4 (by decide +kernel) (by decide +kernel)).2.2.2.2.2.2.2.2.2.2 rfl (by decide +kernel)
      (by decide +kernel) (by decide +kernel)).2.2 rfl).applies⟩

/-- The home of the key of an item of zeros. -/
def home0 : Nat := Dev.ctxHome {} 0 (List.replicate 40 0)

/-- The context of that key, of GEN 3. -/
def ctx0 : Ctx := { valid := true, key := List.replicate 40 0, gen := 3 }

/-- An engine about to execute a context operation on handle `home0` of GEN 3, with that context in the store. -/
def onCtx (o : Nat) (held : Bool) : Dev :=
  { about 5 o (BitVec.ofNat 64 (handleOf home0 3)) 0 with store := if held then [(home0, ctx0)] else [] }

/-- An engine of set 5 about to execute an operation, its current chain the set's own, with every permission. -/
def own5 (u o : Nat) (regs : List (BitVec 64)) : Dev := (withChain 5 8 (micro 0 1 2 3 0) (nano u o 0 3 0) regs).setReg (Dev.setBase 5 + 0x10) 31

/-- That engine, its position in service. -/
def own58 (u o : Nat) (regs : List (BitVec 64)) : Dev := (own5 u o regs).setEng 5 8 fun e => { e with st := some 0 }

/-- What the queue of set 6 takes for the chain. -/
def place5 : Waiting :=
  ((own58 7 0 [0, 55296 + 128 * 6, 0]).placeHeld (originDesc 0 1999999999 0 60 0 0) (55296 + 128 * 6) true).2.toOption.getD
    { desc := {}, enq := 0, nb := 0 }

theorem snd_of {α β : Type} {x : α × β} {y : β} (h : x.2 = y) : x = (x.1, y) := Prod.ext rfl h

theorem witness_ContextChainAndQueueOperations (h : Obligations.ContextChainAndQueueOperations) :
    applies (.engCtxFind 63 7 false false) (onCtx 0 true) ∧ applies (.engCtxRead 63 7 false false) (onCtx 1 true) ∧
    applies (.engCtxWrite 63 7 false) (onCtx 2 true) ∧ applies (.engCtxFree 63 7 false) (onCtx 4 true) ∧
    applies (.engCtxCreate 63 7 false) (onCtx 3 false) ∧
    applies (.engChainSel 5 8 false) (own58 6 0 [0, 7, 0]) ∧ applies (.engChainAlloc 5 8 false) (own58 6 1 [0, 0, 128]) ∧
    applies (.engChainShare 5 8 false) (own58 6 2 [0, 0, 0]) ∧ applies (.engChainRelease 5 8 false) (own58 6 3 [0, 0, 0]) ∧
    applies (.engChainFree 5 8 false) (own58 6 4 [0, 0, 0]) ∧ applies (.engChainGive 5 8 false) (own58 6 5 [0, 0, 1]) ∧
    applies (.engEnq 5 8 false) (own58 7 0 [0, 55296 + 128 * 6, 0]) ∧ applies (.engQueueInject 5 8 false) (own58 7 1 [0, 0x1000, 0]) ∧
    applies (.engSend 5 8 false) (own58 7 2 [0, 0x1000, 55296 + 128 * 6]) ∧ applies (.engTarm 5 8 false) (own58 7 3 [0, 0x7FFF0, 0]) ∧
    applies (.engTcancel 5 8 false) (own58 7 4 [0, 4095, 0]) := by
  have g (o : Nat) (held : Bool) (c : canonicalB (onCtx o held) = true)
      (r : runsB (onCtx o held) 63 7 (micro 0 1 2 3 0) (nano 5 o 0 3 0) 5 o = true) :=
    h (at_ (onCtx o held)) 63 7 (micro 0 1 2 3 0) (nano 5 o 0 3 0) 5 o (canonical_of c) (runs_of r)
  have q (u o : Nat) (l : List (BitVec 64)) (c : canonicalB (own58 u o l) = true)
      (r : runsB (own58 u o l) 5 8 (micro 0 1 2 3 0) (nano u o 0 3 0) u o = true) :=
    h (at_ (own58 u o l)) 5 8 (micro 0 1 2 3 0) (nano u o 0 3 0) u o (canonical_of c) (runs_of r)
  exact ⟨((g 0 true (by decide +kernel) (by decide +kernel)).1 home0 _ rfl rfl (by decide +kernel) (by decide +kernel)
      (snd_of (ok_of (by decide +kernel)))).applies,
    ((g 1 true (by decide +kernel) (by decide +kernel)).2.1 rfl rfl (by decide +kernel) (by decide +kernel) (by decide +kernel)
      (by decide +kernel)).applies,
    ((g 2 true (by decide +kernel) (by decide +kernel)).2.2.1 rfl rfl (by decide +kernel) (by decide +kernel) (by decide +kernel)
      (by decide +kernel) (by decide +kernel) (by decide +kernel)).applies,
    ((g 4 true (by decide +kernel) (by decide +kernel)).2.2.2.1 rfl rfl (by decide +kernel) (by decide +kernel) (by decide +kernel)
      (by decide +kernel)).applies,
    ((g 3 false (by decide +kernel) (by decide +kernel)).2.2.2.2.1 home0 rfl rfl (by decide +kernel) (by decide +kernel) (by decide +kernel)
      (by decide +kernel) (by decide +kernel) (by decide +kernel) (by decide +kernel) (ok_of (by decide +kernel))).applies,
    ((q 6 0 [0, 7, 0] (by decide +kernel) (by decide +kernel)).2.2.2.2.2.1 rfl rfl (by decide +kernel)).applies,
    ((q 6 1 [0, 0, 128] (by decide +kernel) (by decide +kernel)).2.2.2.2.2.2.1 _ 1 1 rfl rfl (by decide +kernel) (by decide +kernel)
      (by decide +kernel) (by decide +kernel) (by decide +kernel) (by decide +kernel) (snd_of (ok_of (by decide +kernel)))
      (by decide +kernel) (by decide +kernel)).applies,
    (((q 6 2 [0, 0, 0] (by decide +kernel) (by decide +kernel)).2.2.2.2.2.2.2.1 0 0 _ { aChain with holder := 6, cls := 2 } rfl
      (by decide +kernel) (by decide +kernel) (by decide +kernel) (by decide +kernel) (by decide +kernel)).1 rfl rfl (by decide) rfl).applies,
    ((((q 6 3 [0, 0, 0] (by decide +kernel) (by decide +kernel)).2.2.2.2.2.2.2.1 0 0 _ { aChain with holder := 6, cls := 2 } rfl
      (by decide +kernel) (by decide +kernel) (by decide +kernel) (by decide +kernel) (by decide +kernel)).2 rfl rfl).1 rfl).applies,
    ((((q 6 4 [0, 0, 0] (by decide +kernel) (by decide +kernel)).2.2.2.2.2.2.2.1 0 0 _ { aChain with holder := 6, cls := 2 } rfl
      (by decide +kernel) (by decide +kernel) (by decide +kernel) (by decide +kernel) (by decide +kernel)).2 rfl rfl).2.1 rfl).applies,
    ((((q 6 5 [0, 0, 1] (by decide +kernel) (by decide +kernel)).2.2.2.2.2.2.2.1 0 0 _ { aChain with holder := 6, cls := 2 } rfl
      (by decide +kernel) (by decide +kernel) (by decide +kernel) (by decide +kernel) (by decide +kernel)).2 rfl rfl).2.2 rfl
      (by decide +kernel)).applies,
    ((q 7 0 [0, 55296 + 128 * 6, 0] (by decide +kernel) (by decide +kernel)).2.2.2.2.2.2.2.2.1 0 0 { aChain with holder := 6, cls := 2 } _ place5 rfl rfl
      (by decide +kernel) (by decide +kernel) (by decide +kernel) (by decide +kernel) (by decide +kernel) (by decide +kernel) (by decide +kernel)
      (by decide +kernel) (by decide +kernel) rfl (snd_of (ok_of (by decide +kernel))) (by decide +kernel)).applies,
    ((q 7 1 [0, 0x1000, 0] (by decide +kernel) (by decide +kernel)).2.2.2.2.2.2.2.2.2.1 0 0 { aChain with holder := 6, cls := 2 } rfl rfl
      (by decide +kernel) (by decide +kernel) (by decide +kernel) (by decide +kernel) (by decide +kernel) (by decide +kernel) (by decide +kernel)
      (by decide +kernel) (by decide +kernel) (by decide +kernel) rfl (by decide +kernel)).applies,
    ((q 7 2 [0, 0x1000, 55296 + 128 * 6] (by decide +kernel) (by decide +kernel)).2.2.2.2.2.2.2.2.2.2.1 _ (1, 1) rfl rfl
      (by decide +kernel) (by decide +kernel) (by decide +kernel) (by decide +kernel) (by decide +kernel) (by decide +kernel) (by decide +kernel)
      (by decide +kernel) (by decide +kernel) (snd_of (ok_of (by decide +kernel))) (by decide +kernel)).applies,
    ((q 7 3 [0, 0x7FFF0, 0] (by decide +kernel) (by decide +kernel)).2.2.2.2.2.2.2.2.2.2.2.1 rfl rfl
      (by decide +kernel) (by decide +kernel) (by decide +kernel) (by decide +kernel)).applies,
    ((q 7 4 [0, 4095, 0] (by decide +kernel) (by decide +kernel)).2.2.2.2.2.2.2.2.2.2.2.2 rfl rfl
      (by decide +kernel) (by decide +kernel) (by decide +kernel)).applies⟩

/-- An engine whose microword has done its operation: its control part `m` is due. -/
def dueNow (m : Nat) (k : Core) : Dev := engaged 63 7 m 0 k fun e => { e with seqDue := true }

/-- The item that such an engine runs. -/
def item0 : Running := { words := List.replicate 32 0, limit := 1000 }

/-- A microword of a SEQ, COND, its inversion bit, TARGET and IMM. -/
def control (seq cond inv target imm : Nat) : Nat := seq <<< 60 + cond <<< 55 + inv <<< 54 + target <<< 42 + imm

/-- A set with an item queued at class 3 and priority 7, which its program serves. -/
def queued6 : Dev :=
  { (up.atNs 1000).setReg (Dev.setBase 6) 0xFFFFFFFD with
    epochs := { slot0 := { progs := [(6, { entry := List.replicate 16 0x80000004 })] } },
    sets := [(6, { tokens := ⟨10 * Dev.tokenUnit, 0⟩ })],
    sched := { queues := [(dispatchQueue 6 3 7, { items := [{ desc := {}, enq := 0, nb := 1, item := some (List.replicate 32 3) }] })] } }

/-- A set with timer 4095 due, which queues to itself. -/
def timed6 : Dev := { (up.atNs 5000000).setReg (Dev.setBase 6) 0xFFFFFFFD with sets := [(6, { timers := [(4095, ⟨1000000, 7, 15, 9, false⟩)] })] }

/-- What the timer's item leaves. -/
def fired6 : Dev :=
  let id := timed6.nextItemId 0x106
  (id.1.queueItem (dispatchQueue 6 15 7) (id.1.itemHead 4 0 7 15 0 id.2 7 0 none ++ [9, 0, 4095, 4000] ++ List.replicate 24 0)).1

theorem witness_SequencingAndItems (h : Obligations.SequencingAndItems) :
    applies (.engJump 63 7) (dueNow (control 1 0 0 4095 0) {}) ∧ applies (.engBranch 63 7) (dueNow (control 2 0 1 4095 0) {}) ∧
    applies (.engCall 63 7) (dueNow (control 3 0 0 9 0) { stack := [1, 2, 3, 4, 5, 6, 7] }) ∧
    applies (.engCall 63 7) (dueNow (control 3 0 0 9 0) { stack := [1, 2, 3, 4, 5, 6, 7, 8] }) ∧
    applies (.engReturn 63 7) (dueNow (control 4 0 0 0 0) { stack := [9] }) ∧ applies (.engReturn 63 7) (dueNow (control 4 0 0 0 0) {}) ∧
    applies (.engDispatch 63 7) (dueNow (control 5 0 0 0 0) {}) ∧ applies (.engDispatch 63 7) (dueNow (control 5 0 0 1 0) {}) ∧
    applies (.engEndDone 63 7 false) (dueNow (control 6 0 0 0 0) {}) ∧ applies (.engEndFailed 63 7) (dueNow (control 6 0 0 0 0x4090) {}) ∧
    applies (.safePoint 63 7 false) (engaged 63 7 (8 <<< 60) 0 {}) ∧
    applies (.safePoint 63 7 false) (engaged 63 7 (8 <<< 60) 0 {} fun e => { e with journal := [.tcancel 5] }) ∧
    applies (.engineReply 63 7) (engaged 63 7 0 0 {} fun e => { e with wait := true }) ∧
    applies (.watchdogTrap 63 7) (engaged 63 7 0 0 {} fun e => { e with count := 1024 }) ∧
    applies (.itemTimeTrap 63 7) (engaged 63 7 0 0 {}) ∧
    applies (.interruptDeadline 63 7) (engaged 63 7 0 0 {} fun e => { e with intr := [(2, 1000)] }) ∧
    applies (.engineMigration 63 7 true) { up with sets := [(63, { engines := [(7, { st := some 5, intr := [(0, 0)] })] })] } ∧
    applies (.itemStart 6) queued6 ∧ applies (.timerFire 6 4095) timed6 := by
  have q (m : Nat) (k : Core) (w : (!((dueNow m k).eng 63 7).wait && ((dueNow m k).eng 63 7).seqDue &&
      (dueNow m k).fetch 63 7 == .word m 0) = true) (i : ((dueNow m k).eng 63 7).item = some item0) :=
    h.1 (at_ (dueNow m k)) 63 7 m 0 item0 (sequences_of i w)
  have e (m : Nat) (f : Engine → Engine) (c : canonicalB (engaged 63 7 m 0 {} f) = true) :=
    h.2.1 (at_ (engaged 63 7 m 0 {} f)) 63 7 (canonical_of c)
  refine ⟨((q (control 1 0 0 4095 0) {} (by decide +kernel) rfl).1 (by decide +kernel)).applies,
    ((q (control 2 0 1 4095 0) {} (by decide +kernel) rfl).2.1 (by decide +kernel)).applies,
    ((q (control 3 0 0 9 0) { stack := [1, 2, 3, 4, 5, 6, 7] } (by decide +kernel) rfl).2.2.1 (by decide +kernel) (by decide)).applies,
    ((q (control 3 0 0 9 0) { stack := [1, 2, 3, 4, 5, 6, 7, 8] } (by decide +kernel) rfl).2.2.2.1 (by decide +kernel) (by decide)).applies,
    ((q (control 4 0 0 0 0) { stack := [9] } (by decide +kernel) rfl).2.2.2.2.1 9 [] (by decide +kernel) rfl).applies,
    ((q (control 4 0 0 0 0) {} (by decide +kernel) rfl).2.2.2.2.2.1 (by decide +kernel) rfl).applies,
    ((q (control 5 0 0 0 0) {} (by decide +kernel) rfl).2.2.2.2.2.2.1 5 (by decide +kernel) (by decide +kernel)).applies,
    ((q (control 5 0 0 1 0) {} (by decide +kernel) rfl).2.2.2.2.2.2.2.1 (by decide +kernel) (by decide +kernel)).applies,
    ((q (control 6 0 0 0 0) {} (by decide +kernel) rfl).2.2.2.2.2.2.2.2.1 (by decide +kernel) (by decide +kernel) (by decide +kernel) rfl rfl).applies,
    ((q (control 6 0 0 0 0x4090) {} (by decide +kernel) rfl).2.2.2.2.2.2.2.2.2 (by decide +kernel) (by decide +kernel) (by decide +kernel)
      rfl).applies,
    ((e (8 <<< 60) id (by decide +kernel)).1 (8 <<< 60) 0 (by decide +kernel) (by decide +kernel) rfl rfl rfl (by decide +kernel)
      (by decide +kernel) rfl rfl).applies,
    ((e (8 <<< 60) (fun e => { e with journal := [.tcancel 5] }) (by decide +kernel)).2.1 (8 <<< 60) 0 _ (by decide +kernel) (by decide +kernel) rfl
      rfl rfl (by decide +kernel) (by decide +kernel) rfl rfl rfl).applies,
    ((e 0 (fun e => { e with wait := true }) (by decide +kernel)).2.2.1 rfl rfl).applies,
    ((e 0 (fun e => { e with count := 1024 }) (by decide +kernel)).2.2.2.1 (by decide +kernel) rfl).applies,
    ((e 0 id (by decide +kernel)).2.2.2.2.1 item0 rfl (by decide +kernel)).applies,
    ((e 0 (fun e => { e with intr := [(2, 1000)] }) (by decide +kernel)).2.2.2.2.2.1 1000 rfl (by decide +kernel)).applies,
    ((h.2.1 (at_ { up with sets := [(63, { engines := [(7, { st := some 5, intr := [(0, 0)] })] })] }) 63 7
      (canonical_of (by decide +kernel))).2.2.2.2.2.2 rfl rfl rfl 8 (by decide +kernel) (by decide)).applies,
    (h.2.2.1 (at_ queued6) 6 0 7 3 4 _ _ (canonical_of (by decide +kernel)) (by decide +kernel) (by decide +kernel) (by decide +kernel)
      (by rfl) rfl rfl (by decide +kernel) (by decide +kernel)).applies,
    (h.2.2.2 (at_ timed6) 6 4095 _ fired6 rfl rfl (by decide +kernel) (by decide +kernel) (by decide +kernel) (by decide +kernel)
      (by decide +kernel)).applies⟩

/-! Mailboxes -/

/-- The block with a command posted in a mailbox, under TAG 7, its completion ring enabled. -/
def posted (base : Dev) (m code : Nat) (ws : List Nat) (w1 : Nat := 0) : Dev :=
  let l := (code * 2 ^ 16 + 7) :: (w1 + 4 * ws.length) :: (List.replicate 14 0 ++ ws)
  { base.setReg (Dev.mbxBase m + 4) 8 with
    mbxs := [(m, { st := 1, door := 7,
                   req := ((l.zipIdx.map fun e => (e.2, BitVec.ofNat 32 e.1)).filter fun e => e.2 ≠ 0) })] }

/-- The checks of `Waits`, as one Bool. -/
def waitsB (d : Dev) (m code : Nat) : Bool :=
  d.stewardRuns && (d.mbx m).run.isNone && (d.mbx m).st == 1 && (d.readReq m).opcode == code && !d.flag (Dev.mbxBase m + 0x24) 0

theorem waits_of {d : Dev} {m code : Nat} (h : waitsB d m code = true) : d.Waits m code (d.readReq m) := by
  simp only [waitsB, Bool.and_eq_true, beq_iff_eq, Bool.not_eq_true', Option.isNone_iff_eq_none] at h
  obtain ⟨⟨⟨⟨h1, h2⟩, h3⟩, h4⟩, h5⟩ := h
  exact ⟨h1, h2, h3, rfl, h4, h5⟩

/-- The checks of `Posts`, as one Bool. -/
def postsB (d : Dev) (m code : Nat) : Bool :=
  waitsB d m code && (d.reqRefusal (d.readReq m)).isNone && !(d.readReq m).retry && !d.groupBusy m code
    && (!(op? code).any (·.async) || d.ticketRoom m)

theorem posts_of {d : Dev} {m code : Nat} (h : postsB d m code = true) : d.Posts m code (d.readReq m) := by
  simp only [postsB, Bool.and_eq_true, Bool.not_eq_true', Option.isNone_iff_eq_none, Bool.or_eq_true] at h
  obtain ⟨⟨⟨⟨h1, h2⟩, h3⟩, h4⟩, h5⟩ := h
  exact ⟨waits_of h1, h2, h3, h4, fun ha => by simpa [ha] using h5⟩

/-- A mailbox in a given condition. -/
def withMbx (m ns : Nat) (x : Mbx) : Dev := { up.atNs ns with mbxs := [(m, x)] }

/-- A request that runs. -/
def aReq : Req := { head := List.replicate 16 0, words := [], door := 7, takenAt := 5, wd := 1 }

theorem witness_CancelActsOnlyInPosted (h : Obligations.CancelActsOnlyInPosted) :
    applies (.mbxCancel 7) (withMbx 7 5 { st := 1 }) ∧ exec (.mbxCancel 7) (at_ (withMbx 7 5 { st := 2 })) = .next (at_ (withMbx 7 5 { st := 2 })) :=
  ⟨(h.1 (at_ (withMbx 7 5 { st := 1 })) 7 (by decide +kernel) rfl).applies, h.2 (at_ (withMbx 7 5 { st := 2 })) 7 (by decide)⟩

theorem witness_MailboxHostSide (h : Obligations.MailboxHostSide) :
    applies (.mbxDoorbell 7 0xFFFF) (withMbx 7 5 { st := 3 }) ∧ applies (.mbxDoorbell 7 1) (withMbx 7 5 { st := 1 }) ∧
    applies (.mbxRequestAreaWrite 7 1023 0xFFFFFFFF) (withMbx 7 5 { st := 0 }) ∧
    applies (.mbxRequestAreaWrite 7 0 0) (withMbx 7 5 { st := 2 }) ∧ applies (.mbxAck 7) (withMbx 7 5 { st := 3 }) ∧
    applies (.mbxCringTailWrite 7 0) (withMbx 7 5 {}) ∧ applies (.mbxNotTaken 7) (withMbx 7 10000005 { st := 1, postedAt := 5 }) ∧
    applies (.mbxStalled 7) (withMbx 7 1000005 { st := 2, run := some aReq }) := by
  have q (ns : Nat) (x : Mbx) (c : canonicalB (withMbx 7 ns x) = true) := h (at_ (withMbx 7 ns x)) 7 (canonical_of c)
  exact ⟨(((q 5 { st := 3 } (by decide +kernel)).1 (by decide +kernel)).1 0xFFFF (by decide) (by decide)).applies,
    (((q 5 { st := 1 } (by decide +kernel)).1 (by decide +kernel)).2.1 1 (.inl rfl)).applies,
    (((q 5 { st := 0 } (by decide +kernel)).1 (by decide +kernel)).2.2.1 1023 0xFFFFFFFF (by decide) (by decide) rfl).applies,
    (((q 5 { st := 2 } (by decide +kernel)).1 (by decide +kernel)).2.2.2.1 0 0 (.inr rfl)).applies,
    (((q 5 { st := 3 } (by decide +kernel)).1 (by decide +kernel)).2.2.2.2.1 rfl).applies,
    (((q 5 {} (by decide +kernel)).1 (by decide +kernel)).2.2.2.2.2 0 rfl (by decide +kernel) (by decide +kernel)).applies,
    ((q 10000005 { st := 1, postedAt := 5 } (by decide +kernel)).2.1 rfl rfl (by decide +kernel)).applies,
    ((q 1000005 { st := 2, run := some aReq } (by decide +kernel)).2.2 aReq rfl rfl rfl (by decide +kernel)).applies⟩

/-- The block with a retry of DEV_INFO posted, its first outcome remembered. -/
def retried : Dev := { posted up 7 0x0101 [] (2 ^ 31) with
  mbxs := [(7, { (posted up 7 0x0101 [] (2 ^ 31)).mbx 7 with past := [⟨7, [1, 2, 3, 4, 5, 0, 0, 0]⟩] })] }

theorem witness_MailboxChecks (h : Obligations.MailboxChecks) :
    exec (.devInfo 0 false) (at_ {}) = .next (at_ {}) ∧ applies (.devInfo 7 true) (posted up 7 0x0101 []) ∧
    applies (.devInfo 7 false) (posted up 7 0x0101 [0]) ∧ applies (.devInfo 7 false) retried ∧
    applies (.tileSeal 7 false) ((posted up 7 0x0302 [5]).setReg (Dev.mbxBase 7 + 4) 0) ∧
    ((up.deferred 7 aReq).mbx 7).st = 3 :=
  ⟨h.1 (at_ {}) (.devInfo 0 false) 0 0x0101 false rfl (by decide +kernel),
    (h.2.1 (at_ (posted up 7 0x0101 [])) (.devInfo 7 true) 7 0x0101 _ rfl (waits_of (by decide +kernel))).applies,
    (h.2.2.1 (at_ (posted up 7 0x0101 [0])) (.devInfo 7 false) 7 0x0101 3 0 _ rfl (waits_of (by decide +kernel)) (by decide +kernel)).applies,
    (h.2.2.2.1 (at_ retried) (.devInfo 7 false) 7 0x0101 _ ⟨7, [1, 2, 3, 4, 5, 0, 0, 0]⟩ (canonical_of (by decide +kernel)) rfl
      (waits_of (by decide +kernel)) (by decide +kernel) (by decide +kernel) rfl (by decide +kernel)).applies,
    (h.2.2.2.2.1 (at_ ((posted up 7 0x0302 [5]).setReg (Dev.mbxBase 7 + 4) 0)) (.tileSeal 7 false) 7 0x0302 _ (canonical_of (by decide +kernel)) rfl
      (waits_of (by decide +kernel)) (by decide +kernel) (by decide +kernel) (.inr (by decide +kernel))).applies,
    (h.2.2.2.2.2 up 7 aReq (canonical_of (by decide +kernel))).1⟩

/-- A REEL tile of no figures for interface 95, signed under TILE_ID 6 and SVN 1, whose key was chosen so that both multipliers of
its signature are 1. -/
def aTileHead : List Byte :=
  [0x4554494C, 0x0150005F, 0, 32, 6, 0x4800B000, 0, 1].flatMap (leBytes 4) ++ sha384 (List.replicate 32 0) ++ List.replicate 48 0

/-- The key of that tile. -/
def aKey : List Byte :=
  beBytes 48 0x629ca7b2eb2fc86da9e3be7852d8be3ba91dfb2bee7d7b4abc4e99b0ad873e2b3d0d14f09e895116d18a4942611c9d7 ++
  beBytes 48 0x8f9635bb7fee6ad0722480859bb2a57dc43348142eb57d749a0f1a1d314f34ac9b6f3d24f62d429ceba49732571a0f3a

/-- That tile in a handle, while it is being sealed. -/
def aTile : Tile :=
  let e := sha384 (aTileHead ++ List.replicate 32 0)
  { kind := 5, scope := 0x5F, pages := 1, sealing := true,
    mem := (aTileHead ++ List.replicate 32 0 ++ e ++ e).zipIdx.map fun (x : Byte × Nat) => (x.2, x.1) }

/-- The block with that tile being sealed and its key enrolled. -/
def sealing : Dev :=
  { up with tiles := [(1023, aTile)], tileKeys := { valid := true, key := aKey, mask := 0x10, minSvn := 1 } :: List.replicate 7 {} }

/-- The block with a ticket open in mailbox 0. -/
def ticketed (phase : Nat) : Dev :=
  let d := posted up 0 0x0102 [7]
  { d with mbxs := [(0, { d.mbx 0 with tickets := [{ num := 7, req := aReq, phase := phase }] })] }

/-- Interface `i` withdrawn, in power state 1. -/
def leaving (i : Nat) : Dev := (withPort i 7 { st := .withdrawn, present := true, mode := 1, speed := 1 }).setReg 0x50018 0x40000000

theorem witness_DevicePortAndTileCommands (h : Obligations.DevicePortAndTileCommands) :
    applies (.devInfo 7 false) (posted up 7 0x0101 []) ∧ applies (.devCancel 0 false) (ticketed 0) ∧ applies (.devCancel 0 false) (ticketed 1) ∧
    applies (.devCancel 7 false) (posted up 7 0x0102 [9]) ∧ applies (.portWithdraw 7 false) (posted (serving 3) 7 0x0201 [0x80000003]) ∧
    applies (.portWithdraw 7 false) (posted (serving 3) 7 0x0201 [3]) ∧
    applies (.portReturn 7 false) (posted (leaving 3) 7 0x0202 [3]) ∧
    applies (.portRelease 7 false) (posted (withPort 47 99000000000 { st := .quarantined, present := true, mode := 1, speed := 1 }) 7 0x0203 [47]) ∧
    applies (.portStatus 7 false) (posted (serving 3) 7 0x0204 [0x6000]) ∧
    applies (.tileOpen 7 false) (posted up 7 0x0301 [0x5000005F, 256]) ∧
    applies (.tileSeal 7 false) (posted { up with tiles := [(1023, { kind := 5 })] } 7 0x0302 [1023]) ∧
    applies (.tileFree 7 false) (posted { up with tiles := [(1023, { st := 4 })] } 7 0x0303 [1023]) ∧
    applies (.tileList 7 false false) (posted { up with tiles := [(5, { st := 4 }), (6, { st := 1 })] } 7 0x0304 [6]) ∧
    applies (.tileSealDone 1023 none) sealing := by
  have q (d : Dev) (c : canonicalB d = true) := h (at_ d) 7 (d.readReq 7) (canonical_of c)
  have k (n : Nat) (c : canonicalB (ticketed n) = true) := h (at_ (ticketed n)) 0 ((ticketed n).readReq 0) (canonical_of c)
  exact ⟨((q (posted up 7 0x0101 []) (by decide +kernel)).1 (posts_of (by decide +kernel))).applies,
    ((k 0 (by decide +kernel)).2.1 (0, 7) (some { num := 7, req := aReq, phase := 0 }) (posts_of (by decide +kernel)) (by decide +kernel)
      (by decide +kernel)).applies,
    ((k 1 (by decide +kernel)).2.1 (0, 7) (some { num := 7, req := aReq, phase := 1 }) (posts_of (by decide +kernel)) (by decide +kernel)
      (by decide +kernel)).applies,
    ((q (posted up 7 0x0102 [9]) (by decide +kernel)).2.1 (0, 9) none (posts_of (by decide +kernel)) (by decide +kernel)
      (by decide +kernel)).applies,
    (((q (posted (serving 3) 7 0x0201 [0x80000003]) (by decide +kernel)).2.2.1 (posts_of (by decide +kernel)) (by decide +kernel)
      (by decide +kernel)).1 (.inl (by decide +kernel))).applies,
    (((q (posted (serving 3) 7 0x0201 [3]) (by decide +kernel)).2.2.1 (posts_of (by decide +kernel)) (by decide +kernel)
      (by decide +kernel)).2 (by decide +kernel) (by decide +kernel)).applies,
    ((q (posted (leaving 3) 7 0x0202 [3]) (by decide +kernel)).2.2.2.1
      (posts_of (by decide +kernel)) (by decide +kernel) (by decide +kernel) (by decide +kernel) (by decide +kernel)).applies,
    ((q (posted (withPort 47 99000000000 { st := .quarantined, present := true, mode := 1, speed := 1 }) 7 0x0203 [47])
      (by decide +kernel)).2.2.2.2.1 (posts_of (by decide +kernel)) (by decide +kernel) (by decide +kernel) (by decide +kernel)
      (by decide +kernel)).applies,
    ((q (posted (serving 3) 7 0x0204 [0x6000]) (by decide +kernel)).2.2.2.2.2.1 (posts_of (by decide +kernel)) (by decide +kernel)
      (by decide +kernel) (by decide +kernel)).applies,
    ((q (posted up 7 0x0301 [0x5000005F, 256]) (by decide +kernel)).2.2.2.2.2.2.1 0 (posts_of (by decide +kernel)) (by decide +kernel)
      (by decide +kernel) (by decide +kernel) (by decide +kernel) (by decide +kernel) (by decide +kernel)).applies,
    ((q (posted { up with tiles := [(1023, { kind := 5 })] } 7 0x0302 [1023]) (by decide +kernel)).2.2.2.2.2.2.2.1 { kind := 5 }
      (posts_of (by decide +kernel)) (by decide +kernel) rfl rfl (by decide +kernel)).applies,
    ((q (posted { up with tiles := [(1023, { st := 4 })] } 7 0x0303 [1023]) (by decide +kernel)).2.2.2.2.2.2.2.2.1 { st := 4 }
      (posts_of (by decide +kernel)) (by decide +kernel) (by decide) (by decide) rfl).applies,
    ((q (posted { up with tiles := [(5, { st := 4 }), (6, { st := 1 })] } 7 0x0304 [6]) (by decide +kernel)).2.2.2.2.2.2.2.2.2.1
      (posts_of (by decide +kernel))).applies,
    ((q sealing (by decide +kernel)).2.2.2.2.2.2.2.2.2.2 1023 aTile rfl rfl (by decide +kernel) (by decide +kernel) (by decide +kernel)).applies⟩

/-- The block in power state 1. -/
def up1 : Dev := up.setReg 0x50018 0x40000000

/-- Power state 1 with a placed epoch. -/
def placed : Dev := { up1 with epochs := { pend := 2, listed := [4] } }

/-- A set whose engine 8 runs item 9 of channel 0. -/
def hosting : Dev :=
  { up with sets := [(63, { engines := [(8, { item := some { words := [0, 9, 0x4100], limit := 1000 } })] })] }

/-- A ticket of CTX_REVAL of tenant 1. -/
def aReval : Ticket := { num := 3, req := { head := [0x04020000], words := [1], door := 7, takenAt := 0, wd := 1 }, phase := 1 }

/-- The block with a CTX_REVAL of tenant 1 open, and a context of tenant 0. -/
def revaluing : Dev :=
  { up with store := [(5, ctx0)],
            mbxs := [(7, { tickets := [aReval] })] }

theorem witness_EpochTableAndSetCommands (h : Obligations.EpochTableAndSetCommands) :
    applies (.epochStage 7 false) (posted { up1 with tiles := [(1023, { aTile with st := 1, sealing := false })] } 7 0x0305 [1, 1023 * 2 ^ 16]) ∧
    applies (.epochCommit 7 false) (posted placed 7 0x0306 [5 * 2 ^ 16]) ∧ applies (.epochAbort 7 false) (posted placed 7 0x0307 []) ∧
    applies (.epochStatus 7 false) (posted up 7 0x0308 []) ∧
    applies (.l2Flush 7 false) (posted { withCourse 0 7 { learned := [(stationKey, { iface := 3 })] } with ports := (serving 3).ports } 7 0x0401
      [0x00C00003, 2]) ∧
    applies (.l2Flush 7 false) (posted (withCourse 0 7 { learned := [(stationKey, { iface := 3, lock := some (1, 0) })] }) 7 0x0401 [0x00400000, 2]) ∧
    applies (.ctxReval 7 false) (posted up 7 0x0402 [1]) ∧ applies (.ctxRevalDone 7 3) revaluing ∧
    applies (.tblStatus 7 false) (posted up 7 0x0403 []) ∧ applies (.schFlushIf 7 false) (posted (serving 3) 7 0x0501 [0xFF03]) ∧
    applies (.schStatus 7 false) (posted (serving 3) 7 0x0502 []) ∧ applies (.itemCancel 7 false) (posted hosting 7 0x0601 [0x3F, 8]) ∧
    applies (.itemCancel 7 false) (posted hosting 7 0x0601 [0x3F, 9]) ∧ applies (.setStatus 7 false) (posted hosting 7 0x0602 [0x13F]) := by
  have q (d : Dev) (c : canonicalB d = true) := h (at_ d) 7 (d.readReq 7) (canonical_of c)
  exact ⟨((q (posted { up1 with tiles := [(1023, { aTile with st := 1, sealing := false })] } 7 0x0305 [1, 1023 * 2 ^ 16]) (by decide +kernel)).1
      [1023] (posts_of (by decide +kernel)) (by decide +kernel) (by decide +kernel)).applies,
    ((q (posted placed 7 0x0306 [5 * 2 ^ 16]) (by decide +kernel)).2.1 (posts_of (by decide +kernel)) rfl rfl rfl (by decide +kernel)
      (by decide +kernel)).applies,
    ((q (posted placed 7 0x0307 []) (by decide +kernel)).2.2.1 (posts_of (by decide +kernel)) rfl).applies,
    ((q (posted up 7 0x0308 []) (by decide +kernel)).2.2.2.1 (posts_of (by decide +kernel))).applies,
    ((q (posted { withCourse 0 7 { learned := [(stationKey, { iface := 3 })] } with ports := (serving 3).ports } 7 0x0401 [0x00C00003, 2])
      (by decide +kernel)).2.2.2.2.1 (posts_of (by decide +kernel)) (by decide +kernel) (by decide +kernel) (by decide +kernel)).applies,
    ((q (posted (withCourse 0 7 { learned := [(stationKey, { iface := 3, lock := some (1, 0) })] }) 7 0x0401 [0x00400000, 2])
      (by decide +kernel)).2.2.2.2.1 (posts_of (by decide +kernel)) (by decide +kernel) (by decide +kernel) (by decide +kernel)).applies,
    ((q (posted up 7 0x0402 [1]) (by decide +kernel)).2.2.2.2.2.1 (posts_of (by decide +kernel)) (by decide +kernel)).applies,
    ((q revaluing (by decide +kernel)).2.2.2.2.2.2.1 3 aReval (by decide +kernel) (by decide +kernel) (by decide +kernel) (by decide +kernel)).applies,
    ((q (posted up 7 0x0403 []) (by decide +kernel)).2.2.2.2.2.2.2.1 (posts_of (by decide +kernel)) (by decide +kernel)).applies,
    ((q (posted (serving 3) 7 0x0501 [0xFF03]) (by decide +kernel)).2.2.2.2.2.2.2.2.1 (posts_of (by decide +kernel)) (by decide +kernel)
      (by decide +kernel)).applies,
    ((q (posted (serving 3) 7 0x0502 []) (by decide +kernel)).2.2.2.2.2.2.2.2.2.1 (posts_of (by decide +kernel)) (by decide +kernel)
      (by decide +kernel)).applies,
    (((q (posted hosting 7 0x0601 [0x3F, 8]) (by decide +kernel)).2.2.2.2.2.2.2.2.2.2.1 (posts_of (by decide +kernel)) (by decide +kernel)).1
      (by decide +kernel)).applies,
    (((q (posted hosting 7 0x0601 [0x3F, 9]) (by decide +kernel)).2.2.2.2.2.2.2.2.2.2.1 (posts_of (by decide +kernel)) (by decide +kernel)).2 8
      (by decide +kernel)).applies,
    ((q (posted hosting 7 0x0602 [0x13F]) (by decide +kernel)).2.2.2.2.2.2.2.2.2.2.2 (posts_of (by decide +kernel)) (by decide +kernel)
      (by decide +kernel)).applies⟩

/-- A paired half at 0.1 ms, its partner heard. -/
def paired : Dev :=
  { (up1.setReg 0x700004 0x19000000).atNs 100000 with pair := { peerRoles := 2 ^ 96 - 1, heartAt := some 100000 } }

/-- A pair report of two ranges. -/
def aReport : Report := ⟨9, 1, 7, [[1, 2, 3, 4, 5, 0], [6, 7, 8, 9, 10, 0]]⟩

theorem witness_PowerPairAndSpareCommands (h : Obligations.PowerPairAndSpareCommands) :
    applies (.pwrStateSet 7 false) (posted up1 7 0x0701 [0]) ∧ applies (.pwrStateSet 7 false) (posted (up1.setReg 0x50018 0x80000000) 7 0x0701 [3]) ∧
    applies (.pwrDomainSet 7 false) (posted up1 7 0x0702 [0x100 + 101]) ∧ applies (.pwrStatus 7 false) (posted up 7 0x0703 []) ∧
    applies (.pairStatus 7 false) (posted paired 7 0x0801 []) ∧
    applies (.pairRoleSet 7 false)
      (posted { paired with regs := (((serving 3).setReg 0x700004 0x19000000)).regs, ports := [(3, { (serving 3).port 3 with active := false })] } 7 0x0802 [1, 8, 0, 0]) ∧
    applies (.pairReport 7 false false) (posted { up with pair := { reports := [aReport] } } 7 0x0803 [0]) ∧
    applies (.faultClear 7 false) (posted { up with faults := { srcs := [(0x2001, { state := 2 })] } } 7 0x0901 [0x2001]) ∧
    applies (.faultClear 7 false) (posted up 7 0x0901 [0x2001]) ∧ applies (.spareStatus 7 false) (posted up 7 0x0902 []) ∧
    applies (.spareBringIn 7 false) (posted up 7 0x0903 [0x0200003F]) ∧ applies (.spareBringIn 7 false) (posted paired 7 0x0903 [0x00000000]) ∧
    applies (.wearRead 7 false false) (posted up 7 0x0904 [6, 0]) ∧ applies (.stewardSwap 7 false) (posted up 7 0x0905 [0]) := by
  have q (d : Dev) (c : canonicalB d = true) := h (at_ d) 7 (d.readReq 7) (canonical_of c)
  exact ⟨((q (posted up1 7 0x0701 [0]) (by decide +kernel)).1 (posts_of (by decide +kernel)) (by decide +kernel)).1 (by decide +kernel) |>.applies,
    ((q (posted (up1.setReg 0x50018 0x80000000) 7 0x0701 [3]) (by decide +kernel)).1 (posts_of (by decide +kernel)) (by decide +kernel)).2
      (by decide +kernel) |>.applies,
    ((q (posted up1 7 0x0702 [0x100 + 101]) (by decide +kernel)).2.1 (posts_of (by decide +kernel)) (by decide +kernel)).applies,
    ((q (posted up 7 0x0703 []) (by decide +kernel)).2.2.1 (posts_of (by decide +kernel))).applies,
    ((q (posted paired 7 0x0801 []) (by decide +kernel)).2.2.2.1 (posts_of (by decide +kernel))).applies,
    ((q (posted { paired with regs := (((serving 3).setReg 0x700004 0x19000000)).regs, ports := [(3, { (serving 3).port 3 with active := false })] } 7 0x0802
      [1, 8, 0, 0]) (by decide +kernel)).2.2.2.2.1 (posts_of (by decide +kernel)) (by decide +kernel) (by decide +kernel) (by decide +kernel)).applies,
    ((q (posted { up with pair := { reports := [aReport] } } 7 0x0803 [0]) (by decide +kernel)).2.2.2.2.2.1 aReport (posts_of (by decide +kernel))
      (by decide +kernel)).applies,
    ((q (posted { up with faults := { srcs := [(0x2001, { state := 2 })] } } 7 0x0901 [0x2001]) (by decide +kernel)).2.2.2.2.2.2.1
      (posts_of (by decide +kernel))).1 (by decide +kernel) |>.applies,
    ((q (posted up 7 0x0901 [0x2001]) (by decide +kernel)).2.2.2.2.2.2.1 (posts_of (by decide +kernel))).2 (by decide +kernel) |>.applies,
    ((q (posted up 7 0x0902 []) (by decide +kernel)).2.2.2.2.2.2.2.1 (posts_of (by decide +kernel))).applies,
    ((q (posted up 7 0x0903 [0x0200003F]) (by decide +kernel)).2.2.2.2.2.2.2.2.1 _ (posts_of (by decide +kernel)) rfl (by decide +kernel)
      (by decide +kernel) (by decide +kernel)).applies,
    ((q (posted paired 7 0x0903 [0x00000000]) (by decide +kernel)).2.2.2.2.2.2.2.2.1 _ (posts_of (by decide +kernel)) rfl (by decide +kernel)
      (by decide +kernel) (by decide +kernel)).applies,
    ((q (posted up 7 0x0904 [6, 0]) (by decide +kernel)).2.2.2.2.2.2.2.2.2.1 (posts_of (by decide +kernel)) (by decide +kernel)
      (by decide +kernel)).applies,
    ((q (posted up 7 0x0905 [0]) (by decide +kernel)).2.2.2.2.2.2.2.2.2.2 (posts_of (by decide +kernel)) (by decide +kernel)
      rfl).applies⟩

/-- OTP key slots whose slot 1 holds a key. -/
def otp (x y : Nat) : Boot := { keys := [{ revoked := true }, { key := beBytes 48 x ++ beBytes 48 y }, {}, {}] }

/-- The words of a KEY_ENROL of entry 2, signed under OTP slot 1 by the key that `enrolKeys` holds. -/
def enrolWords : List Nat := 0x40020010 :: 0 :: List.replicate 24 0x11111111

/-- The key slots of that request. -/
def enrolKeys : Boot :=
  otp 0x9eed2e7fe74def0d65008fad76975e6d44307fcdd1bf7b054797d1c9020865e8f582d19cc1c684c22bd52f23cb46d9e8
    0xa2d5f6bbf7c13c4763f1ad334b09bec412c3fa43fd61b48f8a4688a8cb31626da34b5efb48a919acf13ff4ebd513db95

/-- The key slots that authorise the revocation of entry 7. -/
def revokeKeys : Boot :=
  otp 0x47e0e23074476140872145382522bcb9558eabd4abc1e558cc50b6130c92c2588c3c11a7f92f8eb8be2021ae1ce325c5
    0xec4e7d94863816d2a6253628b2c5a98b602acef4c26480ed73cdacfe2ebaf3c219225c467b9c1995462cd6ef804b4fd2

/-- Words with the signature over them whose two multipliers are 1. -/
def signedWords (w : List Nat) : List Nat := let e := Dev.bytesToWords (sha384 (wordBytes w)); w ++ e ++ e

/-- The ticket of a FLASH_PROGRAM of slot 1. -/
def aFlash : Ticket := { num := 3, req := { head := [0x0B060000], words := [1], door := 7, takenAt := 0, wd := 1 }, phase := 1 }

/-- That FLASH_PROGRAM under way. -/
def flashing : Dev :=
  { up with mbxs := [(7, { tickets := [aFlash] })] }

/-- A good image. -/
def goodImage : FlashImage := { good := true, signed := true }

theorem witness_TimeSecurityAndTelemetryCommands (h : Obligations.TimeSecurityAndTelemetryCommands) :
    applies (.timeSet 7 false) (posted up 7 0x0A01 [0, 5, 999999999]) ∧ applies (.timeStatus 7 false) (posted up 7 0x0A02 []) ∧
    applies (.keyEnrol 7 false) (posted { up with boot := enrolKeys } 7 0x0B01 (signedWords enrolWords)) ∧
    applies (.keyEnrol 7 false) (posted { up with boot := enrolKeys } 7 0x0B01 (List.replicate 50 0)) ∧
    applies (.keyEnrol 7 false) (posted { up with boot := revokeKeys } 7 0x0B01 (signedWords enrolWords)) ∧
    applies (.keyRevoke 7 false) (posted { up with boot := revokeKeys } 7 0x0B02 (signedWords [0x40070000])) ∧
    applies (.dbgChallenge 7 false) (posted up 7 0x0B03 [3]) ∧
    applies (.dbgUnlock 7 false) (posted up 7 0x0B04 (1 :: List.replicate 24 0)) ∧
    applies (.dbgUnlock 7 false) (posted { up with dbg := { nonces := [(1, [5], 1)] } } 7 0x0B04 (1 :: List.replicate 24 0)) ∧
    applies (.dbgLock 7 false) (posted up 7 0x0B05 []) ∧ applies (.flashProgram 7 false) (posted up 7 0x0B06 [1, 0, 0, 16777216]) ∧
    applies (.flashProgramDone goodImage true) flashing ∧
    applies (.ledgerRead 7 false) (posted up 7 0x0C01 [15]) ∧ applies (.actCntRead 7 false false) (posted up 7 0x0C02 [0, 0xF000, 4096]) ∧
    applies (.queueRead 7 false false) (posted up 7 0x0C03 [0xFFFF, 1]) ∧ applies (.exportSet 7 false) (posted up 7 0x0C04 [0, 0, 0, 0, 0, 0, 0]) ∧
    applies (.exportSet 7 false) (posted up 7 0x0C04 [0x80000007, 100, 4096, 1, 6, 61440, 4096]) ∧
    applies (.exportPeriod 100 [] none) { up with export_ := { on := true, sources := 1, period := 100, size := 6 } } := by
  have q (d : Dev) (c : canonicalB d = true) := h (at_ d) 7 (d.readReq 7) (canonical_of c)
  exact ⟨((q (posted up 7 0x0A01 [0, 5, 999999999]) (by decide +kernel)).1 (posts_of (by decide +kernel)) (by decide +kernel) rfl
      (by decide +kernel)).applies,
    ((q (posted up 7 0x0A02 []) (by decide +kernel)).2.1 (posts_of (by decide +kernel))).applies,
    (((q (posted { up with boot := enrolKeys } 7 0x0B01 (signedWords enrolWords)) (by decide +kernel)).2.2.1 (posts_of (by decide +kernel))).1
      (by decide +kernel) (by decide +kernel) (by decide +kernel) (by decide +kernel) (by decide +kernel)).applies,
    (((q (posted { up with boot := enrolKeys } 7 0x0B01 (List.replicate 50 0)) (by decide +kernel)).2.2.1 (posts_of (by decide +kernel))).2.1
      (by decide +kernel)).applies,
    (((q (posted { up with boot := revokeKeys } 7 0x0B01 (signedWords enrolWords)) (by decide +kernel)).2.2.1 (posts_of (by decide +kernel))).2.2
      (by decide +kernel) (by decide +kernel)).applies,
    ((q (posted { up with boot := revokeKeys } 7 0x0B02 (signedWords [0x40070000])) (by decide +kernel)).2.2.2.1 (posts_of (by decide +kernel))
      (by decide +kernel) (by decide +kernel) (by decide +kernel)).applies,
    ((q (posted up 7 0x0B03 [3]) (by decide +kernel)).2.2.2.2.1 (posts_of (by decide +kernel)) (by decide +kernel) (by decide +kernel)).applies,
    (((q (posted up 7 0x0B04 (1 :: List.replicate 24 0)) (by decide +kernel)).2.2.2.2.2.1 (posts_of (by decide +kernel))).1
      (by decide +kernel)).applies,
    (((q (posted { up with dbg := { nonces := [(1, [5], 1)] } } 7 0x0B04 (1 :: List.replicate 24 0)) (by decide +kernel)).2.2.2.2.2.1
      (posts_of (by decide +kernel))).2 (by decide +kernel)).applies,
    ((q (posted up 7 0x0B05 []) (by decide +kernel)).2.2.2.2.2.2.1 (posts_of (by decide +kernel))).applies,
    ((q (posted up 7 0x0B06 [1, 0, 0, 16777216]) (by decide +kernel)).2.2.2.2.2.2.2.1 (posts_of (by decide +kernel)) (by decide +kernel)
      (by decide +kernel) (.inr (by decide +kernel))).applies,
    ((q flashing (by decide +kernel)).2.2.2.2.2.2.2.2.1 goodImage aFlash (by decide +kernel) (by decide +kernel) (by decide +kernel) rfl
      (by decide +kernel) rfl rfl (by decide +kernel) (by decide +kernel)).applies,
    ((q (posted up 7 0x0C01 [15]) (by decide +kernel)).2.2.2.2.2.2.2.2.2.1 (posts_of (by decide +kernel)) (by decide +kernel)).applies,
    ((q (posted up 7 0x0C02 [0, 0xF000, 4096]) (by decide +kernel)).2.2.2.2.2.2.2.2.2.2.1 (posts_of (by decide +kernel)) (by decide +kernel)
      (by decide +kernel) (by decide +kernel) (by decide +kernel)).applies,
    ((q (posted up 7 0x0C03 [0xFFFF, 1]) (by decide +kernel)).2.2.2.2.2.2.2.2.2.2.2.1 (posts_of (by decide +kernel)) (by decide +kernel)
      (by decide +kernel) (by decide +kernel) (by decide +kernel)).applies,
    (((q (posted up 7 0x0C04 [0, 0, 0, 0, 0, 0, 0]) (by decide +kernel)).2.2.2.2.2.2.2.2.2.2.2.2.1 (posts_of (by decide +kernel))).1
      (by decide +kernel)).applies,
    (((q (posted up 7 0x0C04 [0x80000007, 100, 4096, 1, 6, 61440, 4096]) (by decide +kernel)).2.2.2.2.2.2.2.2.2.2.2.2.1
      (posts_of (by decide +kernel))).2 (by decide +kernel) (by decide +kernel) (by decide +kernel) (by decide +kernel) (by decide +kernel)
      (by decide +kernel) (by decide +kernel) (by decide +kernel)).applies,
    ((q { up with export_ := { on := true, sources := 1, period := 100, size := 6 } } (by decide +kernel)).2.2.2.2.2.2.2.2.2.2.2.2.2 100 rfl
      (by decide +kernel) rfl).applies⟩

/-! The host -/

/-- Channel 63 RUNNING with descriptors waiting at its HEAD and room in its completion ring. -/
def ringed (f : Chan → Chan := id) : Dev :=
  let b := Dev.dmaBase 63
  { (((((up.setReg b 1).setReg (b + 4) 1).setReg (b + 0x18) 6).setReg (b + 0x1C) 5).setReg (b + 0x2C) 6) with
    chans := [(63, f {})] }

/-- Words as a descriptor. -/
def aDescr (l : List Nat) : Vector (BitVec 32) 16 := ⟨⟨(List.range 16).map fun i => BitVec.ofNat 32 (l.getD i 0)⟩, by simp⟩

/-- A descriptor that meets nothing. -/
def noFacts : DmaFacts := ⟨none, 0, none, []⟩

/-- The checks of `Starts`, as one Bool. -/
def startsB (d : Dev) (c op : Nat) (w : List Nat) : Bool :=
  d.chanStarts c && dOp w == op && !descBad w && !d.flag (Dev.dmaBase c + 0x0C) 0

theorem starts_of {d : Dev} {c op : Nat} {w : List Nat} (h : startsB d c op w = true) : d.Starts c op w noFacts := by
  simp only [startsB, Bool.and_eq_true, beq_iff_eq, Bool.not_eq_true'] at h
  obtain ⟨⟨⟨h1, h2⟩, h3⟩, h4⟩ := h
  exact ⟨h1, h2, h3, rfl, rfl, h4⟩

/-- The channel, holding a chain of 60 bytes. -/
def chained : Dev := { ringed with west := { fresh := 1, chains := [(0, { aChain with holder := 0x80 })] } }

/-- The descriptor of a chain operation on that chain. -/
def chainDescr (chop q dest : Nat) : Vector (BitVec 32) 16 :=
  aDescr [6 <<< 28, 7, 0, 0, 0, 0, 0, 0, 0, 0, chop <<< 28 + dest, 0, 0, q <<< 16]

/-- Of an INJECT to course 15 of 60 bytes. -/
def injDescr : Vector (BitVec 32) 16 := aDescr [4 <<< 28, 7, 0, 0, 60, 0, 0, 0, 0, 0, 0x0F010000, 0, 0, 0xFF]

/-- Of an item to set 63, and the item. -/
def itemDescr : Vector (BitVec 32) 16 := aDescr [7 <<< 28, 7, 0, 0, 0, 0, 0, 0, 0, 0, 0, 0, 0, 63487 <<< 16]

/-- Its 128 bytes. -/
def itemBytes : List Byte := wordsToLE ((2 <<< 28) :: List.replicate 31 7)

/-- A channel with a RECV posted and a copy in its host queue. -/
def receiving (r : Recv) : Dev :=
  { (ringed fun x => { x with posted := [r] }).setReg (Dev.dmaBase 63 + 0x38) 1 with
    west := { fresh := 1, chains := [(0, aChain)] },
    sched := { queues := [(63488, { items := [aCopy] })] } }

/-- A RECV of 100 bytes. -/
def aRecv : Recv := ⟨4, 9, 0x1000, 100, false, true, false⟩

theorem witness_DescriptorRows (h : Obligations.DescriptorRows) :
    applies (.descNop 63 (aDescr [0, 7]) noFacts) ringed ∧
    applies (.copyIn 63 (aDescr [0x10010000, 7, 0, 0, 8, 0x8, 63]) (List.replicate 8 5) noFacts) ringed ∧
    applies (.copyOut 63 (aDescr [0x20010000, 7, 0x100, 0, 8, 0x7FFF8, 63]) noFacts) ringed ∧
    applies (.descInject 63 injDescr (List.replicate 60 5) noFacts) ringed ∧
    applies (.recv 63 (aDescr [5 <<< 28, 7, 0x100, 0, 100]) noFacts) ringed ∧ applies (.item 63 itemDescr itemBytes noFacts) ringed ∧
    applies (.dmaChainShare 63 (chainDescr 1 0 0) noFacts) chained ∧ applies (.dmaChainRelease 63 (chainDescr 2 0 0) noFacts) chained ∧
    applies (.dmaChainFree 63 (chainDescr 3 0 0) noFacts) chained ∧ applies (.dmaChainGive 63 (chainDescr 4 0 1) noFacts) chained ∧
    applies (.dmaChainEnq 63 (chainDescr 5 63488 0) noFacts) chained ∧
    applies (.injectQueueTimeout 63 noFacts) ((ringed fun x => { x with inj := some (0, descWords injDescr) }).atNs 100000) ∧
    applies (.recvDeliver 63 ⟨none, false, false, 0⟩ noFacts) (receiving aRecv) ∧
    (∃ b m, (ringed.descRecord 63 5 9 0 0 0 0 [] true).out = ringed.out ++ Emission.host 0 b :: m) := by
  have q (v : Vector (BitVec 32) 16) (op : Nat) (c : startsB ringed 63 op (descWords v) = true) :=
    h.1 (at_ ringed) 63 v noFacts op (starts_of c)
  have k (v : Vector (BitVec 32) 16) (c : startsB chained 63 6 (descWords v) = true) :=
    (h.1 (at_ chained) 63 v noFacts 6 (starts_of c)).2.2.2.2.2.2 rfl
  refine ⟨((q (aDescr [0, 7]) 0 (by decide +kernel)).1 rfl).applies,
    ((q (aDescr [0x10010000, 7, 0, 0, 8, 0x8, 63]) 1 (by decide +kernel)).2.1 (List.replicate 8 5) rfl (by decide +kernel) (by decide +kernel)
      (by decide +kernel) (by decide +kernel) (by decide +kernel) (by decide +kernel) (by decide +kernel) (by decide +kernel)).applies,
    ((q (aDescr [0x20010000, 7, 0x100, 0, 8, 0x7FFF8, 63]) 2 (by decide +kernel)).2.2.1 rfl (by decide +kernel) (by decide +kernel)
      (by decide +kernel) (by decide +kernel) (by decide +kernel) (by decide +kernel) (by decide +kernel) (by decide +kernel)).applies,
    ((q injDescr 4 (by decide +kernel)).2.2.2.1 (List.replicate 60 5) _ (2 ^ 20) 1 rfl (by decide +kernel) (by decide +kernel) (by decide +kernel)
      (by decide +kernel) (by decide +kernel) (by decide +kernel) (by decide +kernel) (snd_of (ok_of (by decide +kernel)))).applies,
    ((q (aDescr [5 <<< 28, 7, 0x100, 0, 100]) 5 (by decide +kernel)).2.2.2.2.1 rfl (by decide +kernel)).applies,
    ((q itemDescr 7 (by decide +kernel)).2.2.2.2.2.1 itemBytes rfl (by decide +kernel) (by decide +kernel) (by decide +kernel)
      (by decide +kernel) (by decide +kernel) (by decide +kernel) _ (snd_of (by decide +kernel))).applies,
    ((k (chainDescr 1 0 0) (by decide +kernel) (by decide +kernel)).1 _ (by decide +kernel) (snd_of (by decide +kernel))).applies,
    ((k (chainDescr 2 0 0) (by decide +kernel) (by decide +kernel)).2.1 _ (by decide +kernel) (snd_of (by decide +kernel))).applies,
    ((k (chainDescr 3 0 0) (by decide +kernel) (by decide +kernel)).2.2.1 _ (by decide +kernel) (snd_of (by decide +kernel))).applies,
    ((k (chainDescr 4 0 1) (by decide +kernel) (by decide +kernel)).2.2.2.1 _ (by decide +kernel) (by decide +kernel)
      (snd_of (by decide +kernel))).applies,
    ((k (chainDescr 5 63488 0) (by decide +kernel) (by decide +kernel)).2.2.2.2 _ (by decide +kernel) (snd_of (by decide +kernel))).applies,
    (h.2.1 (at_ ((ringed fun x => { x with inj := some (0, descWords injDescr) }).atNs 100000)) 63 noFacts 0 (descWords injDescr) rfl
      (by decide +kernel)).applies,
    (h.2.2.1 (at_ (receiving aRecv)) 63 ⟨none, false, false, 0⟩ noFacts aRecv [] 63488 aCopy [] aChain rfl (by decide +kernel) rfl
      (by decide +kernel) (by decide +kernel) rfl rfl (by decide +kernel) rfl rfl rfl rfl rfl rfl (by decide +kernel) rfl).applies, ?_⟩
  obtain ⟨b, m, e, -⟩ := h.2.2.2 ringed 63 5 9 0 0 [] true (canonical_of (by decide +kernel)) (by decide +kernel) (by decide +kernel)
    (by decide +kernel)
  exact ⟨b, m, e⟩

/-- Channel 63 in a state, with a control word. -/
def channel (st ctl : Nat) (f : Chan → Chan := id) : Dev :=
  let b := Dev.dmaBase 63
  { (((up.setReg b ctl).setReg (b + 4) st).setReg (b + 0x18) 6) with chans := [(63, f {})] }

/-- The block with its PCIe link up, and Bus Master Enable as given. -/
def linked (bme : Bool) : Dev := (channel 4 0).setReg 0x208 (if bme then 0x44000001 else 0x44000000)

theorem witness_ChannelAndLinkRows (h : Obligations.ChannelAndLinkRows) :
    applies (.dmaTailWrite 63 65) (channel 0 1) ∧ applies (.dmaEnableWrite 63 false) (channel 1 1) ∧ applies (.dmaResume 63) (channel 3 1) ∧
    applies (.dmaReset 63) (channel 2 0) ∧ applies (.dmaReset 63) (channel 3 1) ∧ applies (.dmaHostqWrite 63 0x07FF0001) (channel 0 0) ∧
    applies (.dmaCplTailWrite 63 0xFFFF) (channel 0 0) ∧ applies .flr (linked true) ∧ applies .hotReset (linked true) ∧
    applies .perst (linked true) ∧ applies .busMasterDisable (linked true) ∧ applies .pcieLinkLoss (linked true) ∧
    applies .busMasterEnable (linked false) ∧ applies (.pcieLinkUp 5 8) up ∧
    applies (.msixModerationTimeout 63) (channel 1 0xFF01 (fun x => { x with first := some 0 }) |>.atNs 255000) := by
  have q (st ctl : Nat) (c : (canonicalB (channel st ctl) && (channel st ctl).bar0) = true) :=
    have c := (Bool.and_eq_true _ _).mp c
    h.1 (at_ (channel st ctl)) 63 (canonical_of c.1) c.2
  exact ⟨((q 0 1 (by decide +kernel)).1 65 (by decide +kernel) (by decide +kernel) (by decide +kernel)).applies,
    ((q 1 1 (by decide +kernel)).2.1 (by decide +kernel) (by decide +kernel)).applies,
    ((q 3 1 (by decide +kernel)).2.2.1 (by decide +kernel) (by decide +kernel)).applies,
    ((q 2 0 (by decide +kernel)).2.2.2.1 (.inl (by decide +kernel)) rfl rfl).applies,
    ((q 3 1 (by decide +kernel)).2.2.2.1 (.inr (by decide +kernel)) rfl rfl).applies,
    ((q 0 0 (by decide +kernel)).2.2.2.2.1 0x07FF0001 (by decide +kernel) (by decide +kernel) (by decide +kernel)).applies,
    ((q 0 0 (by decide +kernel)).2.2.2.2.2 0xFFFF rfl rfl).applies,
    (h.2.1 (at_ (linked true)) .flr (canonical_of (by decide +kernel)) (.inl rfl)).applies,
    (h.2.1 (at_ (linked true)) .hotReset (canonical_of (by decide +kernel)) (.inr (.inl rfl))).applies,
    (h.2.1 (at_ (linked true)) .perst (canonical_of (by decide +kernel)) (.inr (.inr (.inl rfl)))).applies,
    (h.2.1 (at_ (linked true)) .busMasterDisable (canonical_of (by decide +kernel)) (.inr (.inr (.inr rfl)))).applies,
    (h.2.2.1 (at_ (linked true)) (canonical_of (by decide +kernel)) (by decide +kernel)).applies,
    (h.2.2.2.1 (at_ (linked false)) 63 (canonical_of (by decide +kernel)) (by decide +kernel) (by decide +kernel) (by
      intro k
      by_cases e : k = 63
      · subst e; exact ⟨rfl, rfl⟩
      · have : Map.getD (linked false).chans k {} = {} := by
          have : (linked false).chans = [(63, {})] := by rfl
          simp [this, Map.getD, Map.get?, Ne.symm e]
        exact ⟨by simp [Dev.chan, at_, this], by simp [Dev.chan, at_, this]⟩)).applies,
    (h.2.2.2.2.1 (at_ up) 5 8 (canonical_of (by decide +kernel)) (by decide +kernel) (by decide) (by decide) (by decide +kernel)).applies,
    (h.2.2.2.2.2 (at_ (channel 1 0xFF01 (fun x => { x with first := some 0 }) |>.atNs 255000)) 63 0 (canonical_of (by decide +kernel)) rfl
      (by decide +kernel)).applies⟩

/-- A RECORDS descriptor of `n` records of a SPACE. -/
def recDescr (space n : Nat) : Vector (BitVec 32) 16 := aDescr [3 <<< 28 + space <<< 16, 7, 0x1000, 0, n, 0, 0, 0x2000, 0]

/-- Words as a record. -/
def aRecord (n : Nat) (l : List Nat) : Vector (BitVec 32) n := ⟨⟨(List.range n).map fun i => BitVec.ofNat 32 (l.getD i 0)⟩, by simp⟩

/-- The channel at a RECORDS descriptor with context 5 in use, of GEN 3. -/
def recording : Dev := { ringed with store := [(5, ctx0)] }

/-- The state in which the next record is judged: the descriptor taken, its bytes counted. -/
def judged (space n : Nat) : Dev :=
  (((recording.fetchDesc 63).setChan 63 fun x => { x with recs := some { words := descWords (recDescr space n) } }).bytesIn 63 (recBytes space))

/-- The channel with such a descriptor in progress. -/
def between (space : Nat) : Dev :=
  { (channel 1 1 fun x => { x with recs := some { words := descWords (recDescr space 2), done := 1 } }) with store := [(5, ctx0)] }

/-- The checks of the first record of a descriptor, as one Bool. -/
def recordB (r : RecRow) : Bool :=
  startsB recording r.ch 3 r.desc && dSpace r.desc == r.space && 1 ≤ dLen r.desc && dLen r.desc ≤ 4096 && bits (word r.record 0) 31 28 == r.op
    && !(word r.record 0).testBit 27 && (recording.chan r.ch).recs.isNone

/-- What the first record is judged. -/
def judgement (r : RecRow) : Dev × RecEnd :=
  r.judge (((recording.fetchDesc r.ch).setChan r.ch fun x => { x with recs := some { words := r.desc } }).bytesIn r.ch (recBytes r.space))

/-- Whether a record is judged with this outcome. -/
def judgedB (r : RecRow) (st why : Nat) (back : Option (List Nat)) : Bool := (judgement r).2 == .out st why back && recordB r

theorem record_applies (h : Obligations.RecordRows) {c : Instr} {r : RecRow} (st why : Nat) (back : Option (List Nat))
    (e : recordRowOf c = some r) (f : r.facts = noFacts) (v : judgedB r st why back = true) : applies c recording := by
  simp only [judgedB, recordB, Bool.and_eq_true, beq_iff_eq, decide_eq_true_eq, Bool.not_eq_true', Option.isNone_iff_eq_none] at v
  obtain ⟨j, ⟨⟨⟨⟨⟨s, v1⟩, v2⟩, v3⟩, v4⟩, v5⟩, v6⟩ := v
  exact (h.1 (at_ recording) c r _ st why back e (f ▸ starts_of s) v1 v2 v3 v4 v6 (fun _ => v5) (snd_of j)).applies

/-- The record of a READ of context 5. -/
def readRecord : List Nat := 1 <<< 28 :: 5 :: 3 :: List.replicate 37 0

theorem witness_RecordRows (h : Obligations.RecordRows) :
    applies (.bankWrite 63 (recDescr 0 2) (aRecord 48 [1 <<< 28]) noFacts) recording ∧
    applies (.bankInvalidate 63 (recDescr 0 2) (aRecord 48 [2 <<< 28]) noFacts) recording ∧
    applies (.bankRead 63 (recDescr 0 2) (aRecord 48 [3 <<< 28]) noFacts) recording ∧
    applies (.tblRead 63 (recDescr 1 1) (aRecord 40 [1 <<< 28, 5, 3]) false noFacts) recording ∧
    applies (.tblWrite 63 (recDescr 1 1) (aRecord 40 [2 <<< 28, 5, 3]) noFacts) recording ∧
    applies (.tblCreate 63 (recDescr 1 1) (aRecord 40 [3 <<< 28, 0, 0]) noFacts) recording ∧
    applies (.tblDelete 63 (recDescr 1 1) (aRecord 40 [4 <<< 28, 5, 3]) noFacts) recording ∧
    applies (.tblLock 63 (recDescr 1 1) (aRecord 40 [5 <<< 28, 5, 3]) noFacts) recording ∧
    applies (.tblUnlock 63 (recDescr 1 1) (aRecord 40 [6 <<< 28, 5, 3]) noFacts) recording ∧
    applies (.tblFind 63 (recDescr 1 4096) (aRecord 40 [7 <<< 28, 0, 0]) false noFacts) recording ∧
    applies (.schedWrite 63 (recDescr 2 1) (aRecord 16 [1 <<< 28]) noFacts) recording ∧
    applies (.schedRead 63 (recDescr 2 1) (aRecord 16 [2 <<< 28]) noFacts) recording ∧
    applies (.schedFlush 63 (recDescr 2 1) (aRecord 16 [3 <<< 28]) noFacts) recording ∧
    applies (.tblLock 63 (aDescr []) (aRecord 40 [5 <<< 28, 5, 3]) noFacts) (between 1) ∧
    ∃ e, recording.tblRecord 63 readRecord false = (recording, e) :=
  ⟨record_applies h 0 0 none rfl rfl (by decide +kernel),
    record_applies h 0 0 none rfl rfl (by decide +kernel),
    record_applies h 0 0 (some (3 <<< 28 :: List.replicate 47 0)) rfl rfl (by decide +kernel),
    record_applies h 0 0 (some (Dev.tblBack (1 <<< 28 :: 5 :: 3 :: List.replicate 37 0) 5 3 ctx0.toWords)) rfl rfl (by decide +kernel),
    record_applies h 0 0 none rfl rfl (by decide +kernel),
    record_applies h 0 0 (some (3 <<< 28 :: home0 :: 1 :: List.replicate 15 0 ++ 0x80000100 :: List.replicate 21 0)) rfl rfl (by decide +kernel),
    record_applies h 0 0 none rfl rfl (by decide +kernel),
    record_applies h 0 0 none rfl rfl (by decide +kernel),
    record_applies h 0x0C 6 none rfl rfl (by decide +kernel),
    record_applies h 0x0C 1 none rfl rfl (by decide +kernel),
    record_applies h 0 0 none rfl rfl (by decide +kernel),
    record_applies h 0 0 (some [536870912, 0, 65536, 0, 65536, 1, 16384, 0, 0, 0, 0, 0, 65536, 65536, 65536, 0]) rfl rfl (by decide +kernel),
    record_applies h 0 0 none rfl rfl (by decide +kernel),
    (h.2.1 (at_ (between 1)) (.tblLock 63 (aDescr []) (aRecord 40 [5 <<< 28, 5, 3]) noFacts) _ { words := descWords (recDescr 1 2), done := 1 } _ 0 0
      none rfl rfl (by decide +kernel) rfl (by decide +kernel) (fun _ => by decide +kernel) rfl rfl (by decide +kernel)
      (snd_of (by decide +kernel))).applies,
    ⟨_, (h.2.2 recording 63 readRecord (canonical_of (by decide +kernel)) (by decide +kernel) (by decide +kernel) (by decide +kernel)
      (by decide +kernel) (by decide +kernel)).1 (by decide +kernel) (by decide +kernel) (by decide +kernel)⟩⟩

/-! Power -/

/-- The caller in a given condition at a moment. -/
def powered (ns : Nat) (p : Power) : Dev := { up.atNs ns with power := p }

/-- Sixteen readings. -/
def readings (l : List Int) : Vector Int 16 := ⟨⟨(List.range 16).map fun i => l.getD i 107⟩, by simp⟩

/-- A target of 680 mV, and a command on its way. -/
def railing (ns : Nat) (p : Power) : Dev := (powered ns p).setReg 0x50008 (2 ^ 31 + 680 * 2 ^ 20 + 700)

/-- Every grant at its least, over the limit since 0. -/
def atFloor : Dev :=
  (List.range 6).foldl (fun (d : Dev) c => d.setReg (0x50040 + 4 * c) 0) (railing 1000000 { overAt := some 0 })

theorem witness_CallerRows (h : Obligations.CallerRows) :
    applies (.sensorReading (readings [])) (powered 5 {}) ∧ applies .tj108Timeout (powered 100000 { hot := some (0, false) }) ∧
    applies (.callerDecision 1023) (railing 5 {}) ∧ applies (.avsCurrentRead 5 true) up ∧ applies (.avsTransactionDone true true) up ∧
    applies (.avsTransactionDone false false) (railing 5 { avsFails := 2 }) ∧ applies .railSettled (railing 5 {}) ∧
    applies .railSettleTimeout (railing 20000 {}) ∧ applies .vddUndervolt up ∧ applies .vddOvervolt up ∧
    applies (.pwrBrakeNEdge true) ((powered 5 {}).setReg 0x50000 (2 ^ 20)) ∧ applies (.pwrBrakeNEdge false) up ∧
    applies .limitUnmetTimeout atFloor := by
  exact ⟨(h.1 (at_ (powered 5 {})) (readings []) (canonical_of (by decide +kernel)) (by decide +kernel) (by decide +kernel)
      (by decide +kernel)).applies,
    (h.2.1 (at_ (powered 100000 { hot := some (0, false) })) 0 rfl (by decide +kernel) (by decide +kernel)).applies,
    (h.2.2.1 (at_ (railing 5 {})) 1023 (canonical_of (by decide +kernel)) (by decide +kernel)).applies,
    (h.2.2.2.1 (at_ up) 5 (by decide +kernel)).applies,
    (h.2.2.2.2.1 (at_ up) true (by decide +kernel)).1.applies,
    ((h.2.2.2.2.1 (at_ (railing 5 { avsFails := 2 })) false (by decide +kernel)).2 (canonical_of (by decide +kernel)) rfl).applies,
    (h.2.2.2.2.2.1 (at_ (railing 5 {})) (canonical_of (by decide +kernel)) (by decide +kernel)).1.applies,
    ((h.2.2.2.2.2.1 (at_ (railing 20000 {})) (canonical_of (by decide +kernel)) (by decide +kernel)).2 rfl (by decide +kernel)).applies,
    (h.2.2.2.2.2.2.1 (at_ up)).1.applies, (h.2.2.2.2.2.2.1 (at_ up)).2.applies,
    (h.2.2.2.2.2.2.2.1 (at_ ((powered 5 {}).setReg 0x50000 (2 ^ 20))) true (canonical_of (by decide +kernel))).applies,
    (h.2.2.2.2.2.2.2.1 (at_ up) false (canonical_of (by decide +kernel))).applies,
    (h.2.2.2.2.2.2.2.2 (at_ atFloor) 0 (canonical_of (by decide +kernel)) (by decide +kernel) (by decide +kernel) rfl (by decide +kernel)
      (by decide +kernel)).applies⟩

/-- A domain draining. -/
def draining (k ns : Nat) : Dev :=
  { powered ns { drains := [(k, ⟨2, 0, 1000⟩)] } with doms := (List.range 112).map fun j => (j, if j = k then .draining else .on) }

/-- The latch armed in Dormant, its sources enabled. -/
def asleep (p : Power) : Dev :=
  { (((powered 5 { p with armed := true }).setReg 0x50024 0x3F).setReg 0x50018 0xC0000000) with doms := [(0, .on)] }

theorem witness_DrainWakeAndSmbusRows (h : Obligations.DrainWakeAndSmbusRows) :
    applies (.drainDeadline 38) (draining 38 1000) ∧ applies (.drainInflightZero 111) (draining 111 5) ∧
    applies .returnStepReady (powered 5 { back := [38], backStep := 3 }) ∧ applies .returnStepReady (powered 5 { back := [38], backStep := 4 }) ∧
    applies (.wakeSourceEvent 0 true) up ∧ applies (.wakeSourceEvent 0 true) (asleep {}) ∧ applies .wakeLatchFire (asleep { smbWake := true }) ∧
    applies (.smbLimitWrite 0xFFFF true) up ∧ applies (.smbFixedWrite 0xFFFF true) up ∧ applies (.smbWakeWrite 1 true) up ∧
    applies (.smbTripWrite 1 true) (powered 5 { tripLow := true, tj := 114 }) ∧ applies (.smbTripWrite 2 true) up ∧
    applies (.smbTripWrite 1 false) up := by
  exact ⟨((h.1 (at_ (draining 38 1000)) 38 ⟨2, 0, 1000⟩ rfl).1 (by decide +kernel)).applies,
    ((h.1 (at_ (draining 111 5)) 111 ⟨2, 0, 1000⟩ rfl).2 (by decide +kernel)).applies,
    ((h.2.1 (at_ (powered 5 { back := [38], backStep := 3 })) (by decide) (by decide) (by decide +kernel)).1 (by decide)).applies,
    ((h.2.1 (at_ (powered 5 { back := [38], backStep := 4 })) (by decide) (by decide) (by decide +kernel)).2 (by decide)).applies,
    ((h.2.2.1 (at_ up) true (canonical_of (by decide +kernel))).1 rfl).applies,
    ((h.2.2.1 (at_ (asleep {})) true (canonical_of (by decide +kernel))).2 rfl (by decide +kernel)).applies,
    (h.2.2.2.1 (at_ (asleep { smbWake := true })) (canonical_of (by decide +kernel)) rfl (by decide +kernel)).applies,
    (h.2.2.2.2.1 (at_ up) 0xFFFF 0 (canonical_of (by decide +kernel))).1.applies,
    (h.2.2.2.2.1 (at_ up) 0xFFFF 0 (canonical_of (by decide +kernel))).2.1.applies,
    ((h.2.2.2.2.1 (at_ up) 0xFFFF 1 (canonical_of (by decide +kernel))).2.2.1 rfl).applies,
    ((h.2.2.2.2.1 (at_ (powered 5 { tripLow := true, tj := 114 })) 0 1 (canonical_of (by decide +kernel))).2.2.2.1 rfl rfl (by decide)).applies,
    ((h.2.2.2.2.1 (at_ up) 0 2 (canonical_of (by decide +kernel))).2.2.2.2 rfl).applies,
    (h.2.2.2.2.2 (at_ up) (.smbTripWrite 1 false) (.inr (.inr (.inr ⟨1, rfl⟩)))).applies⟩

/-! Resets -/

/-- The facts of a start-up that completes every step. -/
def goodBoot : BootFacts := ⟨11, 0, 0, none, false, true, true, true, 0, 5⟩

/-- The block at STAGE ROM with images that pass, or both slots counted out. -/
def coldBoot (fails straps : Nat) : Dev :=
  { boot := { slotA := { good := true, signed := true, resident := true, pages := true }, failsA := fails, failsB := fails, straps := straps } }

theorem witness_ResetRows (h : Obligations.ResetRows) :
    applies (.powerOnReset 0xF none) up ∧ applies .porNAsserted up ∧ applies (.powerLoss .all) up ∧ applies .deviceReset up ∧
    applies .noStewardTimeout { up.atNs 10000000 with stw := { lostAt := some 0 } } ∧
    applies .returnReadyTimeout (powered 20000000000 { back := [38], backStep := 1 }) ∧ applies (.railOutOfRange 7) up ∧
    applies (.powerLoss (.one 7)) up ∧ applies (.aonBrownOut true 5) up ∧ applies (.aonBrownOut false 5) (asleep {}) :=
  ⟨(h.1 (at_ up) 0xF none).applies, (h.2.1 (at_ up)).1.applies, (h.2.1 (at_ up)).2.applies,
    (h.2.2.1 (at_ up) .deviceReset 1 rfl (.inl ⟨rfl, rfl⟩)).applies,
    (h.2.2.1 (at_ { up.atNs 10000000 with stw := { lostAt := some 0 } }) .noStewardTimeout 4 rfl (.inr (.inl ⟨rfl, rfl, by decide +kernel⟩))).applies,
    (h.2.2.1 (at_ (powered 20000000000 { back := [38], backStep := 1 })) .returnReadyTimeout 3 rfl (.inr (.inr ⟨rfl, rfl, by decide, by decide +kernel⟩))).applies,
    (h.2.2.2.1 (at_ up) 7).1.applies, ((h.2.2.2.1 (at_ up) 7).2 (by decide +kernel)).applies, (h.2.2.2.2 (at_ up) 5).1.applies,
    ((h.2.2.2.2 (at_ (asleep {})) 5).2 (by decide +kernel)).applies⟩

theorem witness_StartUpRows (h : Obligations.StartUpRows) :
    applies (.startUp goodBoot) (coldBoot 0 8) ∧ applies (.startUp goodBoot) (coldBoot 0 0) ∧ applies (.startUp goodBoot) (coldBoot 2 0) ∧
    applies .romSelfCheckTimeout {} ∧ applies .bootWatchdog { coldBoot 0 0 with boot := { (coldBoot 0 0).boot with step := 2 } } :=
  ⟨((h.1 (at_ (coldBoot 0 8)) goodBoot (canonical_of (by decide +kernel)) (by decide +kernel) rfl rfl rfl rfl rfl rfl).1 (by decide +kernel)
      (by decide)).applies,
    (((h.1 (at_ (coldBoot 0 0)) goodBoot (canonical_of (by decide +kernel)) (by decide +kernel) rfl rfl rfl rfl rfl rfl).2 (by decide +kernel)
      (by decide) rfl rfl).1 0 [1] (by decide +kernel) (by decide +kernel) rfl rfl rfl).applies,
    (((h.1 (at_ (coldBoot 2 0)) goodBoot (canonical_of (by decide +kernel)) (by decide +kernel) rfl rfl rfl rfl rfl rfl).2 (by decide +kernel)
      (by decide) rfl rfl).2 (by decide +kernel)).applies,
    (h.2.1 (at_ {}) (by decide +kernel) rfl).applies,
    (h.2.2 (at_ { coldBoot 0 0 with boot := { (coldBoot 0 0).boot with step := 2 } }) (by decide +kernel) (by decide)).applies⟩

/-! The pair -/

/-- The block 0.1 ms after reset, its pair status word and what the pair keeps. -/
def fj (w : Nat) (p : Pair) : Dev := { (up.setReg 0x700004 w).atNs 100000 with pair := p }

/-- The status words of a device without a link, of one that is linked and JOINING, and of one that is PAIRED and SYNCED. -/
abbrev bare : Nat := 0x08FF4000
abbrev joining : Nat := 0x19FF4000
abbrev together : Nat := 0x29FFC000

/-- A frame of the partner on lane 7. -/
def fromPeer (b : FjBody) (side : Nat := 1) : Fjarair := { side := side, seq := 0, ack := 0, lane := 7, body := b }

/-- A HELLO of a partner of this part and seed. -/
def aHello : Fjarair := fromPeer (.hello 0x4800 0xB0 ((fj bare {}).reg 0x100D00) 0 false 5)

/-- The checks of `HearsNext`, as one Bool. -/
def hearsB (d : Dev) (f : Fjarair) : Bool :=
  d.fjUp f.lane && f.good && !d.flag 0x70000C 1 && d.fjLinked && f.seq == d.pair.rxSeq && d.pair.rxSeq < 2 ^ 32 && d.pair.sent.isEmpty
    && d.pair.ahead.isEmpty

theorem hears_of {d : Dev} {f : Fjarair} (h : hearsB d f = true) : d.HearsNext f := by
  simp only [hearsB, Bool.and_eq_true, Bool.not_eq_true', beq_iff_eq, decide_eq_true_eq, List.isEmpty_iff] at h
  obtain ⟨⟨⟨⟨⟨⟨⟨h1, h2⟩, h3⟩, h4⟩, h5⟩, h6⟩, h7⟩, h8⟩ := h
  exact ⟨⟨h1, h2, h3⟩, h4, h5, h6, h7, h8⟩

/-- The pair's state from the first commit on. -/
abbrev ready : Pair := { firstAt := some 0 }

theorem witness_PairLinkRows (h : Obligations.PairLinkRows) :
    applies (.peerRailChange true false) (fj bare {}) ∧ applies (.peerRailChange false true) (fj bare {}) ∧
    applies (.peerRailChange true true) (fj bare { heardAt := some 100000 }) ∧ applies (.peerRailChange false false) (fj bare { heardAt := some 99000 }) ∧
    applies .heartbeatLoss (fj joining { heardAt := some 0 }) ∧ applies (.selfDownWrite true) (fj bare {}) ∧
    applies (.selfDownWrite false) (fj bare { mute := [4] }) ∧ applies (.fjarairLaneUp 7) (fj 0 {}) ∧ applies (.fjarairLaneDown 7) (fj bare {}) ∧
    applies .helloSend (fj bare {}) ∧ applies (.hello aHello) (fj bare {}) ∧
    applies .helloSend (fj bare ready) ∧ applies (.hello (fromPeer (.hello 0x4800 0xB0 0 0 false 5) 0)) (fj bare ready) ∧
    applies (.hello aHello) (fj bare ready) ∧ applies (.heartbeat (fromPeer (.heartbeat 2 5))) (fj bare {}) ∧
    applies (.heartbeat (fromPeer (.heartbeat 2 1))) { fj bare {} with ports := [(0, { active := true })] } ∧
    applies (.ackFrame (fromPeer .ack)) (fj joining {}) ∧ applies (.nakFrame (fromPeer .nak)) (fj joining {}) ∧
    applies .heartbeatSend (fj bare {}) ∧ applies .ackSend (fj joining {}) ∧ applies .reorderGapTimeout (fj joining { aheadAt := some 98000 }) ∧
    applies .retransmitTimeout (fj joining { sent := [(0, .ack)], rounds := 6 }) ∧
    applies .retransmitTimeout (fj joining { sent := [(0, .ack)], rounds := 7 }) ∧
    applies .soloWaitExpiry ((fj bare { firstAt := some 0 }).atNs 300000000000) ∧
    applies (.ackFrame { fromPeer .ack with good := false }) (fj bare {}) := by
  have hb : (fj bare {}).Hears (fromPeer .ack) := ⟨by decide +kernel, rfl, by decide +kernel⟩
  refine ⟨(h.1 (at_ (fj bare {})) (canonical_of (by decide +kernel)) (by decide +kernel)).1.applies,
    (h.1 (at_ (fj bare {})) (canonical_of (by decide +kernel)) (by decide +kernel)).2.1.applies,
    ((h.1 (at_ (fj bare { heardAt := some 100000 })) (canonical_of (by decide +kernel)) (by decide +kernel)).2.2 true (by decide +kernel)).applies,
    ((h.1 (at_ (fj bare { heardAt := some 99000 })) (canonical_of (by decide +kernel)) (by decide +kernel)).2.2 false (by decide +kernel)).applies,
    (h.2.1 (at_ (fj joining { heardAt := some 0 })) (by decide +kernel) rfl rfl (by decide +kernel)).applies,
    (h.2.2.1 (at_ (fj bare {})) (by decide +kernel)).1.applies,
    (h.2.2.1 (at_ (fj bare { mute := [4] })) (by decide +kernel)).2.applies,
    ((h.2.2.2.1 (at_ (fj 0 {})) 7 (canonical_of (by decide +kernel))).1 rfl).applies,
    ((h.2.2.2.1 (at_ (fj bare {})) 7 (canonical_of (by decide +kernel))).2 (by decide +kernel)).applies,
    (h.2.2.2.2.1 (at_ (fj bare {})) aHello rfl (by decide +kernel)).1.applies,
    ((h.2.2.2.2.1 (at_ (fj bare {})) aHello rfl (by decide +kernel)).2 ⟨by decide +kernel, rfl, by decide +kernel⟩ ⟨_, _, _, _, _, _, rfl⟩).applies,
    (h.2.2.2.2.2.1 (at_ (fj bare ready)) (by decide +kernel) rfl rfl).applies,
    ((h.2.2.2.2.2.2.1 (at_ (fj bare ready)) (fromPeer (.hello 0x4800 0xB0 0 0 false 5) 0) _ _ _ _ _ _ (canonical_of (by decide +kernel))
      ⟨by decide +kernel, rfl, by decide +kernel⟩ rfl (by decide +kernel) rfl).1 (.inl (by decide +kernel))).applies,
    ((h.2.2.2.2.2.2.1 (at_ (fj bare ready)) aHello _ _ _ _ _ _ (canonical_of (by decide +kernel)) ⟨by decide +kernel, rfl, by decide +kernel⟩ rfl
      (by decide +kernel) rfl).2 (by decide +kernel) rfl rfl rfl rfl).applies,
    (h.2.2.2.2.2.2.2.1 (at_ (fj bare {})) (fromPeer (.heartbeat 2 5)) 2 5 ⟨by decide +kernel, rfl, by decide +kernel⟩ rfl (by decide +kernel)
      (by decide +kernel) (fun i hi => by simp [at_, fj, up, Dev.port, Dev.atNs, Dev.setReg, Map.getD, Map.get?] at hi)).applies,
    (h.2.2.2.2.2.2.2.2.1 (at_ { fj bare {} with ports := [(0, { active := true })] }) (fromPeer (.heartbeat 2 1)) 2 1 0
      ⟨by decide +kernel, rfl, by decide +kernel⟩ rfl (by decide +kernel) (by decide +kernel) (by decide) rfl (by decide) rfl rfl).applies,
    ((h.2.2.2.2.2.2.2.2.2.1 (at_ (fj joining {})) (fromPeer .ack) ⟨by decide +kernel, rfl, by decide +kernel⟩).1 rfl (by decide +kernel)).applies,
    ((h.2.2.2.2.2.2.2.2.2.1 (at_ (fj joining {})) (fromPeer .nak) ⟨by decide +kernel, rfl, by decide +kernel⟩).2 rfl (by decide +kernel) rfl).applies,
    (h.2.2.2.2.2.2.2.2.2.2.1 (at_ (fj bare {})) 0 (canonical_of (by decide +kernel)) (by decide +kernel)).1.applies,
    ((h.2.2.2.2.2.2.2.2.2.2.1 (at_ (fj joining {})) 0 (canonical_of (by decide +kernel)) (by decide +kernel)).2.1 (by decide +kernel)).applies,
    ((h.2.2.2.2.2.2.2.2.2.2.1 (at_ (fj joining { aheadAt := some 98000 })) 0 (canonical_of (by decide +kernel)) (by decide +kernel)).2.2 98000
      (by decide +kernel) rfl (by decide +kernel)).applies,
    ((h.2.2.2.2.2.2.2.2.2.2.2.1 (at_ (fj joining { sent := [(0, .ack)], rounds := 6 })) (0, .ack) [] (by decide +kernel) rfl
      (by decide +kernel)).1 (by decide)).applies,
    ((h.2.2.2.2.2.2.2.2.2.2.2.1 (at_ (fj joining { sent := [(0, .ack)], rounds := 7 })) (0, .ack) [] (by decide +kernel) rfl
      (by decide +kernel)).2 rfl).applies,
    (h.2.2.2.2.2.2.2.2.2.2.2.2.1 (at_ ((fj bare { firstAt := some 0 }).atNs 300000000000)) 0 (by decide +kernel) rfl (by decide +kernel) (by decide +kernel)
      rfl rfl (by decide +kernel)).applies,
    (h.2.2.2.2.2.2.2.2.2.2.2.2.2 (at_ (fj bare {})) { fromPeer .ack with good := false } hb.lane rfl (by decide +kernel) rfl).applies⟩

/-- The partner's records and copies find the block PAIRED, with context `home0` and interface 3 in service. -/
def mate (p : Pair) : Dev :=
  { fj together p with store := [(home0, ctx0)], ports := [(3, { st := .admitted, active := false }), (5, { st := .admitted, active := true })] }

/-- A timer shadowed for the partner. -/
def shadowed : Dev := { mate {} with sets := [(63, { timers := [(9, ⟨1000000, 0, 0, 0, true⟩)] })] }

theorem witness_PairRecordRows (h : Obligations.PairRecordRows) :
    applies (.markTime (fromPeer (.data [.markTime 5 7]))) (mate {}) ∧ applies (.courseRecord (fromPeer (.data [.course 15 1 2 3]))) (mate {}) ∧
    applies (.ifaceRecord (fromPeer (.data [.iface 95 1 2 3 true 4]))) (mate {}) ∧
    applies (.ctxSet (fromPeer (.data [.ctxSet (List.replicate 32 0)]))) (mate {}) ∧
    applies (.ctxFreeRecord (fromPeer (.data [.ctxFree 0 ctx0.key]))) (mate {}) ∧
    applies (.ctxTouch (fromPeer (.data [.ctxTouch 0 ctx0.key]))) (mate {}) ∧
    applies (.commitRecord (fromPeer (.data [.commit 63 [(0, 0x7FFF8 + 8 * 2 ^ 20, 5)]]))) (mate {}) ∧
    applies (.tfire (fromPeer (.data [.tfire 63 9]))) shadowed ∧ applies (.polRecord (fromPeer (.data [.pol 262143 (-1) 5]))) (mate {}) ∧
    applies (.queueRecord (fromPeer (.data [.queue 55295 1 2 3]))) (mate {}) ∧ applies (.syncStart (fromPeer (.data [.syncStart]))) (mate {}) ∧
    applies (.syncDone (fromPeer (.data [.syncDone]))) (fj joining {}) ∧ applies .markSetSend (mate {}) ∧ applies .creditRecordSend (mate {}) ∧
    applies (.ctrlAbsent (fromPeer (.ctrl .absent))) (mate {}) ∧ applies (.ctrlOffer (fromPeer (.ctrl (.offer 3)))) (mate {}) ∧
    applies (.ctrlAccept (fromPeer (.ctrl (.accept 5)))) (mate { hands := [(5, ⟨1, true, 0⟩)] }) ∧
    applies (.ctrlRefuse (fromPeer (.ctrl (.refuse 5)))) (mate { hands := [(5, ⟨1, true, 0⟩)] }) ∧
    applies (.ctrlSwitch (fromPeer (.ctrl (.switch 3)))) (mate { hands := [(3, ⟨1, false, 0⟩)] }) ∧
    applies (.ctrlTakeAsk (fromPeer (.ctrl (.ask 5)))) (mate {}) ∧ applies (.ctrlMove (fromPeer (.ctrl .move))) (mate {}) ∧
    applies (.ctrlMoveEnd (fromPeer (.ctrl .moveEnd))) (mate { peerMove := true }) ∧
    applies (.handoverDrainEnd 5) (mate { hands := [(5, ⟨2, true, 1000⟩)] }) ∧
    applies .xferSend { mate { xq := [aCopy] } with west := { fresh := 1, chains := [(0, aChain)] } } ∧
    applies (.xferFrame (fromPeer (.xfer (List.replicate 12 0) (List.replicate 60 0)))) (mate {}) := by
  have q (f : Fjarair) (c : hearsB (mate {}) f = true) := h.1 (at_ (mate {})) f (canonical_of (by decide +kernel)) (hears_of c)
  have k (p : Pair) (b : FjBody) (i : Nat) (c : canonicalB (mate p) = true) (e : hearsB (mate p) (fromPeer b) = true) (v : isIface i = true) :=
    h.2.2.1 (at_ (mate p)) (fromPeer b) i (canonical_of c) (hears_of e) v
  exact ⟨((q _ (by decide +kernel)).1 5 7 rfl rfl).applies, ((q _ (by decide +kernel)).2.1 15 1 2 3 rfl (by decide)).applies,
    ((q _ (by decide +kernel)).2.2.1 95 1 2 3 true 4 rfl).applies,
    ((q _ (by decide +kernel)).2.2.2.1 (List.replicate 32 0) home0 rfl (by decide +kernel)).applies,
    ((q _ (by decide +kernel)).2.2.2.2.1 0 ctx0.key home0 rfl (by decide +kernel)).applies,
    ((q _ (by decide +kernel)).2.2.2.2.2.1 0 ctx0.key home0 rfl (by decide +kernel)).applies,
    ((q _ (by decide +kernel)).2.2.2.2.2.2.1 63 0x7FFF8 8 5 rfl (by decide) (by decide +kernel) (by decide) (by decide)).applies,
    ((h.1 (at_ shadowed) (fromPeer (.data [.tfire 63 9])) (canonical_of (by decide +kernel)) (hears_of (by decide +kernel))).2.2.2.2.2.2.2.1 63 9 rfl
      (by decide)).applies,
    ((q _ (by decide +kernel)).2.2.2.2.2.2.2.2.1 262143 (-1) 5 rfl (by decide)).applies,
    ((q _ (by decide +kernel)).2.2.2.2.2.2.2.2.2.1 55295 1 2 3 rfl (by decide)).applies,
    ((q _ (by decide +kernel)).2.2.2.2.2.2.2.2.2.2.1 rfl).applies,
    ((h.1 (at_ (fj joining {})) (fromPeer (.data [.syncDone])) (canonical_of (by decide +kernel)) (hears_of (by decide +kernel))).2.2.2.2.2.2.2.2.2.2.2
      rfl (by decide +kernel)).applies,
    ((h.2.1 (at_ (mate {})) (by decide +kernel)).1 rfl (by decide +kernel)).applies, ((h.2.1 (at_ (mate {})) (by decide +kernel)).2 (by decide +kernel) rfl rfl).applies,
    ((k {} (.ctrl .absent) 3 (by decide +kernel) (by decide +kernel) (by decide)).1 rfl).applies,
    ((k {} (.ctrl (.offer 3)) 3 (by decide +kernel) (by decide +kernel) (by decide)).2.1 rfl (by decide +kernel)).applies,
    ((k { hands := [(5, ⟨1, true, 0⟩)] } (.ctrl (.accept 5)) 5 (by decide +kernel) (by decide +kernel) (by decide)).2.2.1 ⟨1, true, 0⟩ rfl rfl rfl
      rfl).applies,
    ((k { hands := [(5, ⟨1, true, 0⟩)] } (.ctrl (.refuse 5)) 5 (by decide +kernel) (by decide +kernel) (by decide)).2.2.2.1 ⟨1, true, 0⟩ rfl rfl
      (by decide) rfl).applies,
    ((k { hands := [(3, ⟨1, false, 0⟩)] } (.ctrl (.switch 3)) 3 (by decide +kernel) (by decide +kernel) (by decide)).2.2.2.2.1 ⟨1, false, 0⟩ rfl rfl
      rfl rfl).applies,
    ((k {} (.ctrl (.ask 5)) 5 (by decide +kernel) (by decide +kernel) (by decide)).2.2.2.2.2.1 rfl (by decide +kernel) rfl rfl).applies,
    ((k {} (.ctrl .move) 3 (by decide +kernel) (by decide +kernel) (by decide)).2.2.2.2.2.2.1 rfl rfl).applies,
    ((k { peerMove := true } (.ctrl .moveEnd) 3 (by decide +kernel) (by decide +kernel) (by decide)).2.2.2.2.2.2.2 rfl).applies,
    (h.2.2.2.1 (at_ (mate { hands := [(5, ⟨2, true, 1000⟩)] })) 5 ⟨2, true, 1000⟩ (by decide) rfl rfl rfl (by decide +kernel)).applies,
    (h.2.2.2.2.1 (at_ { mate { xq := [aCopy] } with west := { fresh := 1, chains := [(0, aChain)] } }) aCopy [] aChain (by decide +kernel) rfl
      (by decide) rfl rfl).applies,
    (h.2.2.2.2.2 (at_ (mate {})) (fromPeer (.xfer (List.replicate 12 0) (List.replicate 60 0))) _ _ (hears_of (by decide +kernel)) rfl).applies⟩

/-! Faults, stored data, wear -/

/-- An error that waits at a source. -/
def waiting (src code : Nat) : Pend := ⟨src, code, [], false, false, false, 0, 0, 0, 0, 0⟩

/-- The block with that error waiting, and its unit in a given condition. -/
def erring (src code : Nat) (s : Src) : Dev := { up.atNs 2000000000 with faults := { pend := [waiting src code], srcs := [(src, s)] } }

theorem witness_CollectorRows (h : Obligations.CollectorRows) :
    applies (.faultDecided 0x3000 false []) up ∧ applies (.faultDecided 0xD000 false []) (erring 0xD000 0xD012 {}) ∧
    (((erring 0x500F 0x3030 {}).decideErr (waiting 0x500F 0x3030) []).srcOf 0x500F).state = 1 ∧
    applies (.quietExpiry 0x500F) (erring 0x500F 0x3030 { state := 1, lastError := 2000000000, quiet := 1 }) ∧
    applies (.quietExpiry 0x500F) (erring 0x500F 0x3030 { state := 1, lastError := 1999999999, quiet := 1, recoveries := 65535 }) ∧
    applies .fltPop (erring 0x500F 0x3030 {}) ∧ applies (.fltInjError 0x500F) up ∧ applies (.fltInjZeros 0) up ∧ applies (.fltInjOnes 0xE000) up :=
  ⟨((h.1 (at_ up) 0x3000 []).1 (.inl rfl)).applies,
    ((h.1 (at_ (erring 0xD000 0xD012 {})) 0xD000 []).2 (waiting 0xD000 0xD012) (by decide +kernel) (by
      intro k e
      have : domOfSrc 0xD000 = none := by decide +kernel
      have e : domOfSrc 0xD000 = some k := e
      rw [this] at e; exact nomatch e) (by decide +kernel)).applies,
    (h.2.1 (erring 0x500F 0x3030 {}) 15 (waiting 0x500F 0x3030) [] (by decide) (by decide +kernel) rfl rfl (by decide +kernel) rfl rfl
      (by decide +kernel)).1,
    ((h.2.2.1 (at_ (erring 0x500F 0x3030 { state := 1, lastError := 2000000000, quiet := 1 })) 0x500F rfl).1 (by decide +kernel)).applies,
    ((h.2.2.1 (at_ (erring 0x500F 0x3030 { state := 1, lastError := 1999999999, quiet := 1, recoveries := 65535 })) 0x500F rfl).2
      (by decide +kernel) (by
        intro k e
        have : domOfSrc 0x500F = some 37 := by decide +kernel
        have e : domOfSrc 0x500F = some k := e
        obtain rfl : 37 = k := by simpa [this] using e
        decide +kernel) (by decide)).applies,
    (h.2.2.2.1 (at_ (erring 0x500F 0x3030 {})) (by decide +kernel)).applies,
    (h.2.2.2.2 (at_ up) 0x500F (by decide +kernel)).1.applies, (h.2.2.2.2 (at_ up) 0 (by decide +kernel)).2.1.applies,
    (h.2.2.2.2 (at_ up) 0xE000 (by decide +kernel)).2.2.applies⟩

/-- A domain of a source that is ON. -/
theorem on_of {d : Dev} {src n : Nat} (h : domOfSrc src = some n) (e : d.isOn n = true) : ∀ k, domOfSrc src = some k → d.isOn k = true := by
  intro k hk
  rw [h] at hk
  obtain rfl := Option.some.inj hk
  exact e

/-- Monitors on, with a threshold of 1. -/
def monitored : Dev := (up.setReg 0x60000 9).setReg 0x60004 1

theorem drift_of_zero (k mon mv : Nat) (tj : Int) : driftOf k mon 0 mv tj ≤ 1 := by
  unfold driftOf
  obtain ⟨n, den⟩ := birthTime k mon mv tj
  have h0 : ((((0 : Nat) : Int) * den - n) * 10000) = n * (-10000) := by simp <;> omega
  simp only [h0, Int.mul_emod_right, ne_eq, not_true_eq_false, decide_false, Bool.false_and, Bool.false_eq_true, if_false]
  by_cases hn : n = 0
  · subst hn; decide
  · rw [Int.mul_ediv_cancel_left _ hn]; decide

theorem witness_StorageAndMeasurementRows (h : Obligations.StorageAndMeasurementRows) :
    (∀ o ∈ [ScrubOutcome.clean, .poisoned, .corrected, .uncorrectable], applies (.scrubWord 12 5 o .other false [] none)
      (up.setBit (Dev.memBase 12) 0)) ∧
    applies (.hbmRowRepair 1 false) { up with mems := [(1, { rows := [5] })] } ∧ applies (.hbmRowRepair 1 true) { up with mems := [(1, { rows := [5] })] } ∧
    applies (.stewardFetchTrap 1 5 true) up ∧ applies (.stewardFetchTrap 0 5 true) up ∧
    applies (.monitorMeasurement 0x4000 0 1 0 700 80 false true) monitored ∧ applies (.monitorMeasurement 0x4000 0 1 0 700 80 false false) monitored ∧
    applies .injMon up ∧ applies (.ledgerPageWrite false true) { up with wear := { pages := 1 } } ∧ applies (.ledgerPageWrite true false) up := by
  have q := h.1 (at_ (up.setBit (Dev.memBase 12) 0)) 12 5 .other false (canonical_of (by decide +kernel)) (on_of (n := 1) (by decide +kernel)
    (by decide +kernel)) (by decide +kernel) (by decide) (by decide) (by decide +kernel) (by decide +kernel) (by decide +kernel)
  refine ⟨by simp only [List.mem_cons, List.not_mem_nil, or_false, forall_eq_or_imp, forall_eq]; exact ⟨q.1.applies, q.2.1.applies, q.2.2.1.applies,
      q.2.2.2.applies⟩,
    (h.2.1 (at_ { up with mems := [(1, { rows := [5] })] }) 1 5 [] rfl (by decide +kernel) (fun t e => by simp [at_, Dev.mem, Map.getD, Map.get?] at e)).1.applies,
    (h.2.1 (at_ { up with mems := [(1, { rows := [5] })] }) 1 5 [] rfl (by decide +kernel) (fun t e => by simp [at_, Dev.mem, Map.getD, Map.get?] at e)).2.applies,
    ((h.2.2.1 (at_ up) 1 5 true (by decide +kernel) (by decide +kernel)).1 (by decide)).applies,
    ((h.2.2.1 (at_ up) 0 5 true (by decide +kernel) (by decide +kernel)).2 rfl rfl).applies,
    (h.2.2.2.1 (at_ monitored) 0x4000 0 1 0 700 80 (by decide +kernel) (by decide +kernel) (by decide +kernel)).1.applies,
    ((h.2.2.2.1 (at_ monitored) 0x4000 0 1 0 700 80 (by decide +kernel) (by decide +kernel) (by decide +kernel)).2
      (by have : ((max 1 ((at_ monitored).dev.fld 0x60004 15 0) : Nat) : Int) = 1 := by decide +kernel
          rw [this]; exact drift_of_zero _ _ _ _) (by decide +kernel) (on_of (n := 102) (by decide +kernel) (by decide +kernel))).applies,
    (h.2.2.2.2.1 (at_ up) (canonical_of (by decide +kernel)) (by decide +kernel)).applies,
    (h.2.2.2.2.2 (at_ { up with wear := { pages := 1 } }) false (canonical_of (by decide +kernel)) (by decide) (.inr (by decide))).1.applies,
    (h.2.2.2.2.2 (at_ up) true (canonical_of (by decide +kernel)) (by decide) (.inl rfl)).2.applies⟩

/-- A move in progress, on a paired device. -/
def moving (k unit spare step : Nat) : Dev := { fj together {} with wear := { move := some { kind := k, unit := unit, spare := spare, step := step } } }

/-- The unit keys of course 3 and its spare, and of lane 5 of die 0 and its spare. -/
abbrev course3 : Nat := unitKey (srcCourse 3) 0
abbrev lane5 : Nat := unitKey (srcLane 0 5) 0

/-- Units that wait for their move. -/
def waitingFor (kind unit : Nat) : Dev := { fj together {} with wear := { waits := [(kind, unit)] } }

theorem witness_MoveRows (h : Obligations.MoveRows) :
    applies (.laneSelfTestDone 3 81 true) { up with lanes := [(3 * 128 + up.laneAt 3 81, { testing := true })] } ∧
    applies (.laneSelfTestDone 3 81 false) { up with lanes := [(3 * 128 + up.laneAt 3 81, { testing := true })] } ∧
    applies (.courseMove true false) (moving 0 course3 (unitKey (srcCourse 16) 0) 1) ∧
    applies (.courseMove true false) (moving 0 course3 (unitKey (srcCourse 16) 0) 3) ∧
    applies (.courseMove true false) (moving 0 course3 (unitKey (srcCourse 16) 0) 6) ∧
    applies (.courseMove true false) { moving 0 course3 (unitKey (srcCourse 16) 0) 3 with regs := up.regs } ∧
    applies (.laneMove true) (moving 3 lane5 (unitKey (srcLane 0 82) 0) 1) ∧ applies (.laneMove true) (moving 3 lane5 (unitKey (srcLane 0 82) 0) 3) ∧
    applies (.laneMove true) (moving 3 lane5 (unitKey (srcLane 0 82) 0) 6) ∧
    applies (.fjarairLaneMove 7) (waitingFor 3 (unitKey (srcLane 3 (up.laneAt 3 81)) 0)) ∧
    applies (.pseudoChannelMove 1 true) (waitingFor 6 (unitKey (srcMem 1) 5)) ∧ applies (.pseudoChannelMove 1 false) (waitingFor 6 (unitKey (srcMem 1) 5)) ∧
    applies .moveRetry up ∧ applies .moveRetry { waitingFor 0 course3 with regs := up.regs } ∧
    applies .stewardHeartbeatLoss up ∧ applies (.stewardRoleChange false) up ∧ applies .stewardHeartbeatLoss { up with stw := { spare := 1 } } ∧
    applies (.stewardRoleChange false) { up with stw := { spare := 2 } } ∧
    applies (.stewardRoleChange true) { up.setBit 0x60000 0 with wear := { units := [(unitKey (srcSteward 0) 0, { st := some 3 })] } } ∧
    applies (.spareImageLoaded false true) { up with stw := { spare := 1 } } ∧ applies (.spareImageLoaded true true) { up with stw := { spare := 1 } } ∧
    applies (.spareImageLoaded false true) { up with stw := { spare := 1, swap := some { ticket := none, image := 0, halt := false } } } ∧
    applies (.spareImageLoaded true true) { up with stw := { spare := 1, swap := some { ticket := none, image := 0, halt := false } } } := by
  have m (k u x n : Nat) := h.2.1 (at_ (moving k u x n)) { kind := k, unit := u, spare := x, step := n } true false rfl
  have l (ok : Bool) := h.1 (at_ { up with lanes := [(3 * 128 + up.laneAt 3 81, { testing := true })] }) 3 81 (by decide +kernel)
  have sp (x : Stewards) (o : (at_ { up with stw := x }).dev.stw.spare = 1) (n : (1 - x.active) ∉ x.halted) :=
    h.2.2.2.2.2.2.2 (at_ { up with stw := x }) true o n
  refine ⟨(l true).1.applies, (l true).2.applies,
    (((m 0 course3 (unitKey (srcCourse 16) 0) 1).1 rfl (by decide +kernel)).1 (by decide)).applies,
    (((m 0 course3 (unitKey (srcCourse 16) 0) 3).1 rfl (by decide +kernel)).2 (by decide) (by decide)).applies,
    ((m 0 course3 (unitKey (srcCourse 16) 0) 6).2.1 rfl (by decide)).applies,
    ((h.2.1 (at_ { moving 0 course3 (unitKey (srcCourse 16) 0) 3 with regs := up.regs }) _ true false rfl).2.2.2.2 rfl (by decide)
      (by decide +kernel)).applies,
    (((m 3 lane5 (unitKey (srcLane 0 82) 0) 1).2.2.1 rfl (by decide +kernel)).1 (by decide)).applies,
    (((m 3 lane5 (unitKey (srcLane 0 82) 0) 3).2.2.1 rfl (by decide +kernel)).2 (by decide) (by decide) 5 (by decide) (by decide +kernel)).applies,
    ((m 3 lane5 (unitKey (srcLane 0 82) 0) 6).2.2.2.1 rfl (by decide)).applies,
    (h.2.2.1 (at_ (waitingFor 3 (unitKey (srcLane 3 (up.laneAt 3 81)) 0))) 7 (unitKey (srcLane 3 82) 0)
      ((List.range 5).map fun n => unitKey (srcLane 3 (83 + n)) 0) (by decide +kernel) (by decide +kernel)).applies,
    (h.2.2.2.1 (at_ (waitingFor 6 (unitKey (srcMem 1) 5))) 1 (6, unitKey (srcMem 1) 5) (unitKey (srcMem 1) 32) [unitKey (srcMem 1) 33] rfl
      (by decide +kernel) (by decide +kernel) (by decide +kernel) (by decide +kernel)).1.applies,
    (h.2.2.2.1 (at_ (waitingFor 6 (unitKey (srcMem 1) 5))) 1 (6, unitKey (srcMem 1) 5) (unitKey (srcMem 1) 32) [unitKey (srcMem 1) 33] rfl
      (by decide +kernel) (by decide +kernel) (by decide +kernel) (by decide +kernel)).2.applies,
    ((h.2.2.2.2.1 (at_ up)).1 (.inr (by decide +kernel))).applies,
    ((h.2.2.2.2.1 (at_ { waitingFor 0 course3 with regs := up.regs })).2 rfl (0, course3) [] (by decide +kernel) (unitKey (srcCourse 16) 0) []
      (by decide +kernel) (by decide +kernel)).applies,
    ((h.2.2.2.2.2.1 (at_ up) (by decide +kernel) (by decide +kernel) rfl).1 rfl).1.applies,
    ((h.2.2.2.2.2.1 (at_ up) (by decide +kernel) (by decide +kernel) rfl).1 rfl).2.applies,
    ((h.2.2.2.2.2.1 (at_ { up with stw := { spare := 1 } }) (by decide +kernel) (by decide +kernel) rfl).2 (by decide)).1.applies,
    ((h.2.2.2.2.2.1 (at_ { up with stw := { spare := 2 } }) (by decide +kernel) (by decide +kernel) rfl).2 (by decide)).2.applies,
    (h.2.2.2.2.2.2.1 (at_ { up.setBit 0x60000 0 with wear := { units := [(unitKey (srcSteward 0) 0, { st := some 3 })] } }) (by decide +kernel) rfl
      (by decide +kernel) rfl).applies,
    ((sp { spare := 1 } rfl (by decide)).1 rfl).1.applies,
    (((sp { spare := 1 } rfl (by decide)).1 rfl).2 rfl (by decide +kernel)).applies,
    ((sp { spare := 1, swap := some { ticket := none, image := 0, halt := false } } rfl (by decide)).2 _ rfl).1.applies,
    (((sp { spare := 1, swap := some { ticket := none, image := 0, halt := false } } rfl (by decide)).2 _ rfl).2 rfl).applies⟩

/-! The debug port and boundary scan -/

/-- A block whose debug port has started, at a level. -/
def talk (d : Dev) (lvl : Nat) : Dev := { d.setReg 0x220 (lvl * 2 ^ 30) with dbg := { started := true } }

theorem speaks_of {d : Dev} {lvl : Nat} (h : (d.isOn 1 && d.dbg.started && decide (lvl ≤ d.debugLevel)) = true) : d.Speaks lvl := by
  simp only [Bool.and_eq_true, decide_eq_true_eq] at h
  exact ⟨h.1.1, h.1.2, h.2⟩

theorem witness_DebugFramesAreGated (h : Obligations.DebugFramesAreGated) :
    applies (.debugRead 7 0 0 true false) (talk up 3) ∧ applies (.debugUnlock 1 [] true) (talk up 0) ∧
    applies (.engineHalt 63 8 true) (talk up 1) ∧ applies (.stewardHalt 0 true) (talk up 2) ∧ applies .attentionSequence up ∧
    exec (.debugLock true) (at_ up) = .next (at_ up) :=
  ⟨((h.1 (.debugRead 7 0 0 true false) (at_ (talk up 3)) _ _ rfl).2 (by decide +kernel) rfl |>.1 (by decide +kernel)).applies,
    ((h.1 (.debugUnlock 1 [] true) (at_ (talk up 0)) _ _ rfl).2 (by decide +kernel) rfl |>.1 (by decide +kernel)).applies,
    ((h.1 (.engineHalt 63 8 true) (at_ (talk up 1)) _ _ rfl).2 (by decide +kernel) rfl |>.2 (by decide +kernel) (by decide +kernel)).applies,
    ((h.1 (.stewardHalt 0 true) (at_ (talk up 2)) _ _ rfl).2 (by decide +kernel) rfl |>.2 (by decide +kernel) (by decide +kernel)).applies,
    (h.2 (at_ up) (by decide +kernel) (by decide +kernel)).applies,
    (h.1 (.debugLock true) (at_ up) _ _ rfl).1 (.inr rfl)⟩

/-- A halted engine 8 of set 63. -/
def haltedEngine (e : Engine) (lvl : Nat) : Dev := { talk up lvl with sets := [(63, { engines := [(8, e)] })] }

theorem witness_DebugAccesses (h : Obligations.DebugAccesses) :
    applies (.debugNop true) (talk up 0) ∧ applies (.debugRead 5 0xFFFFFFFFC 0 true true) (talk up 2) ∧
    applies (.debugRead 0 0xFFFFFC 0 true false) (talk up 1) ∧
    applies (.debugRead 3 (BitVec.ofNat 48 ((63 : Fin 64) * 2 ^ 32 + 0x7FFFC)) 0 true false) (talk up 2) ∧
    applies (.debugRead 3 (BitVec.ofNat 48 ((63 : Fin 64) * 2 ^ 32 + 0x7FFFC)) 0 true false)
      { talk up 2 with sets := [(63, { poison := [0xFFFF] })] } ∧
    applies (.debugRead 4 (BitVec.ofNat 48 ((63 : Fin 64) * 2 ^ 16 + (8 : Fin 9) * 2 ^ 12 + (31 : Fin 32))) 0 true false) (talk up 2) ∧
    applies (.debugWrite 0 0xFFFFFC [7] true) (talk up 3) ∧
    applies (.debugWrite 3 (BitVec.ofNat 48 ((63 : Fin 64) * 2 ^ 32 + 0x7FFFC)) [7] true) (talk up 3) ∧
    applies (.debugWrite 4 (BitVec.ofNat 48 ((63 : Fin 64) * 2 ^ 16 + (8 : Fin 9) * 2 ^ 12 + (31 : Fin 32))) [7] true)
      (haltedEngine { halted := true } 3) ∧
    applies (.debugWrite 4 (BitVec.ofNat 48 ((63 : Fin 64) * 2 ^ 16 + (8 : Fin 9) * 2 ^ 12 + (31 : Fin 32))) [7] true)
      (haltedEngine {} 3) ∧
    applies (.debugWrite 6 (BitVec.ofNat 48 (0x10 + 4 * (7 : Fin 8))) [0xBFFFFFFF] true) (talk up 2) ∧
    applies (.debugWrite 0 0x2000 [7] true) (talk up 2) := by
  obtain ⟨h1, h2, h3, h4, h5, h6, h7, h8, h9, h10⟩ := h
  exact ⟨(h1 (at_ (talk up 0)) (speaks_of (by decide +kernel))).applies,
    (h2 (at_ (talk up 2)) 5 0xFFFFFFFFC 0 (speaks_of (by decide +kernel)) (by decide +kernel)).applies,
    (h3 (at_ (talk up 1)) 0xFFFFFC (speaks_of (by decide +kernel)) (by decide) (by decide) (by decide +kernel)).applies,
    (h4 (at_ (talk up 2)) 63 0x7FFFC (speaks_of (by decide +kernel)) (by decide +kernel) (by decide) (by decide)).applies,
    (h4 (at_ { talk up 2 with sets := [(63, { poison := [0xFFFF] })] }) 63 0x7FFFC (speaks_of (by decide +kernel)) (by decide +kernel)
      (by decide) (by decide)).applies,
    (h5 (at_ (talk up 2)) 63 8 31 (speaks_of (by decide +kernel))).applies,
    (h6 (at_ (talk up 3)) 0xFFFFFC 7 (speaks_of (by decide +kernel)) (by decide) (by decide)).applies,
    (h7 (at_ (talk up 3)) 63 0x7FFFC 7 (speaks_of (by decide +kernel)) (by decide +kernel) (by decide) (by decide)).applies,
    ((h8 (at_ (haltedEngine { halted := true } 3)) 63 8 31 7 (canonical_of (by decide +kernel)) (speaks_of (by decide +kernel)) (by decide)).1
      rfl).applies,
    ((h8 (at_ (haltedEngine {} 3)) 63 8 31 7 (canonical_of (by decide +kernel)) (speaks_of (by decide +kernel)) (by decide)).2 rfl).applies,
    (h9 (at_ (talk up 2)) 7 0xBFFFFFFF (speaks_of (by decide +kernel)) (by decide +kernel) (by decide) rfl).applies,
    (h10 (at_ (talk up 2)) 0x2000 7 (speaks_of (by decide +kernel)) (by decide +kernel) (by decide) (by decide)).applies⟩

/-- An UNLOCK of level 3 under way, its response wrong. What a right response signs holds the fused PKG of R2, which the model leaves
open, so no concrete one can be written down. -/
def verifying : Dev :=
  { talk up 0 with dbg := { started := true, nonces := [(3, List.replicate 48 4, 1)], verify := some (3, []) } }

/-- The same with three failures counted. -/
def verifyingLast : Dev := verifying.setReg 0x220 0x30000

theorem verifying_fails (d : Dev) (k : Nat) : d.unlockPasses k [] = false := by
  unfold Dev.unlockPasses
  split
  · rfl
  · exact List.any_eq_false.2 fun x _ => by simp [ecdsaVerify]

theorem witness_DebugUnlocking (h : Obligations.DebugUnlocking) :
    applies (.debugChallenge 3 true) (talk up 0) ∧ applies (.debugChallenge 3 true) ((talk up 0).setBit 0x220 28) ∧
    applies (.debugUnlock 1 (List.replicate 24 5) true) (talk up 0) ∧
    (∃ t, exec .unlockVerifyDone (at_ verifying) = .next t ∧ t.dev.debugLevel = 0) ∧
    (∃ t, exec .unlockVerifyDone (at_ verifyingLast) = .next t ∧ t.dev.flag 0x220 28 = true) ∧
    applies (.debugLock true) (haltedEngine { halted := true } 3) ∧
    applies (.nonceExpiry 3) { up with dbg := { nonces := [(3, [], 0)] } } ∧ applies (.nonceExpiry 3) { up with dbg := { nonces := [(3, [], 1)] } } ∧
    applies .lockoutEnd { up with dbg := { lockEnd := some 0 } } ∧ applies .lockoutEnd { up with dbg := { lockEnd := some 1 } } := by
  obtain ⟨h1, h2, h3, h4, h5, h6⟩ := h
  refine ⟨((h1 (at_ (talk up 0)) 3 (speaks_of (by decide +kernel)) (by decide)).1 (by decide +kernel)).applies,
    ((h1 (at_ ((talk up 0).setBit 0x220 28)) 3 (speaks_of (by decide +kernel)) (by decide)).2 (by decide +kernel)).applies,
    (h2 (at_ (talk up 0)) 1 (List.replicate 24 5) (canonical_of (by decide +kernel)) (speaks_of (by decide +kernel)) (by decide) rfl).applies,
    ?_, ?_,
    (h4 (at_ (haltedEngine { halted := true } 3)) (canonical_of (by decide +kernel)) (speaks_of (by decide +kernel))).applies,
    ((h5 (at_ { up with dbg := { nonces := [(3, [], 0)] } }) 3 [] 0 rfl rfl).1 (by decide)).applies,
    ((h5 (at_ { up with dbg := { nonces := [(3, [], 1)] } }) 3 [] 1 rfl rfl).2 (by decide)).applies,
    ((h6 (at_ { up with dbg := { lockEnd := some 0 } }) 0 (canonical_of (by decide +kernel)) rfl).1 (by decide)).applies,
    ((h6 (at_ { up with dbg := { lockEnd := some 1 } }) 1 (canonical_of (by decide +kernel)) rfl).2 (by decide)).applies⟩
  · obtain ⟨e, he, c⟩ := h3 (at_ verifying) 3 _ (canonical_of (by decide +kernel)) rfl (by decide) rfl
    exact ⟨_, he, (c.2.2.2.2 (verifying_fails _ _)).1⟩
  · obtain ⟨e, he, c⟩ := h3 (at_ verifyingLast) 3 _ (canonical_of (by decide +kernel)) rfl (by decide) rfl
    exact ⟨_, he, ((c.2.2.2.2 (verifying_fails _ _)).2.2.2 (by decide +kernel)).1⟩

/-- An item that an engine runs. -/
def heldItem : Running := { words := [] }

/-- Stewards with the port started. -/
def stewards (x : Stewards) (lvl : Nat) : Dev := { talk up lvl with stw := x }

theorem witness_HaltingAndScan (h : Obligations.HaltingAndScan) :
    applies (.engineHalt 63 0 true) (talk up 2) ∧ applies (.engineResume 63 8 true) (haltedEngine { halted := true } 2) ∧
    applies (.engineResume 63 8 true) (talk up 2) ∧ applies (.stepStretch 63 8 true) (haltedEngine { halted := true, item := some heldItem } 2) ∧
    applies (.stepMicro 63 8 true) (haltedEngine { halted := true, item := some heldItem } 3) ∧
    applies (.stewardHalt 1 true) (stewards { spare := 1 } 2) ∧ applies (.stewardHalt 0 true) (stewards { spare := 0 } 3) ∧
    applies (.stewardHalt 0 true) (stewards { spare := 1 } 3) ∧ applies (.stewardResume 1 true) (stewards { spare := 2, halted := [1] } 2) ∧
    applies (.stewardStep 1 true) (stewards { spare := 2, halted := [1] } 2) ∧ applies (.stewardStep 1 true) (stewards { spare := 2 } 2) ∧
    applies .tapReset {} ∧ applies (.samplePreload 5 6) {} ∧ applies .idcode {} ∧ applies .bypass {} ∧
    applies .extest { boot := { straps := 8 } } ∧ applies .clamp {} ∧ applies .highz { boot := { straps := 8 } } ∧
    applies .extestPulse {} ∧ applies .extestTrain { boot := { straps := 8 } } := by
  obtain ⟨h1, h2, h3, h4⟩ := h
  have g (c : Instr) (ir : Nat) (dr : Bool) (m) := (h4 c ir dr (at_ { boot := { straps := 8 } }) (canonical_of (by decide +kernel)) m).1 rfl
  have n (c : Instr) (ir : Nat) (dr : Bool) (m) := (h4 c ir dr (at_ {}) (canonical_of (by decide +kernel)) m).2 (by decide +kernel)
  exact ⟨((h1 (at_ (talk up 2)) 63 0 (canonical_of (by decide +kernel)) (speaks_of (by decide +kernel))).1 rfl rfl).applies,
    ((h1 (at_ (haltedEngine { halted := true } 2)) 63 8 (canonical_of (by decide +kernel)) (speaks_of (by decide +kernel))).2.1 rfl).applies,
    ((h1 (at_ (talk up 2)) 63 8 (canonical_of (by decide +kernel)) (speaks_of (by decide +kernel))).2.2.1 rfl).applies,
    ((h1 (at_ (haltedEngine { halted := true, item := some heldItem } 2)) 63 8 (canonical_of (by decide +kernel))
      (speaks_of (by decide +kernel))).2.2.2.1 rfl rfl).applies,
    ((h1 (at_ (haltedEngine { halted := true, item := some heldItem } 3)) 63 8 (canonical_of (by decide +kernel))
      (speaks_of (by decide +kernel))).2.2.2.2 rfl rfl (by decide +kernel)).applies,
    ((h2 (at_ (stewards { spare := 1 } 2)) 1 (speaks_of (by decide +kernel))).1 (by decide) (by decide) (by decide)).applies,
    (((h2 (at_ (stewards { spare := 0 } 3)) 0 (speaks_of (by decide +kernel))).2.1 rfl (by decide +kernel)).1 rfl rfl).applies,
    (((h2 (at_ (stewards { spare := 1 } 3)) 0 (speaks_of (by decide +kernel))).2.1 rfl (by decide +kernel)).2 (by decide)).applies,
    ((h2 (at_ (stewards { spare := 2, halted := [1] } 2)) 1 (speaks_of (by decide +kernel))).2.2.1 (by decide)).1.applies,
    ((h2 (at_ (stewards { spare := 2, halted := [1] } 2)) 1 (speaks_of (by decide +kernel))).2.2.1 (by decide)).2.applies,
    ((h2 (at_ (stewards { spare := 2 } 2)) 1 (speaks_of (by decide +kernel))).2.2.2 (by decide)).applies,
    (h3 (at_ {}) 5 6).1.applies, (h3 (at_ {}) 5 6).2.1.applies, (h3 (at_ {}) 5 6).2.2.1.applies, (h3 (at_ {}) 5 6).2.2.2.applies,
    (g .extest 0 true (by simp)).applies, (n .clamp 3 true (by simp)).applies, (g .highz 4 false (by simp)).applies,
    (n .extestPulse 5 true (by simp)).applies, (g .extestTrain 6 true (by simp)).applies⟩

/-! Frames, and the memory of a set -/

theorem witness_ConfinedRowsKeepTheRest (h : Obligations.ConfinedRowsKeepTheRest) :
    ∃ t, exec .fltPop ⟨up, [.bypass]⟩ = .next t ∧ t.dev = { up with faults := t.dev.faults } ∧ t.pending = [.bypass] :=
  ⟨_, rfl, h .fltPop ⟨up, [.bypass]⟩ _ _ rfl rfl⟩

/-- Set 63 with a byte in its last word and its last two words poisoned. -/
def edgeSet : Dev := { up with sets := [(63, { mem := [(0x7FFFF, 9)], poison := [0xFFFE, 0xFFFF] })] }

theorem witness_SetMemoryReadsWhatWasWritten (h : Obligations.SetMemoryReadsWhatWasWritten) :
    (edgeSet.memWrite 63 0x7FFF7 [1, 2, 3, 4, 5, 6, 7, 8, 0]).memRead 63 0x7FFF7 9 = [1, 2, 3, 4, 5, 6, 7, 8, 0] ∧
    ((edgeSet.memWrite 63 0x7FFF7 [1, 2, 3, 4, 5, 6, 7, 8, 0]).set 63).poison = [0xFFFE] ∧
    ((edgeSet.memWrite 63 0x7FFF7 [1, 2, 3, 4, 5, 6, 7, 8, 0]).set 63).mem.length = 8 :=
  ⟨(h edgeSet 63 0x7FFF7 [1, 2, 3, 4, 5, 6, 7, 8, 0] (by decide +kernel) (by decide +kernel)).1, by decide +kernel, by decide +kernel⟩

/-! ### Ill-formed commands, refused by the check -/

theorem test_wellFormed_refuses_interface : Instr.wellFormed (.linkUp 48) = false ∧ Instr.wellFormed (.linkUp 63) = false ∧
    Instr.wellFormed (.linkUp 95) = true := by decide

theorem test_wellFormed_refuses_brick : Instr.wellFormed (.brickSweepVisit 0 668672 none) = false ∧
    Instr.wellFormed (.brickSweepVisit 0 668671 none) = true := by decide

theorem test_wellFormed_refuses_fjarair : Instr.wellFormed (.ackFrame ⟨2, 0, 0, 7, .ack, true⟩) = false ∧
    Instr.wellFormed (.ackFrame ⟨1, 0, 0, 8, .ack, true⟩) = false ∧ Instr.wellFormed (.ackFrame ⟨1, 0, 0, 7, .nak, true⟩) = false ∧
    Instr.wellFormed (.syncStart ⟨1, 0, 0, 7, .data [.syncDone], true⟩) = false ∧
    Instr.wellFormed (.syncStart ⟨1, 0, 0, 7, .data [.syncStart], true⟩) = true := by decide

theorem test_wellFormed_refuses_debug_lengths : Instr.wellFormed (.debugWrite 0 0 [] true) = false ∧
    Instr.wellFormed (.debugWrite 0 0 (List.replicate 257 0) true) = false ∧ Instr.wellFormed (.debugUnlock 1 [] true) = false := by
  decide +kernel

/-! ### Values that the manual or a published standard works out -/

/-- The check values that the catalogues of CRCs give for CRC-32C and CRC-32: those of the ASCII digits 1 to 9. -/
theorem test_crc_check_values : crc32c [0x31, 0x32, 0x33, 0x34, 0x35, 0x36, 0x37, 0x38, 0x39] = 0xE3069283 ∧
    fcs [0x31, 0x32, 0x33, 0x34, 0x35, 0x36, 0x37, 0x38, 0x39] = leBytes 4 0xCBF43926 := by decide +kernel

/-- FIPS 180-4's example for SHA-384: the message abc. -/
theorem test_sha384_abc : ofBE (sha384 [0x61, 0x62, 0x63]) =
    0xcb00753f45a35e8bb5a03d699ac65007272c32ab0eded1631a8b605a43ff5bed8086072ba1e7cc2358baeca134c825a7 := by decide +kernel

/-- Chapter 4's VXLAN example: the outer IPv4 header's checksum is 0x22D1. -/
theorem test_vxlan_ip_checksum :
    ipv4CsumOk [0x45, 0, 0x04, 0x0C, 0, 0, 0x40, 0, 0x40, 0x11, 0x22, 0xD1, 0x0A, 1, 0, 5, 0x0A, 2, 0, 9] 0 20 = true ∧
    ipv4CsumOk [0x45, 0, 0x04, 0x0C, 0, 0, 0x40, 0, 0x40, 0x11, 0x22, 0xD2, 0x0A, 1, 0, 5, 0x0A, 2, 0, 9] 0 20 = false := by
  decide +kernel

/-- R101's arithmetic: the word of a frame with a C-tag removed at offset 12 is that of the shorter frame. -/
theorem test_patch_remove :
    let a : List Byte := [1, 2, 3, 4, 5, 6, 7, 8, 9, 10, 11, 12]
    let b : List Byte := [0x81, 0, 0, 100]
    let c : List Byte := [8, 0, 42, 43, 44]
    patchWord (crc32c (a ++ b ++ c)) 21 17 ((crcShift (crcRaw (a ++ b)) 5 ^^^ crcShift (crcRaw a) 5)) = crc32c (a ++ c) := by
  decide +kernel

/-- Chapter 2's example of five minutes of Dormant, its load edge. -/
theorem test_wake_after_five_minutes :
    let d : Dev := { up with
      power := { backStep := 3 },
      time := { running := false, snapshot := some ⟨(1000000 * 1000000000 + 999990000) * 2 ^ 24, 0, .locked, 0, 5000000⟩ } }
    let t := (d.wakeLoad 14830401).time
    t.wall = (1000301 * 1000000000 + 20517) * 2 ^ 24 + 0x940000 ∧ t.boundEntry = 6000001 ∧ t.st = .coasted ∧
    t.mono = (300000030517 * 2 ^ 24 + 0x940000) := by decide +kernel

/-- A node by its fields, with one transition at most. -/
def aNode (id layer tag mode shift off sb w add kind exact_ lenOff tOff tW value next dflt : Nat) : List Nat :=
  [layer * 2 ^ 23 + tag * 2 ^ 22, mode * 2 ^ 30 + shift * 2 ^ 28 + off * 2 ^ 21 + sb * 2 ^ 18 + w * 2 ^ 13 + add * 2 ^ 4,
   511 * 2 ^ 14 + kind * 2 ^ 12 + exact_ * 2 ^ 11 + lenOff * 2 ^ 4, tOff * 2 ^ 25 + tW * 2 ^ 17 + dflt, value * 2 ^ 16 + 0xFFFF]
  ++ List.replicate 7 0 ++ [if next = 0 then 0 else 2 ^ 15 + next] ++ List.replicate 18 0 ++ [id]

/-- The nodes of chapter 5's example. -/
def geneveGraph : Graph :=
  { hdr := [1001 * 2 ^ 10, 0, 0x1000, 0, 0, 0, 0, 0],
    nodes := [aNode 0 1 0 0 0 0 0 0 14 0 0 0 12 16 0x86DD 3 1000, [], [], aNode 3 2 0 0 0 0 0 0 40 2 0 4 6 8 17 4 1000,
        aNode 4 3 0 0 0 0 0 0 8 1 1 4 2 16 6081 5 1000, aNode 5 4 0 1 2 0 2 6 8 0 0 0 2 16 0x6558 6 1000,
        aNode 6 1 0 0 0 0 0 0 14 0 0 0 12 16 0x8100 7 1000, aNode 7 0 1 0 0 0 0 0 4 0 0 0 2 16 0x0800 8 1000,
        aNode 8 2 0 1 2 0 4 4 0 1 0 2 9 8 6 9 1000, aNode 9 3 0 1 2 12 0 4 0 0 0 0 0 0 0 0 1000]
      ++ List.replicate 990 [] ++ [2 ^ 30 :: List.replicate 30 0 ++ [1000]] }

/-- Its frame, with a given total length in the inner IPv4 header. -/
def geneveFrame (total : Nat) : List Byte :=
  List.replicate 12 0 ++ [0x86, 0xDD] ++ [0x60, 0, 0, 0] ++ beBytes 2 1094 ++ [17, 64] ++ List.replicate 32 0
  ++ [0, 0] ++ beBytes 2 6081 ++ beBytes 2 1094 ++ [0, 0] ++ [2, 0, 0x65, 0x58, 0, 0, 0, 0] ++ List.replicate 8 0
  ++ List.replicate 12 0 ++ [0x81, 0] ++ [0, 5, 8, 0] ++ [0x45, 0] ++ beBytes 2 total ++ [0, 0, 0, 0, 64, 6] ++ List.replicate 10 0
  ++ List.replicate 12 0 ++ [0x80] ++ List.replicate 1019 0

theorem test_geneve_walk :
    let p := parseFrom geneveGraph 24 (geneveFrame 1052) 0 none
    (geneveFrame 1052).length = 1148 ∧ p.lev0 = ⟨some 0, some 14, some 54, 0⟩ ∧ p.lev1 = ⟨some 78, some 96, some 116, 1⟩ ∧
    p.tun0 = some 62 ∧ p.level = 1 ∧ p.depth = 8 ∧ p.parseEnd = 148 ∧ p.bound = 1148 ∧ p.endNode = 1000 ∧
    p.trunc = none ∧ p.lenconf = none ∧ p.short = false ∧ resolve geneveGraph p = .classify := by decide +kernel

/-- Its two variants: a longer inner length claim, and a depth limit of 6. -/
theorem test_geneve_variants :
    let p := parseFrom geneveGraph 24 (geneveFrame 1060) 0 none
    let q := parseFrom geneveGraph 6 (geneveFrame 1052) 0 none
    p.lenconf = some 0 ∧ p.lev1.l3 = none ∧ p.depth = 6 ∧ p.parseEnd = 96 ∧ resolve geneveGraph p = .drop 0x12 ∧
    q.trunc = some 0 ∧ q.depth = 6 ∧ q.parseEnd = 96 ∧ resolve geneveGraph q = .classify := by decide +kernel

/-- Chapter 6's group: LB21 unit 300 is the stronger of the matches at equal priority, by its address. -/
theorem test_stronger_match :
    let m (lb u p : Nat) : Dev.BankMatch := ⟨lb, u, { width := 1, prio := p, key := [], mask := [] }, false, false⟩
    (m 20 1900 20).addr = 42860 ∧ (m 21 300 10).addr = 0xA92C ∧ (m 22 8 5).addr = 45064 ∧ (m 23 12 10).addr = 0xB80C ∧
    Dev.stronger (m 21 300 10) (m 23 12 10) = true ∧ Dev.stronger (m 23 12 10) (m 21 300 10) = false ∧
    Dev.stronger (m 20 1900 20) (m 21 300 10) = false := by decide +kernel

/-- Chapter 17's EPOCH_STAGE through mailbox 2, steps 2 to 4: the response header. The handles hold REEL tiles. -/
theorem test_epoch_stage_response :
    let d : Dev := { ((up.setReg 0x50018 0x40000000).setReg 0x15004 0xC) with
      epochs := { curTag := 1, slot0 := { num := 0x40 }, slot1 := { num := 0x41 } },
      tiles := [(21, { aTile with st := 1, sealing := false }), (22, { aTile with st := 1, sealing := false, scope := 0x5E })],
      mbxs := [(2, { st := 1, door := 0x60, count := 6, req := [(0, 0x03050060), (1, 8), (16, 0x00410002), (17, 0x00150016)] })] }
    let e := d.takeAs 2 0x0305 false cmdEpochStage
    (e.mbx 2).st = 3 ∧ ((e.mbx 2).rsp.take 5) = [0x03050060, 0x10, 0, 0, 0x40000007] ∧ e.epochs.pend = 1 ∧ e.epochs.listed = [21, 22] := by
  decide +kernel

/-- Chapter 20's example: 0x5015 of course C05 is decided MAJOR, CONTAIN, and its source is FAULTED. -/
theorem test_course_contained :
    let d := (erring 0x3005 0x5015 {}).decideErr (waiting 0x3005 0x5015) []
    (d.srcOf 0x3005).state = 1 ∧
    (d.faults.queue.map fun r => (r.seq, r.code, r.sev)) = [(1, 0x5015, 2)] ∧
    (d.faults.queue.map fun r => (r.react, r.srcState, r.src)) = [(1, 1, 0x3005)] := by decide +kernel

/-- R682: IDCODE shifts out the identification register. -/
theorem test_idcode : (match exec .idcode (at_ {}) with | .next t => t.dev.out | _ => []) = [.tdo 0x1480014F] := by decide

end Sys2Proof.Machine
end

section
/-! SUPPORT. The proofs about the time island's registers and steps (O17, O18): bits of a word, writes of TIM_CTRL field by field,
what leaves the island alone, refused steps, lock and discipline. -/

namespace Sys2Proof.Proofs.TimeAndSpeed

open Sys2Proof Sys2Proof.Machine

/-! ### Bits of a word -/

theorem testBit_bits (n hi lo i : Nat) : (bits n hi lo).testBit i = (decide (i < hi + 1 - lo) && n.testBit (lo + i)) := by
  simp [bits, Nat.testBit_mod_two_pow, Nat.testBit_shiftRight]

theorem bits_congr {n m hi lo : Nat} (h : ∀ i, lo ≤ i → i ≤ hi → n.testBit i = m.testBit i) : bits n hi lo = bits m hi lo := by
  refine Nat.eq_of_testBit_eq fun i => ?_
  rw [testBit_bits, testBit_bits]
  by_cases hi' : i < hi + 1 - lo
  · rw [h (lo + i) (by omega) (by omega)]
  · simp [hi']

/-- A replaced field stands between the bits below it and the bits above it. -/
theorem withBits_eq (n hi lo v : Nat) :
    withBits n hi lo v = 2 ^ lo * (2 ^ (hi + 1 - lo) * (n / 2 ^ lo / 2 ^ (hi + 1 - lo)) + v % 2 ^ (hi + 1 - lo)) + n % 2 ^ lo := by
  generalize hw : hi + 1 - lo = w
  have hlow := Nat.div_add_mod n (2 ^ lo)
  have hmid := congrArg (2 ^ lo * ·) (Nat.div_add_mod (n / 2 ^ lo) (2 ^ w))
  simp only [Nat.mul_add] at hmid
  simp only [withBits, bits, hw, Nat.shiftLeft_eq, Nat.shiftRight_eq_div_pow, Nat.mul_add, Nat.mul_comm _ (2 ^ lo)]
  omega

theorem testBit_withBits (n hi lo v i : Nat) :
    (withBits n hi lo v).testBit i = if lo ≤ i ∧ i ≤ hi then v.testBit (i - lo) else n.testBit i := by
  rw [withBits_eq, Nat.testBit_two_pow_mul_add _ (Nat.mod_lt _ (Nat.two_pow_pos _)),
    Nat.testBit_two_pow_mul_add _ (Nat.mod_lt _ (Nat.two_pow_pos _))]
  by_cases hlo : i < lo
  · simp [hlo, Nat.testBit_mod_two_pow, Nat.not_le.mpr hlo]
  · by_cases hhi : i ≤ hi
    · have hin : i - lo < hi + 1 - lo := by omega
      simp [hlo, hhi, hin, Nat.testBit_mod_two_pow, Nat.not_lt.mp hlo]
    · have hout : ¬ i - lo < hi + 1 - lo := by omega
      rw [if_neg hlo, if_neg hout, if_neg (by omega), Nat.testBit_div_two_pow, Nat.testBit_div_two_pow]
      congr 1
      omega

theorem bits_withBits_self (n hi lo v : Nat) : bits (withBits n hi lo v) hi lo = v % 2 ^ (hi + 1 - lo) := by
  refine Nat.eq_of_testBit_eq fun i => ?_
  rw [testBit_bits, Nat.testBit_mod_two_pow, testBit_withBits]
  by_cases hi' : i < hi + 1 - lo
  · rw [if_pos (by omega), Nat.add_sub_cancel_left]
  · simp [hi']

theorem b2n_testBit_zero (n : Nat) : b2n (n.testBit 0) = n % 2 := by
  rw [Nat.testBit_zero]
  rcases Nat.mod_two_eq_zero_or_one n with h | h <;> simp [b2n, h]

/-! ### The register file -/

theorem sorted_regs_of_canonical {d : Dev} (hc : d.Canonical) : Map.sorted d.regs = true := by
  have h := hc.regs
  simp only [Dev.regsCanonical, Bool.and_eq_true] at h
  exact h.1

theorem sorted_regs_setReg {d : Dev} (a v : Nat) (hs : Map.sorted d.regs = true) : Map.sorted (d.setReg a v).regs = true :=
  Map.sorted_putD a _ _ hs

theorem sorted_regs_setFld {d : Dev} (a hi lo v : Nat) (hs : Map.sorted d.regs = true) :
    Map.sorted (d.setFld a hi lo v).regs = true := sorted_regs_setReg a _ hs

/-- `Dev.reg_setReg_self` without its case on the reset value, where that value is a word. -/
theorem reg_setReg_word {d : Dev} {a : Nat} (v : Nat) (hs : Map.sorted d.regs = true) (hr : resetOf a < 2 ^ 32) :
    (d.setReg a v).reg a = v % 2 ^ 32 := by
  rw [Dev.reg_setReg_self d a v hs]
  split
  · next h =>
    have h := congrArg BitVec.toNat h
    simp only [BitVec.toNat_ofNat, Nat.mod_eq_of_lt hr] at h
    exact h.symm
  · rfl

/-- A field written within a word: its bits are the value's, and the other bits stay. -/
theorem flag_setFld {d : Dev} {a hi : Nat} (lo v : Nat) {i : Nat} (hs : Map.sorted d.regs = true) (hr : resetOf a < 2 ^ 32)
    (hi32 : i < 32) :
    (d.setFld a hi lo v).flag a i = if lo ≤ i ∧ i ≤ hi then v.testBit (i - lo) else d.flag a i := by
  simp only [Dev.flag, Dev.setFld, reg_setReg_word _ hs hr, Nat.testBit_mod_two_pow, hi32, decide_true, Bool.true_and,
    testBit_withBits]

/-! ### Writes of a register whose fields all take what is written -/

/-- A read and write field of class NOW without limits. -/
def takesAll (f : Field) : Bool := f.acc == .rw && f.cls == .now && f.min == 0 && f.max == none

theorem fieldWrite_of_takesAll (d : Dev) (a : Nat) (idle : Bool) (v : Nat) {f : Field} (hf : takesAll f = true) :
    d.fieldWrite a idle v f = d.setFld a f.hi f.lo (bits v f.hi f.lo) := by
  simp only [takesAll, Bool.and_eq_true, beq_iff_eq] at hf
  obtain ⟨⟨⟨hacc, hcls⟩, hmin⟩, hmax⟩ := hf
  simp [Dev.fieldWrite, Field.limit, Field.of, hacc, hcls, hmin, hmax]

section
variable {d : Dev} {a : Nat} {idle : Bool} {v : Nat} {fs : List Field}

/-- Such fields written one after another change the register file alone. -/
theorem fieldWrites_frame (hfs : ∀ f ∈ fs, takesAll f = true) :
    fs.foldl (fun d f => d.fieldWrite a idle v f) d =
      { d with regs := (fs.foldl (fun d f => d.fieldWrite a idle v f) d).regs } := by
  induction fs generalizing d with
  | nil => rfl
  | cons f fs ih =>
    simp only [List.forall_mem_cons] at hfs
    rw [List.foldl_cons, fieldWrite_of_takesAll d a idle v hfs.1, ih hfs.2]
    rfl

theorem fieldWrites_sorted (hfs : ∀ f ∈ fs, takesAll f = true) (hs : Map.sorted d.regs = true) :
    Map.sorted (fs.foldl (fun d f => d.fieldWrite a idle v f) d).regs = true := by
  induction fs generalizing d with
  | nil => exact hs
  | cons f fs ih =>
    simp only [List.forall_mem_cons] at hfs
    rw [List.foldl_cons, fieldWrite_of_takesAll d a idle v hfs.1]
    exact ih hfs.2 (sorted_regs_setFld _ _ _ _ hs)

/-- A bit of the register is the written word's where a field holds it, and stays elsewhere. -/
theorem fieldWrites_flag (hfs : ∀ f ∈ fs, takesAll f = true) (hs : Map.sorted d.regs = true) (hr : resetOf a < 2 ^ 32)
    {i : Nat} (hi : i < 32) :
    (fs.foldl (fun d f => d.fieldWrite a idle v f) d).flag a i =
      if fs.any (fun f => f.lo ≤ i && i ≤ f.hi) then v.testBit i else d.flag a i := by
  induction fs generalizing d with
  | nil => rfl
  | cons f fs ih =>
    simp only [List.forall_mem_cons] at hfs
    rw [List.foldl_cons, fieldWrite_of_takesAll d a idle v hfs.1, ih hfs.2 (sorted_regs_setFld _ _ _ _ hs), flag_setFld _ _ hs hr hi,
      List.any_cons, testBit_bits]
    by_cases hf : f.lo ≤ i ∧ i ≤ f.hi
    · have hin : i - f.lo < f.hi + 1 - f.lo := by omega
      simp [hf, hin]
    · simp [hf]

end

/-! ### TIM_CTRL -/

/-- The fields of TIM_CTRL (R46, R50, R51). -/
def ctrlFields : List Field := [rw 19 16 3, rw 15 8 100, rw 7 7, rw 6 6, rw 5 4, rw 2 2 1, rw 0 0]

theorem reg?_ctrl : reg? 0x40000 = some ⟨"TIM_CTRL", 0, 1, 4, ctrlFields⟩ := by decide +kernel

theorem ctrlFields_takeAll : ∀ f ∈ ctrlFields, takesAll f = true := by decide

theorem resetOf_ctrl_lt : resetOf 0x40000 < 2 ^ 32 := by decide +kernel

theorem plainWrite_ctrl (d : Dev) (v : Nat) :
    d.plainWrite 0x40000 v = ctrlFields.foldl (fun e f => e.fieldWrite 0x40000 (d.blockIdle 0x40000) v f) d := by
  simp only [Dev.plainWrite, reg?_ctrl]


/-- A write of TIM_CTRL stores its fields in the register file alone. -/
theorem plainWrite_ctrl_frame (d : Dev) (v : Nat) :
    d.plainWrite 0x40000 v = { d with regs := (d.plainWrite 0x40000 v).regs } := by
  rw [plainWrite_ctrl]
  exact fieldWrites_frame ctrlFields_takeAll

theorem plainWrite_ctrl_sorted {d : Dev} (v : Nat) (hs : Map.sorted d.regs = true) :
    Map.sorted (d.plainWrite 0x40000 v).regs = true := by
  rw [plainWrite_ctrl]
  exact fieldWrites_sorted ctrlFields_takeAll hs

theorem plainWrite_ctrl_time (d : Dev) (v : Nat) : (d.plainWrite 0x40000 v).time = d.time :=
  (congrArg Dev.time (plainWrite_ctrl_frame d v)).trans rfl

theorem flag_plainWrite_ctrl {d : Dev} (v i : Nat) (hs : Map.sorted d.regs = true) (hi : i < 32)
    (hf : ctrlFields.any (fun f => f.lo ≤ i && i ≤ f.hi) = true) : (d.plainWrite 0x40000 v).flag 0x40000 i = v.testBit i := by
  rw [plainWrite_ctrl, fieldWrites_flag ctrlFields_takeAll hs resetOf_ctrl_lt hi, if_pos hf]

/-- DISC after a write of TIM_CTRL. -/
theorem disc_plainWrite_ctrl {d : Dev} (v : Nat) (hs : Map.sorted d.regs = true) :
    (d.plainWrite 0x40000 v).disc = bits v 5 4 := by
  refine bits_congr fun i h4 h5 => ?_
  have hf : ctrlFields.any (fun f => f.lo ≤ i && i ≤ f.hi) = true := by
    obtain rfl | rfl : i = 4 ∨ i = 5 := by omega
    · decide
    · decide
  exact flag_plainWrite_ctrl v i hs (by omega) hf

/-! ### What leaves the time island alone -/

/-- The time island is the same in both blocks: its state and the registers of its block; and the register file keeps its order. -/
structure KeepsIsland (d e : Dev) : Prop where
  time   : e.time = d.time
  sorted : Map.sorted d.regs = true → Map.sorted e.regs = true
  reg    : Map.sorted d.regs = true → ∀ a, 0x40000 ≤ a → a < 0x50000 → e.reg a = d.reg a

namespace KeepsIsland

theorem of_eq {d e : Dev} (ht : e.time = d.time) (hr : e.regs = d.regs) : KeepsIsland d e :=
  ⟨ht, fun h => hr ▸ h, fun _ a _ _ => by simp only [Dev.reg, hr]⟩

theorem refl (d : Dev) : KeepsIsland d d := of_eq rfl rfl

theorem trans {d e f : Dev} (h : KeepsIsland d e) (h' : KeepsIsland e f) : KeepsIsland d f :=
  ⟨h'.time.trans h.time, fun hs => h'.sorted (h.sorted hs),
    fun hs a hlo hhi => (h'.reg (h.sorted hs) a hlo hhi).trans (h.reg hs a hlo hhi)⟩

theorem foldl {α : Type} {f : Dev → α → Dev} (hf : ∀ d x, KeepsIsland d (f d x)) (l : List α) (d : Dev) :
    KeepsIsland d (l.foldl f d) := by
  induction l generalizing d with
  | nil => exact refl d
  | cons x l ih => exact (hf d x).trans (ih _)

theorem setBit (d : Dev) {a : Nat} (i : Nat) (ha : a < 0x40000 ∨ 0x50000 ≤ a) : KeepsIsland d (d.setBit a i) :=
  ⟨rfl, sorted_regs_setFld _ _ _ _, fun hs b hlo hhi => Dev.reg_setReg_of_ne d _ (by omega) hs⟩

theorem signal (d : Dev) (v : Nat) : KeepsIsland d (d.signal v) := by
  rw [Dev.signal_frame]
  exact of_eq rfl rfl

theorem sumBit (d : Dev) (i : Nat) : KeepsIsland d (d.sumBit i) := by
  have hbit : KeepsIsland d (d.setBit 0x204 i) := setBit d i (.inl (by omega))
  unfold Dev.sumBit
  split
  · exact hbit.trans (signal _ _)
  · exact hbit

theorem event (d : Dev) {a : Nat} (i : Nat) (ha : a < 0x40000 ∨ 0x50000 ≤ a) : KeepsIsland d (d.event a i) := by
  have hbit : KeepsIsland d (d.setBit a i) := setBit d i ha
  unfold Dev.event
  split
  · exact hbit
  · exact hbit.trans (sumBit _ _)

/-- The events of an interface's scheduler lie outside the time island. -/
theorem modeEvents (d : Dev) (i a : Nat) : KeepsIsland d (d.modeEvents i a) := by
  have ha : schBase i + 0x30C < 0x40000 ∨ 0x50000 ≤ schBase i + 0x30C := .inr (by simp only [schBase]; omega)
  unfold Dev.modeEvents
  dsimp only
  split
  · exact event d 2 ha
  · split
    · exact event d 3 ha
    · exact refl d

theorem forgetHeld (d : Dev) (i : Nat) : KeepsIsland d (d.forgetHeld i) := by
  refine foldl (fun d q => ?_) _ d
  split
  · exact of_eq rfl rfl
  · exact refl d

theorem sleepClasses (d : Dev) (i mask : Nat) : KeepsIsland d (d.sleepClasses i mask) :=
  foldl (f := fun d q => d.setQueue q fun x => { x with awake := false }) (fun _ _ => of_eq rfl rfl) _ d

theorem setReels (d : Dev) (i : Nat) (f : ReelPort → ReelPort) : KeepsIsland d (d.setReels i f) := of_eq rfl rfl

/-- What the reels make of a changed TIM_STATE does not come back to the island. -/
theorem noteModes (d old : Dev) : KeepsIsland d (d.noteModes old) := by
  refine foldl (fun d i => ?_) _ d
  dsimp only
  split
  · exact refl d
  · have hheld := (modeEvents d i (old.reelMode i)).trans (forgetHeld _ i)
    exact (hheld.trans (setReels _ i _)).trans (sleepClasses _ i _)

/-- An error that finds no memory word uncorrectable changes no register of the island. -/
theorem raise (d : Dev) {src code : Nat} (detail : List Nat) (hm : Dev.memOf src code = none) :
    KeepsIsland d (d.raise src code detail) := by
  unfold Dev.raise Dev.raiseAs
  dsimp only
  rw [hm]
  dsimp only
  split
  · refine trans ?_ (sumBit _ 1)
    exact of_eq rfl rfl
  · exact of_eq rfl rfl

end KeepsIsland

/-! ### Errors -/

theorem faults_sumBit (d : Dev) (i : Nat) : (d.sumBit i).faults = d.faults := by rw [Dev.sumBit_frame]

/-- A list of held errors into which one is merged, or to which it is added, holds one of its source and code. -/
theorem exists_held_of_merge {old : List Pend} {held : Pend} {same : Pend → Bool} {count : Pend → Pend} {src code : Nat}
    (hheld : held.src = src ∧ held.code = code)
    (hsame : ∀ p, same p = true → (count p).src = src ∧ (count p).code = code) :
    ∃ p ∈ (if old.any same then old.map fun p => if same p then count p else p else old ++ [held]),
      p.src = src ∧ p.code = code := by
  split
  · next h =>
    obtain ⟨p, hp, hs⟩ := List.any_eq_true.mp h
    exact ⟨count p, List.mem_map.mpr ⟨p, hp, if_pos hs⟩, hsame p hs⟩
  · exact ⟨held, by simp, hheld⟩

/-- An error raised waits in its source's local error register, merged or on its own. -/
theorem raised_raise (d : Dev) (src code : Nat) (detail : List Nat) : (d.raise src code detail).Raised src code := by
  have hmerge := fun (held : Pend) (hheld : held.src = src ∧ held.code = code) =>
    exists_held_of_merge (old := d.faults.pend) (same := fun p => p.src == src && p.code == code && p.injected == false)
      (count := fun p => { p with coalesced := satAdd 6 p.coalesced 1 }) hheld
      (fun p hp => by
        simp only [Bool.and_eq_true, beq_iff_eq] at hp
        exact hp.1)
  unfold Dev.Raised Dev.raise Dev.raiseAs
  dsimp only
  split
  · rw [faults_sumBit]
    split <;> exact hmerge _ ⟨rfl, rfl⟩
  · split <;> exact hmerge _ ⟨rfl, rfl⟩

/-! ### Commands of the host on the island's registers -/

/-- A host's command completes with what its function makes of the block, while BAR0 is enabled. -/
theorem completes_of_host {c : Instr} {s : State} {f : Dev → Dev} {post : Dev → Prop} (hc : exec c s = s.host f)
    (hb : s.dev.bar0 = true) (hp : post (f s.dev)) : Completes c s post :=
  ⟨f s.dev, by rw [hc, State.host, State.act, if_pos hb], hp⟩

/-- The island lies in no domain that can be off, so a write of one of its registers is the island's to take. -/
theorem rowWrite_island (d : Dev) {a : Nat} (v : Nat) (hlo : 0x40000 ≤ a) (hhi : a < 0x50000) (h4 : a % 4 = 0)
    (hr : (reg? a).isSome = true) : d.rowWrite a v = d.timRegWrite a v := by
  have hon : d.unpowered a = false := by simp [Dev.unpowered, Dev.domOfAddr, show a < 0x100000 by omega]
  have ha : a / 4 * 4 = a := by omega
  have hsome : (reg? a).isNone = false := by simpa using hr
  simp [Dev.rowWrite, Dev.hostWrite, Dev.wordWrite, hon, ha, hsome, hlo, hhi, show ¬ a < 0x20000 by omega,
    show ¬ a < 0x30000 by omega, show ¬ a < 0x38000 by omega]

theorem host_rowWrite_island (s : State) {a : Nat} (v : Nat) (hlo : 0x40000 ≤ a) (hhi : a < 0x50000) (h4 : a % 4 = 0)
    (hr : (reg? a).isSome = true) : s.host (·.rowWrite a v) = s.host (·.timRegWrite a v) :=
  congrArg s.host (funext fun d => rowWrite_island d v hlo hhi h4 hr)

theorem toSigned_toNat (v : BitVec 32) : toSigned 32 v.toNat = v.toInt := by simp [toSigned]

theorem exec_timStepWrite (v : BitVec 32) (s : State) : exec (.timStepWrite v) s = s.host (·.askStep v.toInt) := by
  rw [← toSigned_toNat]
  exact host_rowWrite_island s v.toNat (by omega) (by omega) (by omega) (by decide +kernel)

theorem exec_timAdjWrite (v : BitVec 32) (s : State) : exec (.timAdjWrite v) s = s.host (·.writeAdj v.toInt) := by
  rw [← toSigned_toNat]
  exact host_rowWrite_island s v.toNat (by omega) (by omega) (by omega) (by decide +kernel)

theorem exec_timServoWrite (v : BitVec 32) (s : State) : exec (.timServoWrite v) s = s.host (·.servo v.toInt) := by
  rw [← toSigned_toNat]
  exact host_rowWrite_island s v.toNat (by omega) (by omega) (by omega) (by decide +kernel)

/-- A field of TIM_CTRL written, with the values of its other fields carried. -/
theorem withField_ctrl (d : Dev) (hi lo x : Nat) :
    d.withField 0x40000 hi lo x =
      (d.plainWrite 0x40000 (withBits (d.reg 0x40000) hi lo x)).timCtrlWritten (d.reg 0x40000) := by
  rw [Dev.withField, rowWrite_island d _ (by omega) (by omega) (by omega) (by decide +kernel)]
  rfl

/-! ### Steps (R45) -/

theorem resetOf_status_lt : resetOf 0x40004 < 2 ^ 32 := by decide +kernel

theorem rejectStep_raised (d : Dev) : d.rejectStep.Raised 0xB000 0xB005 := raised_raise _ _ _ _

/-- After STEP_REJECT is set, nothing of a refusal touches the island. -/
theorem rejectStep_keepsIsland (d : Dev) : KeepsIsland (d.setBit 0x40004 5) d.rejectStep :=
  (KeepsIsland.sumBit _ 1).trans (KeepsIsland.raise _ [] rfl)

theorem rejectStep_flag {d : Dev} (hs : Map.sorted d.regs = true) : d.rejectStep.flag 0x40004 5 = true := by
  have hkeep := (rejectStep_keepsIsland d).reg (sorted_regs_setFld _ _ _ _ hs) 0x40004 (by omega) (by omega)
  rw [Dev.flag, hkeep]
  exact (flag_setFld 5 1 hs resetOf_status_lt (by omega)).trans rfl

theorem rejectStep_time (d : Dev) : d.rejectStep.time = d.time := (rejectStep_keepsIsland d).time

theorem rejectStep_result {d : Dev} (hc : d.Canonical) :
    d.rejectStep.flag 0x40004 5 = true ∧ d.rejectStep.Raised 0xB000 0xB005 ∧ d.rejectStep.time = d.time :=
  ⟨rejectStep_flag (sorted_regs_of_canonical hc), rejectStep_raised d, rejectStep_time d⟩

/-- The wall view that the steps already asked for and one of `ns` more lead to, in units. -/
def steppedWall (d : Dev) (ns : Int) : Int :=
  d.time.steps.foldl (fun (w : Int) x => w + x * nsUnit) (d.time.wall : Int) + ns * nsUnit

/-- A step is out of range exactly where it would lead below 0 or beyond the last second. -/
theorem stepOk_eq_false {d : Dev} {ns : Int} (h : steppedWall d ns < 0 ∨ (wallSpan : Int) ≤ steppedWall d ns) : d.stepOk ns = false := by
  have hok : d.stepOk ns = (decide (0 ≤ steppedWall d ns) && decide (steppedWall d ns < wallSpan)) := rfl
  rw [hok, Bool.and_eq_false_iff, decide_eq_false_iff_not, decide_eq_false_iff_not]
  omega

theorem askStep_out_of_range {d : Dev} {ns : Int} (h : d.stepOk ns = false) : d.askStep ns = d.rejectStep := by
  simp [Dev.askStep, h]

theorem stepNow_out_of_range {d : Dev} {ns : Int} (h : d.stepOk ns = false) : d.stepNow ns = d.rejectStep := by
  simp [Dev.stepNow, h]

/-- A step in range waits for the next cycle; what DISC 3 counts toward a step of four is dropped (R47). -/
theorem askStep_in_range {d : Dev} {ns : Int} (h : d.stepOk ns = true) :
    d.askStep ns = d.setTime fun t => { t with steps := t.steps ++ [ns], four := if d.disc = 3 then [] else t.four } := by
  simp [Dev.askStep, h]

/-! ### TIM_ADJ (R46) -/

theorem resetOf_adj_lt : resetOf 0x40018 < 2 ^ 32 := by decide +kernel

theorem adj_setAdj {d : Dev} {a : Int} (hs : Map.sorted d.regs = true) (hlo : -2 ^ 31 ≤ a) (hhi : a < 2 ^ 31) : (d.setAdj a).adj = a := by
  have hw : (ofSigned 32 a) % 2 ^ 32 = ofSigned 32 a := Nat.mod_eq_of_lt (BitVec.isLt _)
  rw [Dev.adj, Dev.setAdj, reg_setReg_word _ hs resetOf_adj_lt, hw, ofSigned, toSigned_toNat]
  exact BitVec.toInt_ofInt_eq_self (by omega) hlo hhi

/-- A host's write of TIM_ADJ acts as the nearer limit of 500 ppm. -/
theorem adj_writeAdj {d : Dev} (v : Int) (hs : Map.sorted d.regs = true) : (d.writeAdj v).adj = clampInt (-adjLimit) adjLimit v := by
  have hrange : -2 ^ 31 ≤ clampInt (-adjLimit) adjLimit v ∧ clampInt (-adjLimit) adjLimit v < 2 ^ 31 := by
    simp only [clampInt, adjLimit]
    omega
  exact adj_setAdj hs hrange.1 hrange.2

/-! ### Locking and leaving LOCKED (R48) -/

theorem lock_time (d : Dev) : d.lock.time = { d.time with st := .locked } := by
  unfold Dev.lock
  split
  · next h => rw [← h]
  · exact (KeepsIsland.noteModes _ d).time

theorem toCoasted_keepsIsland (d : Dev) (bound : Nat) :
    KeepsIsland (d.setTime fun t => { t with st := .coasted, lockCount := 0, boundEntry := bound, boundAt := d.monoNs })
      (d.toCoasted bound) := KeepsIsland.noteModes _ d

/-- What DISC_WRITE starts anew, leaving LOCKED keeps at its start. -/
def Restarted (d : Dev) : Prop := d.time.lockCount = 0 ∧ d.time.outRun = 0 ∧ d.time.four = []

theorem unlock_restarted {d : Dev} (h : Restarted d) : Restarted d.unlock := by
  unfold Dev.unlock
  split
  · obtain ⟨-, hout, hfour⟩ := h
    rw [Restarted, (toCoasted_keepsIsland d 0).time]
    exact ⟨rfl, hout, hfour⟩
  · exact h

theorem reg_unlock {d : Dev} (hs : Map.sorted d.regs = true) {a : Nat} (hlo : 0x40000 ≤ a) (hhi : a < 0x50000) :
    d.unlock.reg a = d.reg a := by
  unfold Dev.unlock
  split
  · exact (toCoasted_keepsIsland d 0).reg hs a hlo hhi
  · rfl

/-! ### TIM_SERVO (R46) -/

theorem servo_ignored {d : Dev} (offset : Int) (h : d.disc = 0 ∨ d.disc = 2) : d.servo offset = d := by
  rcases h with h | h <;> simp [Dev.servo, h]

theorem servo_disc3 {d : Dev} (offset : Int) (h : d.disc = 3) : d.servo offset = d.update := by simp [Dev.servo, h]

theorem servo_disc1 {d : Dev} {offset : Int} (h : d.disc = 1) (hlo : -100 ≤ offset) (hhi : offset ≤ 100) :
    d.servo offset = d.update.countUpdate true 8 := by simp [Dev.servo, h, hlo, hhi]

/-- An update within the window counts one up, and locks once the count reaches `need`. -/
theorem countUpdate_inWindow_time (d : Dev) (need : Nat) :
    (d.countUpdate true need).time =
      { d.time with lockCount := satAdd 8 d.time.lockCount 1, outRun := 0,
                    st := if need ≤ satAdd 8 d.time.lockCount 1 then .locked else d.time.st } := by
  simp only [Dev.countUpdate, if_true]
  split
  · next h => rw [lock_time, if_pos (by exact h)]; rfl
  · next h => rw [if_neg (by exact h)]; rfl

/-! ### A write of TIM_CTRL (R46, R50) -/

/-- An unchanged REFSEL moves nothing but the takeover that is due. -/
theorem selectRef_unchanged (d : Dev) :
    d.selectRef false = d.setTime fun t => { t with takeover := (d.selectRef false).time.takeover } := by
  unfold Dev.selectRef
  dsimp only
  split
  · rfl
  · simp [Dev.setTime]

theorem selectRef_present {d : Dev} (changed : Bool) (h : d.refPresent (b2n (d.flag 0x40000 0)) = true) :
    d.selectRef changed =
      d.setTime fun t => { t with takeover := if t.active = b2n (d.flag 0x40000 0) then none else some (b2n (d.flag 0x40000 0)) } := by
  simp [Dev.selectRef, h]

theorem timCtrlWritten_sameDisc {d : Dev} {old : Nat} (h : bits old 5 4 = d.disc) :
    d.timCtrlWritten old = d.selectRef (old % 2 ≠ b2n (d.flag 0x40000 0)) := by
  simp only [Dev.timCtrlWritten, if_pos h]

/-- Another DISC restarts its counts, in a block that reads the same TIM_CTRL, before REFSEL is looked at. -/
theorem timCtrlWritten_newDisc {d : Dev} {old : Nat} (hs : Map.sorted d.regs = true) (h : bits old 5 4 ≠ d.disc) :
    ∃ e : Dev, d.timCtrlWritten old = e.selectRef (old % 2 ≠ b2n (e.flag 0x40000 0)) ∧ Restarted e ∧
      e.reg 0x40000 = d.reg 0x40000 := by
  unfold Dev.timCtrlWritten
  dsimp only
  rw [if_neg h]
  split
  · refine ⟨_, rfl, unlock_restarted ⟨rfl, rfl, rfl⟩, ?_⟩
    exact (reg_unlock (by exact hs) (by omega) (by omega)).trans rfl
  · exact ⟨_, rfl, ⟨rfl, rfl, rfl⟩, rfl⟩

/-- The same with REFSEL kept. -/
theorem timCtrlWritten_newDisc_only {d : Dev} {old : Nat} (hs : Map.sorted d.regs = true) (hd : bits old 5 4 ≠ d.disc)
    (hr : old % 2 = b2n (d.flag 0x40000 0)) :
    Restarted (d.timCtrlWritten old) ∧ (d.timCtrlWritten old).disc = d.disc := by
  obtain ⟨e, he, hrestart, hreg⟩ := timCtrlWritten_newDisc hs hd
  have hkept : decide (old % 2 ≠ b2n (e.flag 0x40000 0)) = false := by simp [hr, Dev.flag, hreg]
  rw [he, hkept, selectRef_unchanged]
  exact ⟨hrestart, congrArg (bits · 5 4) hreg⟩

/-- DISC alone written with another value. -/
theorem discWrite_result {d : Dev} (v : BitVec 2) (hs : Map.sorted d.regs = true) (hv : v.toNat ≠ d.disc) :
    Restarted (d.withField 0x40000 5 4 v.toNat) ∧ (d.withField 0x40000 5 4 v.toNat).disc = v.toNat := by
  rw [withField_ctrl]
  have hsorted := plainWrite_ctrl_sorted (withBits (d.reg 0x40000) 5 4 v.toNat) hs
  have hdisc := disc_plainWrite_ctrl (withBits (d.reg 0x40000) 5 4 v.toNat) hs
  rw [bits_withBits_self, Nat.mod_eq_of_lt v.isLt] at hdisc
  have hrefsel := flag_plainWrite_ctrl (withBits (d.reg 0x40000) 5 4 v.toNat) 0 hs (by omega) (by decide)
  rw [testBit_withBits, if_neg (by omega)] at hrefsel
  generalize d.plainWrite 0x40000 (withBits (d.reg 0x40000) 5 4 v.toNat) = e at hsorted hdisc hrefsel ⊢
  have hother : bits (d.reg 0x40000) 5 4 ≠ e.disc := by rw [hdisc]; exact hv.symm
  have h := timCtrlWritten_newDisc_only hsorted hother (by rw [hrefsel, b2n_testBit_zero])
  rwa [hdisc] at h

/-- REFSEL alone written, with a reference that is present. -/
theorem refselWrite_result {d : Dev} (v : BitVec 1) (hs : Map.sorted d.regs = true) (hp : d.refPresent v.toNat = true) :
    (d.withField 0x40000 0 0 v.toNat).flag 0x40000 0 = v.getLsbD 0 ∧
    (d.withField 0x40000 0 0 v.toNat).time =
      { d.time with takeover := if d.time.active = v.toNat then none else some v.toNat } := by
  rw [withField_ctrl]
  have htime := plainWrite_ctrl_time d (withBits (d.reg 0x40000) 0 0 v.toNat)
  have hflag := flag_plainWrite_ctrl (withBits (d.reg 0x40000) 0 0 v.toNat) 0 hs (by omega) (by decide)
  rw [testBit_withBits, if_pos (by omega)] at hflag
  have hdisc := disc_plainWrite_ctrl (withBits (d.reg 0x40000) 0 0 v.toNat) hs
  rw [bits_congr (m := d.reg 0x40000) fun i h4 h5 => by rw [testBit_withBits, if_neg (by omega)]] at hdisc
  generalize d.plainWrite 0x40000 (withBits (d.reg 0x40000) 0 0 v.toNat) = e at htime hflag hdisc ⊢
  have hsel : b2n (e.flag 0x40000 0) = v.toNat := by
    rw [hflag, b2n_testBit_zero]
    exact Nat.mod_eq_of_lt v.isLt
  have hpresent : e.refPresent v.toNat = true := by rwa [Dev.refPresent, htime]
  rw [timCtrlWritten_sameDisc hdisc.symm, selectRef_present _ (hsel.symm ▸ hpresent), hsel]
  refine ⟨hflag, ?_⟩
  rw [Dev.setTime, htime]

theorem exec_discWrite (v : BitVec 2) (s : State) : exec (.discWrite v) s = s.host (·.withField 0x40000 5 4 v.toNat) := rfl

theorem exec_refselWrite (v : BitVec 1) (s : State) : exec (.refselWrite v) s = s.host (·.withField 0x40000 0 0 v.toNat) := rfl

end Sys2Proof.Proofs.TimeAndSpeed
end

section
open Sys2Proof Sys2Proof.Machine Sys2Proof.Proofs.TimeAndSpeed

/-- Settles O17: either way of asking, a step out of range is refused, and the refusal keeps the island but for its flag. -/
theorem stepsOutOfRangeAreRefused : Obligations.StepsOutOfRangeAreRefused := by
  refine ⟨fun s v hc hb hw => ?_, fun d ns hc hw => ?_⟩
  · refine completes_of_host (exec_timStepWrite v s) hb ?_
    rw [askStep_out_of_range (stepOk_eq_false hw)]
    exact rejectStep_result hc
  · rw [stepNow_out_of_range (stepOk_eq_false hw)]
    exact rejectStep_result hc

/-- Settles O18, a register at a time. -/
theorem timeRegisterRows : Obligations.TimeRegisterRows := by
  refine ⟨fun s v hb hok => ?step, fun s v hc hb => ?adj, fun s v hb hd => ?ignored, fun s v hb hd => ?disc3,
    fun s v hb hd hlo hhi => ?disc1, fun s v hc hb hv => ?disc, fun s v hc hb hp => ?refsel⟩
  case step =>
    refine completes_of_host (exec_timStepWrite v s) hb ?_
    rw [askStep_in_range hok]
    exact ⟨rfl, rfl, rfl⟩
  case adj =>
    have hadj := adj_writeAdj v.toInt (sorted_regs_of_canonical hc)
    refine completes_of_host (exec_timAdjWrite v s) hb ⟨hadj, ?_, rfl⟩
    rw [hadj]
    rfl
  case ignored => exact completes_of_host (exec_timServoWrite v s) hb (servo_ignored _ hd)
  case disc3 => exact completes_of_host (exec_timServoWrite v s) hb (servo_disc3 _ hd)
  case disc1 =>
    refine completes_of_host (exec_timServoWrite v s) hb ?_
    rw [servo_disc1 hd hlo hhi, countUpdate_inWindow_time]
    refine ⟨rfl, rfl, fun h => if_pos ?_, fun h => if_neg ?_⟩
    · simp only [Dev.update, Dev.setTime, satAdd]; omega
    · simp only [Dev.update, Dev.setTime, satAdd]; omega
  case disc =>
    obtain ⟨⟨hlock, hout, hfour⟩, hdisc⟩ := discWrite_result v (sorted_regs_of_canonical hc) hv
    exact completes_of_host (exec_discWrite v s) hb ⟨hdisc, hlock, hout, hfour⟩
  case refsel =>
    obtain ⟨hflag, htime⟩ := refselWrite_result v (sorted_regs_of_canonical hc) hp
    refine completes_of_host (exec_refselWrite v s) hb ⟨hflag, ?_⟩
    rw [htime]
    exact ⟨rfl, rfl⟩

end

section
/-! SUPPORT. The proofs about automata scans and the windows of budget and mortar (O24): where a queued scan starts or is skipped, how a
running one ends, and what a window restarts. -/

namespace Sys2Proof.Proofs.ScansAndWindows

open Sys2Proof Sys2Proof.Machine

/-- A device's own command completes with what its function makes of the block. -/
theorem completes_of_act {c : Instr} {s : State} {f : Dev → Dev} {post : Dev → Prop} (hc : exec c s = s.act f)
    (hp : post (f s.dev)) : Completes c s post :=
  ⟨f s.dev, hc.trans (act_iff.mpr rfl), hp⟩

theorem exec_scanStart (u : Fin 16) (s : State) : exec (.scanStart u) s = s.act (·.scanStart u) := rfl

theorem exec_scanComplete (u : Fin 16) (i : Nat) (upset : ScanUpset) (fetches : Nat) (up : Upsets) (s : State) :
    exec (.scanComplete u i upset fetches up) s = s.act (·.scanComplete u i upset fetches up) := rfl

theorem exec_auBudgetWindow (u : Fin 16) (s : State) : exec (.auBudgetWindow u) s = s.act (·.auWindow u) := rfl

theorem exec_mortarWindowEnd (c : Fin 18) (s : State) : exec (.mortarWindowEnd c) s = s.act (·.mortarWindow c) := rfl

/-! ### Units -/

theorem au_setAu_self {d : Dev} (u : Nat) (f : Au → Au) (hs : Map.sorted d.aus = true) : (d.setAu u f).au u = f (d.au u) :=
  Map.getD_upd_self u _ f hs

theorem au_of_aus {d e : Dev} (h : e.aus = d.aus) (u : Nat) : e.au u = d.au u := by rw [Dev.au, Dev.au, h]

theorem streamGap_aus (d : Dev) (u : Nat) (look : Look) (restart : Bool) : (d.streamGap u look restart).aus = d.aus := by
  unfold Dev.streamGap
  split
  · rfl
  · split <;> rfl

/-- A TAP scan skipped is counted, and its stream marked; the units stay. -/
theorem tapSkip_aus (d : Dev) (u : Nat) (look : Look) : (d.tapSkip u look).aus = d.aus := streamGap_aus _ u look true

/-! ### The start of a scan (R170, R174) -/

section
variable {d : Dev} {u i : Nat} {x : Scan} (hserves : d.auServes u = true)
  (hfree : ((d.au u).queue.findIdx? fun y => !Dev.flowBusy (d.au u) y) = some i) (hx : (d.au u).queue[i]? = some x)
include hserves hfree hx

/-- The first scan whose flow is free starts where its budget is not spent: an INLINE scan has all of it, a TAP scan what INLINE scans
left of it in the window before. -/
theorem scanStart_of_spend_lt
    (hb : (d.au u).spend < (if x.inline then d.auBudget u else d.auBudget u - (d.au u).inlinePrev)) :
    d.scanStart u = d.setAu u fun a =>
      { a with queue := a.queue.eraseIdx i, running := a.running ++ [x], spend := a.spend + (x.stop - x.start),
               inlineNow := if x.inline then a.inlineNow + (x.stop - x.start) else a.inlineNow } := by
  cases hin : x.inline with
  | true =>
    have hb : ¬ d.auBudget u ≤ (d.au u).spend := by rwa [hin, ← Nat.not_le] at hb
    simp [Dev.scanStart, hserves, hfree, hx, hin, hb]
  | false =>
    have hb : ¬ d.auBudget u - (d.au u).inlinePrev ≤ (d.au u).spend := by rwa [hin, ← Nat.not_le] at hb
    simp [Dev.scanStart, hserves, hfree, hx, hin, hb]

/-- A TAP scan beyond the budget leaves the queue unscanned. -/
theorem scanStart_skips_tap (htap : x.inline = false) (hb : d.auBudget u - (d.au u).inlinePrev ≤ (d.au u).spend) :
    d.scanStart u = (d.setAu u fun a => { a with queue := a.queue.eraseIdx i }).tapSkip u x.pass.look := by
  simp [Dev.scanStart, hserves, hfree, hx, htap, hb]

end

/-! ### The end of a scan (R170, R171) -/

/-- The block once the scan at place `i` has left the running ones and the frees that waited for its flow are made. -/
def scanLeft (d : Dev) (u i : Nat) : Dev := (d.setAu u fun a => { a with running := a.running.eraseIdx i }).freesDue

theorem scanComplete_of_running {d : Dev} {u i : Nat} {x : Scan} (upset : ScanUpset) (fetches : Nat) (up : Upsets)
    (hx : (d.au u).running[i]? = some x) :
    d.scanComplete u i upset fetches up =
      let f := scanLeft (d.scanEnd u x upset fetches).1 u i
      let p := { x.pass with look := { x.pass.look with auto := (d.scanEnd u x upset fetches).2 } }
      if x.inline then f.finishPass p.desc.course p (f.passBytes p) up else f := by
  unfold Dev.scanComplete
  rw [hx]
  cases hin : x.inline <;> simp [scanLeft, hin]

/-! ### The windows (R107, R174) -/

/-- The unit after a window that ended at `now` with the budget `b`: what was spent beyond it is carried, and what INLINE scans took of
it limits TAP scans in the next. -/
def nextWindow (b now : Nat) (a : Au) : Au :=
  { a with spend := a.spend - b, inlinePrev := a.inlineNow, inlineNow := 0, window := now / 1000 * 1000,
           rateBytes := if now / 10000 ≠ a.window / 10000 then 0 else a.rateBytes }

/-- The blocks are the same but for their registers. -/
def RegsOnly (d e : Dev) : Prop := ∃ regs, e = { d with regs := regs }

theorem RegsOnly.refl (d : Dev) : RegsOnly d d := ⟨d.regs, rfl⟩

theorem RegsOnly.setFld {d e : Dev} (h : RegsOnly d e) (a hi lo v : Nat) : RegsOnly d (e.setFld a hi lo v) := by
  obtain ⟨regs, rfl⟩ := h
  exact ⟨_, rfl⟩

/-- Changes of a unit that agree on what it holds come to the same, whatever the registers. -/
theorem RegsOnly.setAu_congr {d e : Dev} {u : Nat} {f g : Au → Au} (h : RegsOnly d e) (hfg : f (d.au u) = g (d.au u)) :
    ∃ regs, e.setAu u f = { d with regs := regs }.setAu u g := by
  obtain ⟨regs, rfl⟩ := h
  refine ⟨regs, ?_⟩
  simp only [Dev.au] at hfg
  simp only [Dev.setAu, Map.upd, hfg]

theorem now_setFld (d : Dev) (a hi lo v : Nat) : (d.setFld a hi lo v).now = d.now := rfl

/-- Besides its unit, the end of a window touches registers alone. -/
theorem auWindow_ended {d : Dev} {u : Nat} (h : (d.au u).window + 1000 ≤ d.now) :
    ∃ regs, d.auWindow u = { d with regs := regs }.setAu u (nextWindow (d.auBudget u) d.now) := by
  have hover : ¬ d.now < (d.au u).window + 1000 := Nat.not_lt.mpr h
  have hstatus := fun tier grant limit => (((RegsOnly.refl d).setFld (Dev.auBase u + 4) 15 14 tier).setFld
    (Dev.auBase u + 4) 13 7 grant).setFld (Dev.auBase u + 4) 6 0 limit
  by_cases hfull : d.now / 10000 = (d.au u).window / 10000
  · simp only [Dev.auWindow, if_neg hover, now_setFld, hfull, ne_eq, not_true_eq_false, if_false]
    exact (hstatus _ _ _).setAu_congr (by simp [nextWindow, hfull])
  · simp only [Dev.auWindow, if_neg hover, now_setFld, hfull, ne_eq, not_false_eq_true, if_true]
    exact ((hstatus _ _ _).setFld _ _ _ _).setAu_congr (by simp [nextWindow, hfull])

theorem mortarWindow_restarts {d : Dev} {c : Nat} (h : d.now / 1000000000 ≠ (d.course c).missAt) :
    d.mortarWindow c = d.setCourse c fun s => { s with missWin := 0, missOut := false, missAt := d.now / 1000000000 } := by
  simp [Dev.mortarWindow, h]

end Sys2Proof.Proofs.ScansAndWindows
end

section
open Sys2Proof Sys2Proof.Machine Sys2Proof.Proofs.ScansAndWindows

/-- Settles O24, a command at a time. -/
theorem scansAndWindows : Obligations.ScansAndWindows := by
  refine ⟨fun s u i x hc hserves hfree hx => ⟨fun hb => ?start, fun htap hb => ?skip⟩,
    fun s u i x upset fetches up hx => ?complete, fun s u hc hw => ?budget, fun s c hc hw => ?mortar⟩
  case start =>
    refine completes_of_act (exec_scanStart u s) ?_
    rw [scanStart_of_spend_lt hserves hfree hx hb, au_setAu_self u _ hc.aus]
    exact ⟨rfl, rfl, rfl, rfl⟩
  case skip =>
    refine completes_of_act (exec_scanStart u s) ?_
    rw [scanStart_skips_tap hserves hfree hx htap hb, au_of_aus (tapSkip_aus _ _ _), au_setAu_self u _ hc.aus]
    exact ⟨rfl, rfl⟩
  case complete =>
    exact completes_of_act (exec_scanComplete u i upset fetches up s)
      ⟨_, _, rfl, scanComplete_of_running upset fetches up hx⟩
  case budget =>
    refine completes_of_act (exec_auBudgetWindow u s) ?_
    obtain ⟨regs, hwindow⟩ := auWindow_ended hw
    rw [hwindow, au_setAu_self (d := { s.dev with regs := regs }) u _ hc.aus]
    exact ⟨rfl, rfl, rfl, rfl, rfl⟩
  case mortar =>
    refine completes_of_act (exec_mortarWindowEnd c s) ?_
    rw [mortarWindow_restarts hw, Dev.course_setCourse_self _ _ _ hc.crs]
    exact ⟨rfl, rfl, rfl, rfl⟩

end

section
/-! SUPPORT. The proofs about an epoch's placement, commit and drain (O30). None of its statements asks that a sparse map be in canonical
form: what is listed in a map is read whatever the order of the other entries, and an event bit that hardware sets is listed. -/

namespace Sys2Proof.Proofs.EpochLife

open Sys2Proof Sys2Proof.Machine Sys2Proof.Proofs.TimeAndSpeed

/-! ### Listed entries of a map, in any order -/

section
variable {α : Type} {m : Map α} {q r : Nat} {w : α}

theorem get?_put_of_listed (v : α) (hne : r ≠ q) (h : Map.get? m r = some w) : Map.get? (Map.put m q v) r = some w := by
  induction m with
  | nil => simp [Map.get?] at h
  | cons e m ih =>
    obtain ⟨k, u⟩ := e
    simp only [Map.get?] at h
    simp only [Map.put]
    split
    · grind [Map.get?]
    · split
      · grind [Map.get?]
      · grind [Map.get?]

theorem get?_erase_of_listed (hne : r ≠ q) (h : Map.get? m r = some w) : Map.get? (Map.erase m q) r = some w := by
  induction m with
  | nil => simp [Map.get?] at h
  | cons e m ih =>
    obtain ⟨k, u⟩ := e
    simp only [Map.get?] at h
    simp only [Map.erase]
    split
    · grind
    · split
      · exact h
      · grind [Map.get?]

theorem get?_putD_of_listed [DecidableEq α] (d v : α) (hne : r ≠ q) (h : Map.get? m r = some w) :
    Map.get? (Map.putD m q d v) r = some w := by
  unfold Map.putD
  split
  · exact get?_erase_of_listed hne h
  · exact get?_put_of_listed v hne h

theorem get?_adjust (m : Map α) (q r : Nat) (f : α → α) :
    Map.get? (Map.adjust m q f) r = (Map.get? m r).map fun v => if r = q then f v else v := by
  induction m with
  | nil => rfl
  | cons e m ih =>
    obtain ⟨k, u⟩ := e
    simp only [Map.adjust] at ih
    simp only [Map.adjust, List.map_cons]
    by_cases hk : k = q
    · rw [if_pos hk]
      simp only [Map.get?, ih]
      grind
    · rw [if_neg hk]
      simp only [Map.get?, ih]
      grind

end
/-! ### Event bits -/

/-- A register that is listed with one of its bits set. -/
def Listed (d : Dev) (a i : Nat) : Prop := ∃ w : Word, Map.get? d.regs a = some w ∧ w.toNat.testBit i = true

theorem Listed.flag {d : Dev} {a i : Nat} (h : Listed d a i) : d.flag a i = true := by
  obtain ⟨w, hw, hbit⟩ := h
  simpa only [Dev.flag, Dev.reg, hw] using hbit

theorem Listed.setReg {d : Dev} {a b i : Nat} (h : Listed d a i) (v : Nat) (hne : a ≠ b) : Listed (d.setReg b v) a i := by
  obtain ⟨w, hw, hbit⟩ := h
  exact ⟨w, get?_putD_of_listed _ _ hne hw, hbit⟩

theorem Listed.of_regs {d e : Dev} {a i : Nat} (h : Listed d a i) (hr : e.regs = d.regs) : Listed e a i := by
  rwa [Listed, hr]

/-- A bit that is 0 at reset is listed once hardware has set it. -/
theorem listed_setBit (d : Dev) {a i : Nat} (hi : i < 32) (hreset : (resetOf a).testBit i = false) : Listed (d.setBit a i) a i := by
  have hbit : (BitVec.ofNat 32 (withBits (d.reg a) i i 1)).toNat.testBit i = true := by
    rw [BitVec.toNat_ofNat, Nat.testBit_mod_two_pow, testBit_withBits]
    simp [hi]
  have hne : BitVec.ofNat 32 (withBits (d.reg a) i i 1) ≠ BitVec.ofNat 32 (resetOf a) := by
    intro heq
    rw [heq, BitVec.toNat_ofNat, Nat.testBit_mod_two_pow, hreset, Bool.and_false] at hbit
    cases hbit
  refine ⟨_, ?_, hbit⟩
  simp only [Dev.setBit, Dev.setFld, Dev.setReg, Map.putD, if_neg hne, Map.get?_put_self]

theorem Listed.sumBit {d : Dev} {a i : Nat} (h : Listed d a i) (j : Nat) (hne : a ≠ 0x204) : Listed (d.sumBit j) a i := by
  have hset : Listed (d.setBit 0x204 j) a i := h.setReg _ hne
  unfold Dev.sumBit
  split
  · exact hset.of_regs (by rw [Dev.signal_frame])
  · exact hset

theorem listed_event (d : Dev) {a i : Nat} (hi : i < 32) (hreset : (resetOf a).testBit i = false) (hne : a ≠ 0x204) :
    Listed (d.event a i) a i := by
  have hset := listed_setBit d hi hreset
  unfold Dev.event
  split
  · exact hset
  · exact hset.sumBit _ hne

/-- GLB_EPOCH_EVENT is 0 at reset, so that an event of the epochs is listed once it is set. -/
theorem listed_epochEvent (d : Dev) {i : Nat} (hi : i < 32) : Listed (d.event 0x11C i) 0x11C i := by
  have hreset : resetOf 0x11C = 0 := by decide +kernel
  exact listed_event d hi (by rw [hreset, Nat.zero_testBit]) (by omega)

theorem epochs_event (d : Dev) (a i : Nat) : (d.event a i).epochs = d.epochs := by rw [Dev.event_frame]

/-! ### The record of a command that ends (R484, R486) -/

/-- What closing a ticket may change: mailboxes, their registers and what is sent; below their blocks a listed bit stays. -/
structure TicketsOnly (d e : Dev) : Prop where
  frame  : ∃ regs mbxs out msixPend, e = { d with regs, mbxs, out, msixPend }
  listed : ∀ {a i}, a < 0x11000 → Listed d a i → Listed e a i

namespace TicketsOnly

theorem refl (d : Dev) : TicketsOnly d d := ⟨⟨_, _, _, _, rfl⟩, fun _ h => h⟩

theorem trans {d e f : Dev} (h : TicketsOnly d e) (h' : TicketsOnly e f) : TicketsOnly d f := by
  refine ⟨?_, fun ha hl => h'.listed ha (h.listed ha hl)⟩
  obtain ⟨_, _, _, _, rfl⟩ := h.frame
  obtain ⟨_, _, _, _, rfl⟩ := h'.frame
  exact ⟨_, _, _, _, rfl⟩

theorem setMbx (d : Dev) (m : Nat) (f : Mbx → Mbx) : TicketsOnly d (d.setMbx m f) :=
  ⟨⟨_, _, _, _, rfl⟩, fun _ h => h⟩

theorem toHost (d : Dev) (a : Nat) (b : List Byte) : TicketsOnly d (d.toHost a b) := ⟨⟨_, _, _, _, rfl⟩, fun _ h => h⟩

theorem setFld (d : Dev) (m o hi lo v : Nat) : TicketsOnly d (d.setFld (Dev.mbxBase m + o) hi lo v) :=
  ⟨⟨_, _, _, _, rfl⟩, fun ha h => h.setReg _ (by simp only [Dev.mbxBase]; omega)⟩

theorem mbxSignal (d : Dev) (m : Nat) : TicketsOnly d (d.mbxSignal m) := by
  unfold Dev.mbxSignal
  split
  · rw [Dev.signal_frame]
    exact ⟨⟨_, _, _, _, rfl⟩, fun _ h => h⟩
  · exact refl d

theorem mbxEvent (d : Dev) (m i : Nat) : TicketsOnly d (d.mbxEvent m i) := setFld d m _ _ _ _

theorem cringWrite (d : Dev) (m : Nat) (w : List Nat) : TicketsOnly d (d.cringWrite m w) :=
  (toHost d _ _).trans <| (setFld _ m _ _ _ _).trans <| (setMbx _ m _).trans <| (mbxEvent _ m 1).trans (mbxSignal _ m)

theorem recordPut (d : Dev) (m : Nat) (w : List Nat) : TicketsOnly d (d.recordPut m w) := by
  unfold Dev.recordPut
  split
  · exact cringWrite d m w
  · exact (setMbx d m _).trans (mbxEvent _ m 4)

theorem closeIf (d : Dev) (t : Option (Nat × Nat)) (status reason phase : Nat) (result : List Nat) :
    TicketsOnly d (d.closeIf t status reason phase result) := by
  cases t with
  | none => exact refl d
  | some t =>
    simp only [Dev.closeIf, Dev.closeTicket]
    split
    · exact refl d
    · exact (setMbx d _ _).trans <| (setMbx _ _ _).trans (recordPut _ _ _)

theorem epochs {d e : Dev} (h : TicketsOnly d e) : e.epochs = d.epochs := by
  obtain ⟨_, _, _, _, rfl⟩ := h.frame
  rfl

theorem tiles {d e : Dev} (h : TicketsOnly d e) : e.tiles = d.tiles := by
  obtain ⟨_, _, _, _, rfl⟩ := h.frame
  rfl

end TicketsOnly

/-! ### The placement (R270) -/

/-- A fold keeps what each of its steps keeps. -/
theorem foldl_keeps {α β : Type} (p : Dev → β) {f : Dev → α → Dev} (hf : ∀ d x, p (f d x) = p d) (l : List α) (d : Dev) :
    p (l.foldl f d) = p d :=
  List.foldlRecOn l f (motive := fun e => p e = p d) rfl fun e he x _ => (hf e x).trans he

/-- Whatever registers and banks alone leave as it is, placing entries in the banks leaves as it is. -/
theorem placeBanks_keeps {β : Type} (p : Dev → β) (hregs : ∀ d a hi lo v, p (Dev.setFld d a hi lo v) = p d)
    (hbanks : ∀ d b f, p (Dev.setBank d b f) = p d) (d : Dev) (ts : List (Nat × Tile)) : p (d.placeBanks ts) = p d := by
  have hplace (d : Dev) (tag : Nat) (img : BankImage) : p (d.bankPlace tag img) = p d := by
    unfold Dev.bankPlace
    refine (foldl_keeps p (fun d e => ?_) _ _).trans (foldl_keeps p (fun d e => ?_) _ _)
    · dsimp only
      split
      · exact hbanks _ _ _
      · refine (hbanks _ _ _).trans ?_
        split
        · exact hregs _ _ _ _ _
        · rfl
    · dsimp only
      split
      · exact hregs _ _ _ _ _
      · rfl
  refine foldl_keeps p (fun d n => ?_) _ d
  split
  · exact hplace _ _ _
  · exact foldl_keeps p (fun d k => hbanks _ _ _) _ _

theorem epochs_placeBanks (d : Dev) (ts : List (Nat × Tile)) : (d.placeBanks ts).epochs = d.epochs :=
  placeBanks_keeps Dev.epochs (fun _ _ _ _ _ => rfl) (fun _ _ _ => rfl) d ts

theorem tiles_placeBanks (d : Dev) (ts : List (Nat × Tile)) : (d.placeBanks ts).tiles = d.tiles :=
  placeBanks_keeps Dev.tiles (fun _ _ _ _ _ => rfl) (fun _ _ _ => rfl) d ts

theorem epochs_setTiles (f : Tile → Tile) (l : List Nat) (d : Dev) :
    (l.foldl (fun d h => d.setTile h f) d).epochs = d.epochs :=
  foldl_keeps Dev.epochs (f := fun d h => d.setTile h f) (fun _ _ => rfl) l d

/-- What a handle of the store is once the tiles of a list are STAGED. -/
theorem tileSt_staged (l : List Nat) (d : Dev) (h : Nat) :
    (Map.get? (l.foldl (fun d q => d.setTile q fun t => { t with st := 2 }) d).tiles h).map (·.st) =
      (Map.get? d.tiles h).map fun t => if h ∈ l then 2 else t.st := by
  induction l generalizing d with
  | nil => simp
  | cons q l ih =>
    rw [List.foldl_cons, ih, Dev.setTile, get?_adjust, Option.map_map]
    congr 1
    funext t
    grind

theorem slot_setSlot_self (d : Dev) (tag : Nat) (f : Slot → Slot) : (d.setSlot tag f).slot tag = f (d.slot tag) := by
  unfold Dev.setSlot Dev.slot
  split
  · rfl
  · rfl

theorem epochs_setSlot (d : Dev) (tag : Nat) (f : Slot → Slot) :
    ∃ slot0 slot1, (d.setSlot tag f).epochs = { d.epochs with slot0, slot1 } := by
  unfold Dev.setSlot
  split
  · exact ⟨_, _, rfl⟩
  · exact ⟨_, _, rfl⟩

theorem tiles_setSlot (d : Dev) (tag : Nat) (f : Slot → Slot) : (d.setSlot tag f).tiles = d.tiles := by
  unfold Dev.setSlot
  split
  · rfl
  · rfl

theorem slot_of_epochs {d e : Dev} (h : e.epochs = d.epochs) (tag : Nat) : e.slot tag = d.slot tag := by rw [Dev.slot, Dev.slot, h]

/-- The pending epoch is placed: its slots hold what the placement wrote, and its listed tiles are STAGED. -/
structure Placed (d e : Dev) : Prop where
  epochs : ∃ slot0 slot1, e.epochs = { d.epochs with slot0, slot1, pend := 2, ticket := none }
  tiles  : ∀ h, (Map.get? e.tiles h).map (·.st) = (Map.get? d.tiles h).map fun t => if h ∈ d.epochs.listed then 2 else t.st

/-- A placement that no domain and no word of a tile meets, and whose routes fit. -/
theorem stageEnds_of_fits {d : Dev} {rs : List Route} (hdown : d.epochs.stageDown = false)
    (hrs : Dev.newRoutes (d.slot d.epochs.curTag).routes (Dev.listedImage (d.tilesOf d.epochs.listed) 7 0xFF) = .ok rs) :
    Placed d (d.stageEnds none).1 := by
  simp only [Dev.stageEnds, hdown, hrs, Bool.false_eq_true, if_false]
  refine ⟨?_, fun h => ?_⟩
  · obtain ⟨slot0, slot1, hslots⟩ := epochs_setSlot d d.otherTag fun _ =>
      Dev.composeSlot (d.slot d.epochs.curTag) (d.tilesOf d.epochs.listed) rs
    exact ⟨slot0, slot1, by simp only [Dev.setEpochs, epochs_setTiles, epochs_placeBanks, hslots]⟩
  · exact (tileSt_staged _ _ h).trans (by rw [tiles_placeBanks, tiles_setSlot])

theorem stageEnds_of_down {d : Dev} (bad : Option (Nat × Fin 2 × Nat)) (hdown : d.epochs.stageDown = true) :
    d.stageEnds bad = (d.stageFails, 6, []) := by
  simp only [Dev.stageEnds, hdown, if_true]

/-- EPOCH_STAGE_DONE while staging: the placement ends, and its ticket closes. -/
theorem stageDone_of_staging {d : Dev} (bad : Option (Fin 1024 × Fin 2 × Nat)) (hpend : d.epochs.pend = 1) :
    TicketsOnly (d.stageEnds (bad.map fun b => (b.1.val, b.2))).1 (d.stageDone bad) := by
  simp only [Dev.stageDone, hpend, ne_eq, not_true_eq_false, if_false]
  exact TicketsOnly.closeIf _ _ _ _ _ _

/-! ### The commit (R273) -/

theorem num_takeField (d : Dev) (tag a : Nat) (m v : Word) : ((d.takeField tag a m v).slot tag).num = (d.slot tag).num := by
  have hslot := slot_setSlot_self d tag fun s =>
    { s with fields := Map.put s.fields a ((BitVec.ofNat 32 (d.epochReg tag a) &&& ~~~m) ||| (v &&& m)) }
  exact (congrArg Slot.num hslot :)

theorem epochs_pendReel (d : Dev) (i : Nat) (r : Reel) : (d.pendReel i r).epochs = d.epochs := by
  unfold Dev.pendReel
  dsimp only
  rw [apply_ite Dev.epochs, epochs_event]
  exact ite_self _

/-- The block with its other slot under the number to come, and in it the EPOCH fields fixed for this commit. -/
def renumbered (d : Dev) : Dev :=
  d.epochs.fixed.foldl (fun e f => e.takeField d.otherTag f.1 f.2.1 f.2.2)
    (d.setSlot d.otherTag fun s => { s with num := d.epochs.newNum })

theorem renumbered_num (d : Dev) : ((renumbered d).slot d.otherTag).num = d.epochs.newNum :=
  (foldl_keeps (fun e => (e.slot d.otherTag).num) (fun e _ => num_takeField e _ _ _ _) _ _).trans
    (congrArg Slot.num (slot_setSlot_self d _ _))

/-- The epochs once the slot of a tag is current, and the other drains. -/
def committed (e : Epochs) (tag : Nat) : Epochs :=
  { e with curTag := tag, pend := 0, listed := [], fixed := [], draining := true, zero := false, swept := false, folded := false,
           audited := false, first := [] }

/-- COMMIT_AT at or after its moment. -/
theorem commitNow_of_due {d : Dev} (hpend : d.epochs.pend = 3) (hdue : d.epochs.commitAt ≤ d.now) :
    ∃ x : Dev, d.commitNow = (x.event 0x11C 1).settle ∧ x.epochs = committed (renumbered d).epochs d.otherTag := by
  have hnot : (d.epochs.pend ≠ 3 || d.now < d.epochs.commitAt) = false := by simp [hpend, Nat.not_lt.mpr hdue]
  unfold Dev.commitNow
  simp only [hnot, Bool.false_eq_true, if_false]
  refine ⟨_, rfl, ?_⟩
  refine (foldl_keeps Dev.epochs (fun e r => epochs_pendReel _ _ _) _ _).trans ?_
  exact epochs_setTiles _ _ _

/-! ### The drain (R273, R276) -/

theorem drainZero_of_empty {d : Dev} (hdrain : d.epochs.draining = true) (hzero : d.epochs.zero = false)
    (hcount : d.drainCount d.otherTag = 0) : d.drainZero = d.setEpochs fun e => { e with zero := true } := by
  simp [Dev.drainZero, hdrain, hzero, hcount]

/-- The block with the draining slot given up. -/
def drained (d : Dev) : Dev := (d.setEpochs fun e => { e with draining := false }).setSlot d.otherTag fun _ => {}

theorem epochs_drained (d : Dev) : ∃ slot0 slot1, (drained d).epochs = { d.epochs with slot0, slot1, draining := false } :=
  epochs_setSlot _ _ _

/-- The drain has ended, its last two parts done: the slot that it left is empty, and its event is set. -/
structure DrainEnded (e : Dev) : Prop where
  swept    : e.epochs.swept = true
  folded   : e.epochs.folded = true
  draining : e.epochs.draining = false
  slot     : e.slot e.otherTag = {}
  event    : e.flag 0x11C 2 = true

theorem drainEnds_of_done {d : Dev} (hdrain : d.epochs.draining = true) (hzero : d.epochs.zero = true)
    (hswept : d.epochs.swept = true) (hfolded : d.epochs.folded = true) : DrainEnded d.drainEnds := by
  have hends : d.drainEnds = ((drained d).event 0x11C 2).settle := by
    simp [Dev.drainEnds, drained, hdrain, hzero, hswept, hfolded]
  have hkept : d.drainEnds.epochs = (drained d).epochs := by
    rw [hends]
    exact epochs_event _ _ _
  obtain ⟨slot0, slot1, hdrained⟩ := epochs_drained d
  have htag : d.drainEnds.otherTag = d.otherTag := by simp only [Dev.otherTag, hkept, hdrained]
  constructor
  case swept => rw [hkept, hdrained, hswept]
  case folded => rw [hkept, hdrained, hfolded]
  case draining => rw [hkept, hdrained]
  case slot => rw [htag, slot_of_epochs hkept, drained, slot_setSlot_self]
  case event =>
    rw [hends]
    exact ((listed_epochEvent _ (by omega)).of_regs rfl).flag

theorem drainEnds_of_undone {d : Dev} (h : d.epochs.swept = false ∨ d.epochs.folded = false) : d.drainEnds = d := by
  unfold Dev.drainEnds
  rcases h with h | h
  · simp [h]
  · simp [h]

theorem sweepDone_of_zero {d : Dev} (hdrain : d.epochs.draining = true) (hzero : d.epochs.zero = true)
    (hswept : d.epochs.swept = false) :
    d.sweepDone = ((d.bankSweep d.otherTag).setEpochs fun e => { e with swept := true }).drainEnds := by
  simp [Dev.sweepDone, hdrain, hzero, hswept]

theorem foldDone_of_zero {d : Dev} (hdrain : d.epochs.draining = true) (hzero : d.epochs.zero = true)
    (hfolded : d.epochs.folded = false) : d.foldDone = (d.setEpochs fun e => { e with folded := true }).drainEnds := by
  simp [Dev.foldDone, hdrain, hzero, hfolded]

/-! ### The deadline and the audit (R277) -/

theorem epochEndDeadline_of_due {d : Dev} (hdrain : d.epochs.draining = true) (hdue : d.epochs.commitAt + 100000000 ≤ d.now) :
    d.epochEndDeadline = d.endItems (1 - d.epochs.curTag) := by
  simp [Dev.epochEndDeadline, hdrain, hdue, Dev.otherTag]

theorem drainAudit_of_due {d : Dev} (hdrain : d.epochs.draining = true) (hzero : d.epochs.zero = false)
    (haudited : d.epochs.audited = false) (hdue : d.epochs.commitAt + 150000000 ≤ d.now) (hcount : d.drainCount d.otherTag ≠ 0) :
    let e := (d.raise 0xC000 0xC050).event 0x11C 3
    d.drainAudit = (e.auditTag e.otherTag).setEpochs fun x => { x with audited := true } := by
  simp [Dev.drainAudit, hdrain, hzero, haudited, hdue, hcount]

/-- An event leaves the errors that wait. -/
theorem raised_event {d : Dev} {src code : Nat} (h : d.Raised src code) (a i : Nat) : (d.event a i).Raised src code := by
  rw [Dev.event_frame]
  exact h

/-! ### The commands -/

theorem exec_epochStageDone (bad : Option (Fin 1024 × Fin 2 × Nat)) (s : State) :
    exec (.epochStageDone bad) s = s.act (·.stageDone bad) := rfl

theorem exec_commitAt (s : State) : exec .commitAt s = s.act Dev.commitNow := rfl

theorem exec_drainCountZero (s : State) : exec .drainCountZero s = s.act Dev.drainZero := rfl

theorem exec_bankSweepDone (s : State) : exec .bankSweepDone s = s.act Dev.sweepDone := rfl

theorem exec_routeFoldDone (s : State) : exec .routeFoldDone s = s.act Dev.foldDone := rfl

theorem exec_epochEndDeadline (s : State) : exec .epochEndDeadline s = s.act Dev.epochEndDeadline := rfl

theorem exec_drainAudit (s : State) : exec .drainAudit s = s.act Dev.drainAudit := rfl

end Sys2Proof.Proofs.EpochLife
end

section
open Sys2Proof Sys2Proof.Machine Sys2Proof.Proofs.TimeAndSpeed Sys2Proof.Proofs.ScansAndWindows Sys2Proof.Proofs.EpochLife

/-- Settles O30, a command at a time. -/
theorem epochPlacementCommitAndDrain : Obligations.EpochPlacementCommitAndDrain := by
  refine ⟨fun s rs hpend hdown hrs => ?placed, fun s bad hpend hdown => ?down, fun s hpend hdue _ => ?commit,
    fun s hdrain hzero hcount => ?zero,
    fun s hdrain hzero => ⟨fun hswept hfolded => ?swept, fun hswept hfolded => ?sweptFirst, fun hfolded hswept => ?folded,
      fun hfolded hswept => ?foldedFirst⟩,
    fun s hdrain hdue => ?deadline, fun s hdrain hzero haudited hdue hcount => ?audit⟩
  case placed =>
    refine completes_of_act (exec_epochStageDone none s) ?_
    have hticket := stageDone_of_staging none hpend
    obtain ⟨⟨slot0, slot1, hepochs⟩, htiles⟩ := stageEnds_of_fits hdown hrs
    rw [hticket.epochs, hticket.tiles, Option.map_none, hepochs]
    refine ⟨rfl, rfl, rfl, fun h hl hhas => ?_⟩
    obtain ⟨t, ht⟩ := Option.isSome_iff_exists.mp hhas
    rw [htiles, ht, Option.map_some, if_pos hl]
  case down =>
    refine completes_of_act (exec_epochStageDone bad s) ?_
    have hticket := stageDone_of_staging bad hpend
    rw [stageEnds_of_down _ hdown] at hticket
    rw [hticket.epochs, Dev.stageFails, epochs_event]
    exact ⟨rfl, rfl, (hticket.listed (by omega) (listed_epochEvent _ (by omega))).flag⟩
  case commit =>
    refine completes_of_act (exec_commitAt s) ?_
    obtain ⟨x, hcommit, hx⟩ := commitNow_of_due hpend hdue
    have hepochs : (s.dev.commitNow).epochs = committed (renumbered s.dev).epochs s.dev.otherTag := by
      rw [hcommit]
      exact (epochs_event x _ _).trans hx
    rw [hepochs]
    refine ⟨rfl, ?_, rfl, rfl, rfl, ?_⟩
    · rw [Dev.slot, hepochs]
      exact renumbered_num s.dev
    · rw [hcommit]
      exact ((listed_epochEvent x (by omega)).of_regs rfl).flag
  case zero =>
    refine completes_of_act (exec_drainCountZero s) ?_
    rw [drainZero_of_empty hdrain hzero hcount]
    exact ⟨rfl, rfl⟩
  case swept =>
    refine completes_of_act (exec_bankSweepDone s) ?_
    rw [sweepDone_of_zero hdrain hzero hswept]
    have hended := drainEnds_of_done (d := (s.dev.bankSweep s.dev.otherTag).setEpochs fun e => { e with swept := true })
      hdrain hzero rfl hfolded
    exact ⟨hended.swept, hended.draining, hended.slot, hended.event⟩
  case sweptFirst =>
    refine completes_of_act (exec_bankSweepDone s) ?_
    rw [sweepDone_of_zero hdrain hzero hswept, drainEnds_of_undone (by exact .inr hfolded)]
    exact ⟨rfl, hdrain⟩
  case folded =>
    refine completes_of_act (exec_routeFoldDone s) ?_
    rw [foldDone_of_zero hdrain hzero hfolded]
    have hended := drainEnds_of_done (d := s.dev.setEpochs fun e => { e with folded := true }) hdrain hzero hswept rfl
    exact ⟨hended.folded, hended.draining, hended.slot, hended.event⟩
  case foldedFirst =>
    refine completes_of_act (exec_routeFoldDone s) ?_
    rw [foldDone_of_zero hdrain hzero hfolded, drainEnds_of_undone (by exact .inl hswept)]
    exact ⟨rfl, hdrain⟩
  case deadline =>
    exact completes_of_act (exec_epochEndDeadline s) (epochEndDeadline_of_due hdrain hdue)
  case audit =>
    refine completes_of_act (exec_drainAudit s) ?_
    rw [drainAudit_of_due hdrain hzero haudited hdue hcount]
    exact ⟨rfl, _, raised_event (raised_raise _ _ _ _) _ _, (listed_epochEvent _ (by omega)).flag, rfl⟩

end

section
/-! SUPPORT. The proofs about RECORDS descriptors (O45): a state that refutes the clause on a descriptor's first record, with its
registers out of order, and that clause for every state whose registers are in order. -/

namespace Sys2Proof.Proofs.RecordDescriptors

open Sys2Proof Sys2Proof.Machine

/-! ### A register file out of order -/

/-- A RECORDS descriptor of two table records. -/
def twoRecords : Vector (BitVec 32) 16 := #v[0x30010000, 0, 0, 0, 2, 0, 0, 0, 0, 0, 0, 0, 0, 0, 0, 0]

/-- A table record of OP 1 with a reserved bit set: it is answered BAD_PARAM. -/
def reservedRead : Vector (BitVec 32) 40 := (Vector.replicate 40 0).set 0 0x10000001

/-- DMA facts without a fault of the host or an uncorrectable word. -/
def calm : DmaFacts := ⟨none, 0, none, []⟩

/-- That record as the first of that descriptor, on channel 0. -/
def readFirst : Instr := .tblRead 0 twoRecords reservedRead false calm

/-- The same as a row of records. -/
def readRow : RecRow := recordRowOf.tbl 0 1 twoRecords reservedRead false calm

/-- Channel 0 runs with HEAD at the last entry of its ring. DMA_INJECT, with INJ_ECC armed, is listed behind DMA_HEAD, out of order: a
read of it stops at DMA_HEAD and finds nothing, until HEAD goes round to 0 and is no longer listed. -/
def disordered : Dev := { regs := [(0x20000, 1), (0x20004, 1), (0x20020, 255), (0x2000C, 1)] }

theorem disordered_starts : disordered.Starts readRow.ch 3 readRow.desc readRow.facts where
  ready := by decide +kernel
  op := by decide +kernel
  valid := by decide +kernel
  host := rfl
  ecc := ⟨rfl, by decide +kernel⟩

/-- The block as the statement has it when the record is judged. -/
def atRecord : Dev :=
  ((disordered.fetchDesc readRow.ch).setChan readRow.ch fun x => { x with recs := some { words := readRow.desc } }).bytesIn readRow.ch
    (recBytes readRow.space)

theorem readRow_judge : readRow.judge atRecord = (atRecord, .out 4 0 none) := by
  have hreserved : word readRow.record 0 &&& 0x010FFFFF ≠ 0 := by decide +kernel
  have hrecord : readRow.record = reservedRead.toList.map (·.toNat) := rfl
  rw [hrecord] at hreserved
  simp [readRow, recordRowOf.tbl, recordRowOf.words, Dev.tblRecord, hreserved]

/-- Judged, the record would leave the descriptor in progress, one of its two records to come. -/
theorem judged_goesOn :
    ((atRecord.recOut readRow.ch (disordered.ringHead readRow.ch) 4 0 none readRow.facts.rest).chan 0).recs.isSome = true := by
  decide +kernel

/-- The channel halts instead, on an uncorrectable word that the injection makes. -/
theorem readFirst_halts : ((tblRow 1 0 twoRecords reservedRead false calm disordered).chan 0).recs.isSome = false := by
  decide +kernel

theorem exec_readFirst (s : State) : exec readFirst s = s.act (tblRow 1 0 twoRecords reservedRead false calm) := rfl

/-! ### A register file in order -/

/-- Every row of records is its channel's `recordRow` with its own judgement. -/
theorem exec_of_recordRow {c : Instr} {r : RecRow} (hrow : recordRowOf c = some r) (s : State) :
    exec c s = s.act fun d => d.recordRow r.ch r.space r.op r.ops r.desc r.record r.facts r.judge := by
  cases c <;> cases hrow <;> rfl

/-- A value that is not the default is read back, whatever the order of the entries. -/
theorem getD_upd_of_ne_default {α : Type} [DecidableEq α] (m : Map α) (q : Nat) {d : α} {f : α → α} (h : f (Map.getD m q d) ≠ d) :
    Map.getD (Map.upd m q d f) q d = f (Map.getD m q d) := by
  rw [Map.upd, Map.putD, if_neg h, Map.getD, Map.get?_put_self, Option.getD_some]

theorem chan_setRecs (d : Dev) (c : Nat) (x : RecRun) :
    (d.setChan c fun k => { k with recs := some x }).chan c = { d.chan c with recs := some x } :=
  getD_upd_of_ne_default d.chans c (d := {}) (f := fun k : Chan => { k with recs := some x }) fun h =>
    Option.some_ne_none x (congrArg Chan.recs h)

/-- INJ_ECC stays as it was when a descriptor is fetched from a register file in order. -/
theorem flag_fetchDesc {d : Dev} (c i : Nat) (hs : Map.sorted d.regs = true) :
    (d.fetchDesc c).flag (Dev.dmaBase c + 0x0C) i = d.flag (Dev.dmaBase c + 0x0C) i :=
  congrArg (·.testBit i) (Dev.reg_setReg_of_ne d _ (by omega) hs)

/-- The next record of a descriptor in progress that meets no fault and no uncorrectable word, and is no half of a pair. -/
theorem nextRecord_judged {d d' : Dev} {c index st why : Nat} {rec : List Nat} {f : DmaFacts} {judge : Dev → Dev × RecEnd} {x : RecRun}
    {back : Option (List Nat)} (hx : (d.chan c).recs = some x) (hhost : f.host = none) (hecc : f.ecc = none)
    (hinj : d.flag (Dev.dmaBase c + 0x0C) 0 = false) (hpair : x.pair = none)
    (hfirst : dSpace x.words = 0 → (word rec 0).testBit 27 = false)
    (hj : judge (d.bytesIn c (recBytes (dSpace x.words))) = (d', .out st why back)) :
    d.nextRecord c index rec f judge = d'.recOut c index st why back f.rest := by
  have hmet : (d.bytesIn c (recBytes (dSpace x.words))).eccMet c f = none := by
    have hflag : (d.bytesIn c (recBytes (dSpace x.words))).flag (Dev.dmaBase c + 0x0C) 0 = false := hinj
    simp [Dev.eccMet, hecc, hflag]
  have hhalf : (dSpace x.words = 0 && (word rec 0).testBit 27) = false := by
    simpa using hfirst
  simp only [Dev.nextRecord, hx, hhost, hmet, hpair, hhalf, hj, Bool.false_eq_true, if_false]

/-- The clause that the state above refutes, for every state whose registers are in order. -/
theorem firstRecord_of_sorted {s : State} {c : Instr} {r : RecRow} {d' : Dev} {st why : Nat} {back : Option (List Nat)}
    (hrow : recordRowOf c = some r) (hs : Map.sorted s.dev.regs = true) (hstarts : s.dev.Starts r.ch 3 r.desc r.facts)
    (hspace : dSpace r.desc = r.space) (hmin : 1 ≤ dLen r.desc) (hmax : dLen r.desc ≤ 4096) (hop : bits (word r.record 0) 31 28 = r.op)
    (hidle : (s.dev.chan r.ch).recs = none) (hpair : r.space = 0 → (word r.record 0).testBit 27 = false)
    (hj : r.judge (((s.dev.fetchDesc r.ch).setChan r.ch fun x => { x with recs := some { words := r.desc } }).bytesIn r.ch
      (recBytes r.space)) = (d', .out st why back)) :
    Completes c s fun d => d = d'.recOut r.ch (s.dev.ringHead r.ch) st why back r.facts.rest := by
  refine ⟨_, (exec_of_recordRow hrow s).trans rfl, ?_⟩
  obtain ⟨hready, hrec, hvalid, hhost, hecc, hinj⟩ := hstarts
  have hnext := nextRecord_judged (index := s.dev.ringHead r.ch) (f := r.facts) (rec := r.record) (judge := r.judge)
    (congrArg Chan.recs (chan_setRecs (s.dev.fetchDesc r.ch) r.ch { words := r.desc })) hhost hecc
    ((flag_fetchDesc r.ch 0 hs).trans hinj) rfl (hspace ▸ hpair) (hspace ▸ hj)
  simp [Dev.recordRow, hop, hidle, hrec, hvalid, hspace, hhost, hmin, hmax, hready, hnext]

end Sys2Proof.Proofs.RecordDescriptors
end

section
open Sys2Proof Sys2Proof.Machine Sys2Proof.Proofs.RecordDescriptors

/-- Refutes O45: its first clause asks for no order of the registers. In a state that `Dev.Canonical` excludes, taking the descriptor
moves HEAD to 0, which uncovers an armed INJ_ECC listed behind DMA_HEAD, and the channel halts where a record was to be judged. -/
theorem not_recordRows : ¬ Obligations.RecordRows := by
  intro h
  obtain ⟨d, hexec, hd⟩ := h.1 ⟨disordered, []⟩ readFirst readRow atRecord 4 0 none rfl disordered_starts (by decide +kernel)
    (by decide +kernel) (by decide +kernel) (by decide +kernel) rfl (fun hspace => absurd hspace (by decide)) readRow_judge
  rw [exec_readFirst, act_iff, State.mk.injEq] at hexec
  obtain ⟨hdev, -⟩ := hexec
  have hhalts := readFirst_halts
  rw [← hdev, hd, judged_goesOn] at hhalts
  cases hhalts

end

section
/-! SUPPORT. The proofs about contexts (O27): the write-back of a modified line, the PEND entries of a cache set, and a context that the
sweeper ages. -/

namespace Sys2Proof.Proofs.ContextCache

open Sys2Proof Sys2Proof.Machine
open Sys2Proof.Proofs.EpochLife (foldl_keeps)
open Sys2Proof.Proofs.RecordDescriptors (getD_upd_of_ne_default)

theorem exec_contextWriteBack (idx : BitVec 24) (s : State) : exec (.contextWriteBack idx) s = s.act (·.writeBack idx.toNat) := rfl

theorem exec_pendExpiry (n : Fin 16) (set : Fin 1024) (s : State) : exec (.pendExpiry n set) s = s.act (·.pendExpiry n set) := rfl

/-- A visit that does not end the slice's lap. -/
theorem exec_contextSweepVisit (idx : BitVec 24) (s : State) :
    exec (.contextSweepVisit idx false) s = s.act (·.ctxSweep idx.toNat) := rfl

/-! ### The context store -/

theorem get?_storeCtx {c : Ctx} (d : Dev) (idx : Nat) (hc : c ≠ {}) : Map.get? (d.storeCtx idx c).store idx = some c := by
  rw [Dev.storeCtx, Map.putD, if_neg hc, Map.get?_put_self]

theorem ne_default_of_valid {c : Ctx} (hv : c.valid = true) : c ≠ {} := by
  rintro rfl
  cases hv

/-! ### The write-back (R196) -/

/-- A line first changed at `t` has waited WB_MAX. -/
def WriteBackDue (d : Dev) (t : Nat) : Prop := t + d.wbMax ≤ d.now

/-- What the write-back of context `idx` does at one way of cache set `set`. -/
def writeBackWay (idx set : Nat) (d : Dev) (w : Way) : Dev :=
  match w with
  | .line i c (some t) =>
    if i = idx && d.now ≥ t + d.wbMax then
      (d.storeCtx i c).setWays (idx % 16) set fun ws => ws.map fun x => if x = w then .line i c none else x
    else d
  | .line _ _ none => d
  | .pend _ _ _ => d

theorem writeBack_of_lineOf {d : Dev} {idx set : Nat} {c : Ctx} (h : d.lineOf idx = some (set, c)) :
    d.writeBack idx = (Map.getD (d.slice (idx % 16)).sets set []).foldl (writeBackWay idx set) d := by
  rw [Dev.writeBack, h]
  rfl

theorem writeBackWay_of_due {d : Dev} {idx set t : Nat} {c : Ctx} (h : WriteBackDue d t) :
    writeBackWay idx set d (.line idx c (some t)) = (d.storeCtx idx c).setWays (idx % 16) set fun ws =>
      ws.map fun x => if x = .line idx c (some t) then .line idx c none else x := by
  have hdue : d.now ≥ t + d.wbMax := h
  simp [writeBackWay, hdue]

/-- A way of the set is left alone, or it is the context's modified line that is due and is stored. -/
theorem writeBackWay_cases (idx set : Nat) (d : Dev) (w : Way) :
    writeBackWay idx set d w = d ∨ ∃ c t, w = .line idx c (some t) ∧ WriteBackDue d t := by
  match w with
  | .line i c (some t) =>
    by_cases h : i = idx ∧ d.now ≥ t + d.wbMax
    · obtain ⟨rfl, hdue⟩ := h
      exact .inr ⟨c, t, rfl, hdue⟩
    · exact .inl (if_neg (by simpa using h))
  | .line _ _ none => exact .inl rfl
  | .pend _ _ _ => exact .inl rfl

/-- Neither the time nor WB_MAX changes with a way. -/
theorem writeBackDue_writeBackWay {d : Dev} {t : Nat} (idx set : Nat) (w : Way) (h : WriteBackDue d t) :
    WriteBackDue (writeBackWay idx set d w) t := by
  rcases writeBackWay_cases idx set d w with hsame | ⟨c, u, rfl, hdue⟩
  · rwa [hsame]
  · rw [writeBackWay_of_due hdue]
    exact h

theorem get?_writeBackWay_of_due {d : Dev} {idx set t : Nat} {c : Ctx} (hc : c ≠ {}) (h : WriteBackDue d t) :
    Map.get? (writeBackWay idx set d (.line idx c (some t))).store idx = some c := by
  rw [writeBackWay_of_due h]
  exact get?_storeCtx d idx hc

/-- The one modified line of a context is stored once it is due: at its way, and no other way stores another image. -/
theorem get?_writeBack {d : Dev} {idx set t : Nat} {c c' : Ctx} (hline : d.lineOf idx = some (set, c'))
    (hmem : Way.line idx c (some t) ∈ Map.getD (d.slice (idx % 16)).sets set [])
    (hone : ∀ x u, Way.line idx x u ∈ Map.getD (d.slice (idx % 16)).sets set [] → x = c ∧ u = some t)
    (hc : c ≠ {}) (hdue : WriteBackDue d t) : Map.get? (d.writeBack idx).store idx = some c := by
  rw [writeBack_of_lineOf hline]
  generalize Map.getD (d.slice (idx % 16)).sets set [] = ws at hmem hone
  obtain ⟨before, after, rfl⟩ := List.append_of_mem hmem
  rw [List.foldl_append, List.foldl_cons]
  have hreach : WriteBackDue (before.foldl (writeBackWay idx set) d) t :=
    List.foldlRecOn before _ (motive := fun e => WriteBackDue e t) hdue fun _ he w _ => writeBackDue_writeBackWay idx set w he
  refine List.foldlRecOn after _ (motive := fun e : Dev => Map.get? e.store idx = some c) (get?_writeBackWay_of_due hc hreach)
    fun e he w hw => ?_
  rcases writeBackWay_cases idx set e w with hsame | ⟨x, u, rfl, hxdue⟩
  · rwa [hsame]
  · obtain ⟨rfl, -⟩ := hone x (some u) (by simp [hw])
    exact get?_writeBackWay_of_due hc hxdue

/-! ### The ways of a cache set and the life of PEND entries (R200) -/

theorem mem_of_get? {α : Type} {m : Map α} {q : Nat} {v : α} (h : Map.get? m q = some v) : (q, v) ∈ m := by
  induction m with
  | nil => cases h
  | cons e m ih =>
    obtain ⟨k, w⟩ := e
    simp only [Map.get?] at h
    split at h
    · cases h
      subst_vars
      exact .head _
    · split at h
      · cases h
      · exact .tail _ (ih h)

theorem sorted_sets_of_canonical {d : Dev} (hd : d.Canonical) (n : Nat) : Map.sorted (d.slice n).sets = true := by
  rw [Dev.slice, Map.getD]
  cases h : Map.get? d.slices n with
  | none => rfl
  | some x => exact hd.slcs.2 _ (mem_of_get? h)

/-- The ways of a set that was changed. -/
theorem ways_setWays {d : Dev} (hd : d.Canonical) (n set : Nat) (f : List Way → List Way) :
    Map.getD ((d.setWays n set f).slice n).sets set [] = f (Map.getD (d.slice n).sets set []) := by
  rw [Dev.slice, Dev.setWays, Dev.setSlice, Map.getD_upd_self n _ _ hd.slcs.1]
  exact Map.getD_upd_self set _ f (sorted_sets_of_canonical hd n)

theorem pend_mem_pendExpiry {d : Dev} (hd : d.Canonical) (n set t u : Nat) (k : List Byte) :
    Way.pend t k u ∈ Map.getD ((d.pendExpiry n set).slice n).sets set [] ↔
      Way.pend t k u ∈ Map.getD (d.slice n).sets set [] ∧ d.now < u := by
  rw [Dev.pendExpiry, ways_setWays hd]
  simp

theorem line_mem_pendExpiry {d : Dev} (hd : d.Canonical) (n set i : Nat) (c : Ctx) (m : Option Nat) :
    Way.line i c m ∈ Map.getD ((d.pendExpiry n set).slice n).sets set [] ↔ Way.line i c m ∈ Map.getD (d.slice n).sets set [] := by
  rw [Dev.pendExpiry, ways_setWays hd]
  simp

/-! ### What the partner is told (R563)

Telling it changes what is sent, the counters and the pair's own state: whatever these leave as it is, `mirror` leaves as it is. -/

section
variable {β : Type} {p : Dev → β} (hsent : ∀ (d : Dev) out cnts pair, p { d with out := out, cnts := cnts, pair := pair } = p d)
include hsent

theorem setPair_keeps (d : Dev) (f : Pair → Pair) : p (d.setPair f) = p d := hsent d d.out d.cnts (f d.pair)

theorem emit_keeps (d : Dev) (seq : Nat) (b : FjBody) : p (d.emit seq b) = p d := by
  unfold Dev.emit
  split
  · rfl
  · exact hsent d _ _ _

theorem sendNow_keeps (d : Dev) (b : FjBody) : p (d.sendNow b) = p d := by
  unfold Dev.sendNow
  exact (setPair_keeps hsent _ _).trans (emit_keeps hsent d _ _)

theorem drainSend_keeps (d : Dev) : p d.drainSend = p d := by
  refine foldl_keeps p (fun e w => ?_) _ d
  split
  · exact (sendNow_keeps hsent _ _).trans (setPair_keeps hsent e _)
  · rfl

theorem sendSeq_keeps (d : Dev) (prio : Nat) (b : FjBody) : p (d.sendSeq prio b) = p d := by
  unfold Dev.sendSeq
  split
  · rfl
  · exact (drainSend_keeps hsent _).trans (setPair_keeps hsent d _)

theorem mirror_keeps (d : Dev) (r : PairRec) : p (d.mirror r) = p d := by
  unfold Dev.mirror
  split
  · rfl
  · split
    · exact setPair_keeps hsent d _
    · exact sendSeq_keeps hsent d _ _

end

theorem ctx_mirror (d : Dev) (r : PairRec) (idx : Nat) : (d.mirror r).ctx idx = d.ctx idx :=
  mirror_keeps (p := (·.ctx idx)) (fun _ _ _ _ => rfl) d r

/-! ### The sweep (R214, R215) -/

/-- A context that no slice holds, changed in the store. -/
theorem ctx_setCtx_of_stored {d : Dev} {idx : Nat} {f : Ctx → Ctx} (hline : d.lineOf idx = none) (hbad : d.ctxBad idx = false)
    (hf : f (d.ctx idx) ≠ {}) : (d.setCtx idx f).ctx idx = f (d.ctx idx) := by
  have hstored : d.ctx idx = Map.getD d.store idx {} := by rw [Dev.ctx, hline]
  have hgood : ¬ d.badCtx.contains idx = true := by simpa [Dev.ctxBad, hline] using hbad
  have hkept : (d.storeCtx idx (f (Map.getD d.store idx {}))).lineOf idx = none := hline
  rw [hstored] at hf ⊢
  simp only [Dev.setCtx, hline, if_neg hgood, Dev.ctx, hkept]
  exact getD_upd_of_ne_default d.store idx hf

/-- A context that ages, looked at in this lap and not yet marked, is marked, and the partner is told. -/
theorem ctxSweep_marks {d : Dev} {idx : Nat} (hbad : d.ctxBad idx = false) (hvalid : (d.ctx idx).valid = true)
    (hlock : (d.ctx idx).lock = none) (hage : (d.ctx idx).ageEn = true) (hstale : (d.ctx idx).stale = false)
    (haged : (d.ctx idx).aged = false) (hheld : d.ctxHolder idx = none)
    (hk : d.fld (Dev.crsBase (idx % 16) + 0xC20 + 4 * (d.ctx idx).ageClass) 15 0 ≠ 0)
    (hlap : (d.slice (idx % 16)).lapNo % d.fld (Dev.crsBase (idx % 16) + 0xC20 + 4 * (d.ctx idx).ageClass) 15 0 = 0) :
    d.ctxSweep idx =
      (d.setCtx idx fun c => { c with aged := true }).mirror (.ctxTouch (d.ctx idx).tpl (d.ctx idx).key) := by
  simp [Dev.ctxSweep, hbad, hvalid, hlock, hheld, hage, hstale, haged, hk, hlap]

end Sys2Proof.Proofs.ContextCache
end

section
open Sys2Proof Sys2Proof.Machine Sys2Proof.Proofs.ContextCache
open Sys2Proof.Proofs.ScansAndWindows (completes_of_act)

/-- Settles O27, a command at a time. -/
theorem contextCacheRows : Obligations.ContextCacheRows := by
  refine ⟨fun s idx set t0 c0 c1 hline hmem hone hvalid hdue => ?writeBack, fun s n set hd => ?pend,
    fun s idx hline hbad hvalid hlock hage hstale haged hheld hk hlap => ?sweep⟩
  case writeBack =>
    exact completes_of_act (exec_contextWriteBack idx s) (get?_writeBack hline hmem hone (ne_default_of_valid hvalid) hdue)
  case pend =>
    exact completes_of_act (exec_pendExpiry n set s)
      ⟨fun t k u h => ((pend_mem_pendExpiry hd n set t u k).mp h).2, fun i c m => line_mem_pendExpiry hd n set i c m, rfl⟩
  case sweep =>
    refine completes_of_act (exec_contextSweepVisit idx s) ?_
    rw [ctxSweep_marks hbad hvalid hlock hage hstale haged hheld hk hlap, ctx_mirror]
    exact ctx_setCtx_of_stored (f := fun c => { c with aged := true }) hline hbad fun h => Bool.noConfusion (congrArg Ctx.aged h)

end

section
/-! SUPPORT. The proofs about operations on contexts, chains, queues and timers (O34): how a microword runs whose operation does not trap,
what the journal takes, which operations leave the engines alone, and what each operation comes to. -/

namespace Sys2Proof.Proofs.EngineActs

open Sys2Proof Sys2Proof.Machine
open Sys2Proof.Proofs.EpochLife (foldl_keeps)
open Sys2Proof.Proofs.ScansAndWindows (completes_of_act)
open Sys2Proof.Proofs.ContextCache (mem_of_get?)

/-! ### The engines of a set -/

/-- The sets are listed under rising numbers, and so are the engines of set `s`. -/
structure EnginesSorted (d : Dev) (s : Nat) : Prop where
  sets : Map.sorted d.sets = true
  engs : Map.sorted (d.set s).engines = true

theorem enginesSorted_of_canonical {d : Dev} (hd : d.Canonical) (s : Nat) : EnginesSorted d s where
  sets := hd.sets
  engs := by
    rw [Dev.set, Map.getD]
    cases h : Map.get? d.sets s with
    | none => rfl
    | some x => exact hd.engs _ (mem_of_get? h)

theorem set_of_sets {d e : Dev} (h : e.sets = d.sets) (s : Nat) : e.set s = d.set s := by rw [Dev.set, Dev.set, h]

theorem eng_of_sets {d e : Dev} (h : e.sets = d.sets) (s p : Nat) : e.eng s p = d.eng s p := by
  rw [Dev.eng, Dev.eng, set_of_sets h]

theorem sorted_setSet {d : Dev} (s : Nat) (f : SetSt → SetSt) (h : Map.sorted d.sets = true) : Map.sorted (d.setSet s f).sets = true :=
  Map.sorted_upd s _ f h

namespace EnginesSorted

variable {d e : Dev} {s : Nat}

theorem of_sets (h : EnginesSorted d s) (he : e.sets = d.sets) : EnginesSorted e s :=
  ⟨he ▸ h.sets, set_of_sets he s ▸ h.engs⟩

/-- A change of the set that leaves its engines alone. -/
theorem setSet (h : EnginesSorted d s) {f : SetSt → SetSt} (hf : (f (d.set s)).engines = (d.set s).engines) :
    EnginesSorted (d.setSet s f) s :=
  ⟨sorted_setSet s f h.sets, by rw [d.set_setSet_self s f h.sets, hf]; exact h.engs⟩

theorem set_setEng (h : EnginesSorted d s) (p : Nat) (f : Engine → Engine) :
    (d.setEng s p f).set s = { d.set s with engines := Map.upd (d.set s).engines p {} f } :=
  d.set_setSet_self s _ h.sets

theorem timers_setEng (h : EnginesSorted d s) (p : Nat) (f : Engine → Engine) : ((d.setEng s p f).set s).timers = (d.set s).timers := by
  rw [h.set_setEng]

theorem setEng (h : EnginesSorted d s) (p : Nat) (f : Engine → Engine) : EnginesSorted (d.setEng s p f) s :=
  ⟨sorted_setSet s _ h.sets, by rw [h.set_setEng]; exact Map.sorted_upd p _ f h.engs⟩

theorem eng_setEng (h : EnginesSorted d s) (p : Nat) (f : Engine → Engine) : (d.setEng s p f).eng s p = f (d.eng s p) := by
  rw [Dev.eng, h.set_setEng]
  exact Map.getD_upd_self p _ f h.engs

end EnginesSorted

/-! ### A microword whose operation does not trap (R378, R388) -/

/-- What an operation over `d` leaves of its engine in `e`: its item, its count of microwords, and the journal `j`. -/
structure LeavesEngine (d e : Dev) (s p : Nat) (j : List JEntry) : Prop where
  sorted  : EnginesSorted e s
  item    : (e.eng s p).item = (d.eng s p).item
  count   : (e.eng s p).count = (d.eng s p).count
  journal : (e.eng s p).journal = j

/-- An operation that changes no set. -/
theorem LeavesEngine.of_sets {d e : Dev} (hd : d.Canonical) (he : e.sets = d.sets) (s p : Nat) :
    LeavesEngine d e s p (d.eng s p).journal where
  sorted := (enginesSorted_of_canonical hd s).of_sets he
  item := by rw [eng_of_sets he]
  count := by rw [eng_of_sets he]
  journal := by rw [eng_of_sets he]

/-- A set's count of sends advanced (R402). -/
def countSend (d : Dev) (s : Nat) : Dev := d.setSet s fun x => { x with sends := (x.sends + 1) % 2 ^ 32 }

theorem eng_countSend {d : Dev} (s p : Nat) (hs : Map.sorted d.sets = true) : (countSend d s).eng s p = d.eng s p := by
  rw [Dev.eng, countSend, d.set_setSet_self s _ hs]
  rfl

theorem LeavesEngine.countSend {d e : Dev} {s p : Nat} {j : List JEntry} (h : LeavesEngine d e s p j) :
    LeavesEngine d (countSend e s) s p j := by
  have heng := eng_countSend s p h.sorted.sets
  exact ⟨h.sorted.setSet rfl, heng ▸ h.item, heng ▸ h.count, heng ▸ h.journal⟩

/-- The block with INJ_JRNL of a set spent (R410). -/
def unarmed (d : Dev) (s : Nat) : Dev := if d.flag (Dev.setBase s + 0x0C) 1 then d.clrBit (Dev.setBase s + 0x0C) 1 else d

theorem unarmed_frame (d : Dev) (s : Nat) : ∃ regs, unarmed d s = { d with regs } := by
  unfold unarmed
  split
  · exact ⟨_, rfl⟩
  · exact ⟨_, rfl⟩

theorem sets_unarmed (d : Dev) (s : Nat) : (unarmed d s).sets = d.sets := by
  obtain ⟨_, hframe⟩ := unarmed_frame d s
  rw [hframe]

/-- The block once an entry has entered an engine's journal, which INJ_JRNL marks. -/
def journalled (d : Dev) (s p : Nat) (x : JEntry) : Dev :=
  (unarmed d s).setEng s p fun e =>
    { e with journal := e.journal ++ [x], badJrnl := if d.flag (Dev.setBase s + 0x0C) 1 then some true else e.badJrnl }

theorem journalAdd_of_room {d : Dev} {s p : Nat} (c : Core) (x : JEntry) (hroom : (d.eng s p).journal.length < 16) :
    journalAdd d s p c x = .ok (journalled d s p x) c := if_neg (Nat.not_le.mpr hroom)

theorem not_journalFull {d : Dev} {s p : Nat} (hroom : (d.eng s p).journal.length < 16) : journalFull d s p = false :=
  decide_eq_false (Nat.not_le.mpr hroom)

theorem LeavesEngine.journalled {d e : Dev} {s p : Nat} {j : List JEntry} (h : LeavesEngine d e s p j) (x : JEntry) :
    LeavesEngine d (journalled e s p x) s p (j ++ [x]) := by
  have hs := h.sorted.of_sets (sets_unarmed e s)
  have heng := eng_of_sets (sets_unarmed e s) s p
  refine ⟨hs.setEng p _, ?_, ?_, ?_⟩ <;> rw [EngineActs.journalled, hs.eng_setEng, heng]
  · exact h.item
  · exact h.count
  · exact congrArg (· ++ [x]) h.journal

/-- The block once operation `o` of unit `u` has come to `d` and the core `c`, and its microword `m` has been counted. -/
def retired (d : Dev) (s p u o m : Nat) (c : Core) : Dev :=
  (d.bump (Dev.setBase s + 0x138)).setEng s p fun x =>
    { x with core := { c with pc := if mSeq m = 0 then c.pc + 1 else c.pc }, count := x.count + 1,
             item := x.item.map fun r => { r with micros := r.micros + 1 }, wait := waits u o, seqDue := !decide (mSeq m = 0),
             atSafe := false, halted := decide (mSeq m = 0) && x.dbg = 1, dbg := if mSeq m = 0 then 0 else x.dbg }

theorem retired_frame (d : Dev) (s p u o m : Nat) (c : Core) : ∃ cnts sets, retired d s p u o m c = { d with cnts, sets } :=
  ⟨_, _, rfl⟩

theorem opRow_of_ok {d e : Dev} {s p m n u o : Nat} {f : OpFn} {c : Core} (hr : d.Runs s p m n u o)
    (hf : f d s p (d.eng s p).core m n = .ok e c) : d.opRow s p u o false f = retired e s p u o m c := by
  have hitem : (d.eng s p).item.isNone = false := by simpa using hr.item
  have hcount : ¬ 1024 ≤ (d.eng s p).count := Nat.not_le.mpr hr.count
  have hsafe : (mSafe m && !(d.eng s p).atSafe) = false := by simpa using hr.safe
  simp [Dev.opRow, hitem, hr.free.1, hr.free.2, hr.on, hcount, hr.clean, hr.word, hr.unit, hr.op, hsafe, hr.brk, hf, retired]

theorem retires_retired {d e : Dev} {s p m n u o : Nat} {c : Core} {j : List JEntry} (hr : d.Runs s p m n u o)
    (hl : LeavesEngine d e s p j) (hpc : c.pc = (d.eng s p).core.pc) :
    d.Retires (retired e s p u o m c) s p m (waits u o) c j := by
  have hs : EnginesSorted (e.bump (Dev.setBase s + 0x138)) s := hl.sorted.of_sets rfl
  have heng : (e.bump (Dev.setBase s + 0x138)).eng s p = e.eng s p := eng_of_sets rfl s p
  rw [Dev.Retires, retired, hs.eng_setEng, heng, ← hpc]
  exact ⟨rfl, congrArg (· + 1) hl.count, rfl, rfl, hl.journal, by simpa [hl.item] using hr.item⟩

/-- A command completes with what its engine's operation comes to. -/
theorem completes_of_op {i : Instr} {st : State} {e : Dev} {s p m n u o : Nat} {f : OpFn} {c : Core} {post : Dev → Prop}
    (hr : st.dev.Runs s p m n u o) (hi : exec i st = st.act (·.opRow s p u o false f))
    (hf : f st.dev s p (st.dev.eng s p).core m n = .ok e c) (hpost : post (retired e s p u o m c)) : Completes i st post :=
  completes_of_act hi (by rw [opRow_of_ok hr hf]; exact hpost)

/-! ### What a journalled operation leaves before the commit (R388) -/

section
variable {d : Dev} {s p u o m : Nat} {x : JEntry} {c : Core}

theorem retired_journalled_frame : ∃ regs cnts sets, retired (journalled d s p x) s p u o m c = { d with regs, cnts, sets } := by
  obtain ⟨regs, hframe⟩ := unarmed_frame d s
  exact ⟨regs, _, _, by rw [journalled, hframe]; rfl⟩

theorem ctx_retired_journalled (i : Nat) : (retired (journalled d s p x) s p u o m c).ctx i = d.ctx i := by
  obtain ⟨_, _, _, hframe⟩ := retired_journalled_frame (d := d)
  rw [hframe]
  rfl

theorem chain?_retired_journalled (a g : Nat) : (retired (journalled d s p x) s p u o m c).chain? a g = d.chain? a g := by
  obtain ⟨_, _, _, hframe⟩ := retired_journalled_frame (d := d)
  rw [hframe]
  rfl

theorem timers_retired_journalled (hs : EnginesSorted d s) :
    ((retired (journalled d s p x) s p u o m c).set s).timers = (d.set s).timers := by
  have hu := hs.of_sets (sets_unarmed d s)
  have hj : EnginesSorted ((journalled d s p x).bump (Dev.setBase s + 0x138)) s := (hu.setEng p _).of_sets rfl
  calc ((retired (journalled d s p x) s p u o m c).set s).timers
      = ((journalled d s p x).set s).timers := hj.timers_setEng p _
    _ = ((unarmed d s).set s).timers := hu.timers_setEng p _
    _ = (d.set s).timers := by rw [set_of_sets (sets_unarmed d s)]

end

/-! ### Operations that change no set (R190, R297, R304, R322) -/

section
variable (d : Dev)

theorem sets_event (a i : Nat) : (d.event a i).sets = d.sets := by rw [Dev.event_frame]

theorem sets_raiseAs (src code : Nat) (detail : List Nat) (inj wear : Bool) : (d.raiseAs src code detail inj wear).sets = d.sets := by
  have hframe := d.raiseAs_frame src code detail inj wear
  dsimp only at hframe
  rw [hframe]

theorem sets_setHalf (h : Nat) (f : Half → Half) : (d.setHalf h f).sets = d.sets := by
  unfold Dev.setHalf
  split <;> rfl

theorem sets_sendPfc (i quanta : Nat) : (d.sendPfc i quanta).sets = d.sets := by
  unfold Dev.sendPfc
  dsimp only
  split
  · rfl
  · exact foldl_keeps (·.sets) (fun e p => by split <;> rfl) _ _

theorem sets_pressPort (i : Nat) : (d.pressPort i).sets = d.sets := by
  unfold Dev.pressPort
  dsimp only
  split
  · rfl
  · split
    · exact sets_sendPfc _ i _
    · split
      · exact sets_sendPfc _ i _
      · rfl

theorem sets_press : d.press.sets = d.sets := by
  unfold Dev.press
  split
  · rfl
  · exact foldl_keeps (·.sets) sets_pressPort _ d

theorem sets_judge (h : Nat) : (d.judge h).sets = d.sets := by
  have henter (e : Dev) (b : Prop) [Decidable b] (a i k : Nat) : (if b then (e.event a i).bump k else e).sets = e.sets := by
    split
    · exact sets_event e a i
    · rfl
  unfold Dev.judge
  simp only [sets_press, henter, sets_setHalf]

end

theorem sets_allocN {d d' : Dev} {h c n holder admIf : Nat} {k : AllocKind} {bytes : List Byte} {r : Nat × Nat}
    (ha : d.allocN h c n k holder admIf bytes = (d', .ok r)) : d'.sets = d.sets := by
  unfold Dev.allocN at ha
  split at ha
  · cases ha
  · split at ha
    · cases ha
    · cases ha
      rw [sets_judge]
      split <;> exact sets_setHalf d h _

theorem sets_recordBrick {d d' : Dev} {q : Nat} {b : Option (Nat × Nat)} (h : d.recordBrick q = (d', .ok b)) : d'.sets = d.sets := by
  unfold Dev.recordBrick at h
  split at h
  · split at h
    · cases h
    · next ha =>
      cases h
      exact sets_allocN ha
  · cases h
    rfl

theorem sets_itemPlace {d d' : Dev} {q nb holder : Nat} {w : List Nat} {b : Nat × Nat} (h : d.itemPlace q nb holder w = (d', .ok b)) :
    d'.sets = d.sets := by
  unfold Dev.itemPlace at h
  dsimp only at h
  split at h
  · cases h
  · exact sets_allocN h

theorem sets_xferAllowed (d : Dev) (mlen : Nat) : (d.xferAllowed mlen).1.sets = d.sets := by
  unfold Dev.xferAllowed
  dsimp only
  split <;> rfl

theorem sets_judgeQueue (d : Dev) (x : Desc) (q : Nat) : (d.judgeQueue x q).1.sets = d.sets := by
  unfold Dev.judgeQueue
  dsimp only
  generalize hmeter : (if q ≥ 55296 then _ else _ : Dev × Option Nat) = y
  have hy : y.1.sets = d.sets := by
    rw [← hmeter]
    split
    · rfl
    · split
      · rfl
      · split <;> rfl
  split
  · exact hy
  · split <;> split <;> exact hy

/-- A queue read without error. -/
theorem sets_readQueue {d d' : Dev} {x : Desc} {q : Nat} (h : d.readQueue x q = (d', none)) : d'.sets = d.sets := by
  unfold Dev.readQueue at h
  split at h
  · cases h
  · next e hq =>
    have he : e = d := by
      unfold Dev.queueStateError at hq
      split at hq
      · cases hq
      · cases hq
        rfl
    have hj := sets_judgeQueue e x q
    rw [h, he] at hj
    exact hj

theorem sets_placeHeld {d d' : Dev} {x : Desc} {q : Nat} {moves : Bool} {w : Waiting} (h : d.placeHeld x q moves = (d', .ok w)) :
    d'.sets = d.sets := by
  unfold Dev.placeHeld at h
  dsimp only at h
  split at h
  · cases h
  · split at h
    · cases h
    · next e hjudged =>
      have he : e.sets = d.sets := by
        split at hjudged
        · obtain ⟨rfl, -⟩ := Prod.mk.inj hjudged
          exact sets_xferAllowed d x.mlen
        · exact sets_readQueue hjudged
      split at h
      · cases h
      · next e' _ _ hat =>
        have he' : e'.sets = e.sets := by
          split at hat
          · exact sets_allocN hat
          · split at hat
            · cases hat
              rfl
            · split at hat
              · cases hat
              · cases hat
                rfl
        split at h
        · cases h
        · next hb =>
          cases h
          exact (sets_recordBrick hb).trans (he'.trans he)

theorem sets_sliceLookup (d : Dev) (tpl : Nat) (key : List Byte) (upset : Bool) : (d.sliceLookup tpl key upset).1.sets = d.sets := by
  unfold Dev.sliceLookup
  dsimp only
  split
  · split
    · have hdrop (b : Prop) [Decidable b] (e : Dev) (a i : Nat) : (if b then e.clrBit a i else e).sets = e.sets := by
        split <;> rfl
      split <;> simp only [Dev.raiseWear, sets_event, sets_raiseAs, hdrop] <;> rfl
    · rfl
  · split <;> rfl

theorem sets_insertWay (d : Dev) (n set : Nat) (w : Way) : (d.insertWay n set w).sets = d.sets := by
  unfold Dev.insertWay
  refine foldl_keeps (·.sets) (fun e x => ?_) _ _
  unfold Dev.evict
  split <;> rfl

theorem sets_findCtx {d d' : Dev} {tpl i : Nat} {key : List Byte} {bad : Bool} (h : d.findCtx tpl key bad = (d', .ok i)) :
    d'.sets = d.sets := by
  have hlook := sets_sliceLookup d tpl key bad
  unfold Dev.findCtx at h
  dsimp only at h
  split at h
  · next e j hl =>
    cases h
    rw [hl] at hlook
    exact hlook
  · next e o _ hl =>
    rw [hl] at hlook
    split at h
    · cases h
    · split at h <;> cases h
      exact (sets_insertWay e _ _ _).trans hlook

/-! ### Results (R380) -/

theorem pc_set (c : Core) (n v : Nat) (bad : Bool) : (c.set n v bad).pc = c.pc := by
  unfold Core.set
  split <;> rfl

theorem buf_set (c : Core) (n v : Nat) (bad : Bool) : (c.set n v bad).buf = c.buf := by
  unfold Core.set
  split <;> rfl

/-- S and the buffer may be set before or after a register. -/
theorem set_reply (c : Core) (x : Nat) (w : List Nat) (n v : Nat) (bad : Bool) :
    { c with s := x, buf := w }.set n v bad = { c.set n v bad with s := x, buf := w } := by
  unfold Core.set
  split <;> rfl

theorem put_of_plain {n : Nat} (d : Dev) (c : Core) (m v : Nat) (bad : Bool) (hplain : n.testBit 49 = false) :
    put d c m n v bad = .ok d (c.set (mRd m) (v % 2 ^ widthOf n) bad) := by
  simp [put, putAt, hplain]

/-! ### Operations on contexts (R381) -/

section
variable {d : Dev} {s p m n : Nat} {c : Core}

theorem opFind_of_found {d' : Dev} {j : Nat} (hplain : n.testBit 49 = false)
    (hkeeper : keeperOn d (d.ctxHome (keyFor d s p c m).1 (keyFor d s p c m).2) = true)
    (hfind : d.findCtx (keyFor d s p c m).1 (keyFor d s p c m).2 false = (d', .ok j)) :
    opFind false d s p c m n = .ok d'
      { c.set (mRd m) (handleOf j (d'.ctx j).gen % 2 ^ widthOf n) false with s := 0, buf := (d'.ctx j).toWords } := by
  simp [opFind, hkeeper, hfind, putOk, put_of_plain _ _ _ _ _ hplain, set_reply]

theorem opRead_of_valid (hclean : c.bad (mRa m) = false) (hkeeper : keeperOn d (bits (c.reg (mRa m)) 23 0) = true)
    (hgood : d.badCtx.contains (bits (c.reg (mRa m)) 23 0) = false)
    (hcheck : d.ctxCheck (bits (c.reg (mRa m)) 23 0) (bits (c.reg (mRa m)) 31 24) = none) :
    opRead false d s p c m n = .ok d { c with s := 0, buf := (d.ctx (bits (c.reg (mRa m)) 23 0)).toWords } := by
  simp only [opRead, hclean, hkeeper, Dev.ctxBad, hgood, hcheck]
  rfl

/-- An operation on a handle that passes its checks puts its entry into the journal. -/
theorem onHandle_of_free {e : Nat → Nat → Core → Nat → Option JEntry} {j : JEntry} (hclean : c.bad (mRa m) = false)
    (hroom : (d.eng s p).journal.length < 16) (he : e (bits (c.reg (mRa m)) 23 0) (bits (c.reg (mRa m)) 31 24) c n = some j)
    (hcheck : d.ctxCheck (bits (c.reg (mRa m)) 23 0) (bits (c.reg (mRa m)) 31 24) = none)
    (hheld : heldByOther d s p (bits (c.reg (mRa m)) 23 0) = false) (hkeeper : keeperOn d (bits (c.reg (mRa m)) 23 0) = true) :
    onHandle e d s p c m n = .ok (journalled d s p j) { c with s := 0 } := by
  simp [onHandle, hclean, not_journalFull hroom, he, hkeeper, hcheck, hheld, journalAdd_of_room _ _ hroom]

theorem opCtxWrite_of_free (hclean : c.bad (mRa m) = false) (hroom : (d.eng s p).journal.length < 16) (hlen : bits n 42 37 ≤ 7)
    (hend : bits n 48 43 + bits n 42 37 ≤ 31)
    (hcheck : d.ctxCheck (bits (c.reg (mRa m)) 23 0) (bits (c.reg (mRa m)) 31 24) = none)
    (hheld : heldByOther d s p (bits (c.reg (mRa m)) 23 0) = false) (hkeeper : keeperOn d (bits (c.reg (mRa m)) 23 0) = true) :
    opCtxWrite d s p c m n =
      .ok (journalled d s p (.ctxWrite (bits (c.reg (mRa m)) 23 0) (bits (c.reg (mRa m)) 31 24) (bits n 48 43)
        ((c.buf.drop (bits n 48 43)).take (bits n 42 37 + 1)))) { c with s := 0 } :=
  onHandle_of_free hclean hroom (by simp [Nat.not_lt.mpr hlen, Nat.not_lt.mpr hend]) hcheck hheld hkeeper

/-- The image that CREATE reserves a slot for: what the buffer holds of the writable fields, under a key and the slot's new GEN. -/
def newImage (buf : List Nat) (key : Nat × List Byte) (gen : Nat) : Ctx :=
  { (({} : Ctx).write false buf) with key := key.2, tpl := key.1, gen := gen }

theorem opCtxCreate_of_place {j : Nat} (hplain : n.testBit 49 = false) (hroom : (d.eng s p).journal.length < 16)
    (hkeeper : keeperOn d (d.ctxHome (keyFor d s p c m).1 (keyFor d s p c m).2) = true)
    (hkey : d.keyHolder (keyFor d s p c m).1 (keyFor d s p c m).2 = none)
    (hheld : heldByOther d s p (d.ctxHome (keyFor d s p c m).1 (keyFor d s p c m).2) = false)
    (hbad : d.placeBad (keyFor d s p c m).1 (keyFor d s p c m).2 = false)
    (hplace : d.placeFor (keyFor d s p c m).1 (keyFor d s p c m).2 = .ok j) :
    opCtxCreate d s p c m n =
      .ok (journalled d s p (.ctxCreate j (newImage c.buf (keyFor d s p c m) (((d.ctx j).gen + 1) % 256))))
        { c.set (mRd m) (handleOf j (((d.ctx j).gen + 1) % 256) % 2 ^ widthOf n) false with s := 0 } := by
  simp [opCtxCreate, not_journalFull hroom, hkeeper, hkey, hheld, hbad, hplace, journalAdd_of_room _ _ hroom,
    put_of_plain _ _ _ _ _ hplain, set_reply, buf_set, newImage]

/-! ### Operations on chains (R303, R304) -/

/-- R304 lets a holder use what it may release. -/
theorem judgeHolder_of_release {d' : Dev} {q a g : Nat} {x : Chain} (h : d.judgeHolder q a g false = (d', some x)) (share : Bool) :
    d.judgeHolder q a g share = (d, some x) := by
  unfold Dev.judgeHolder at h ⊢
  cases hchain : d.chain? a g with
  | none => simp [hchain] at h
  | some y =>
    simp only [hchain] at h ⊢
    split at h
    · cases h
    · next hq =>
      cases h
      rw [if_neg hq]

theorem opSel_of_clean (hclean : c.bad (mRa m) = false) :
    opSel d s p c m n = .ok d { c with cur := some (nameChain (c.reg (mRa m))) } := by
  simp [opSel, hclean]

/-- A count of 0 acts as 1 (log 56). -/
theorem opAlloc_of_granted {d' : Dev} {a g : Nat} (hplain : n.testBit 49 = false) (hclean : (c.operandB m n).2 = false)
    (hroom : (d.eng s p).journal.length < 16) (hsize : (c.operandB m n).1 ≤ 128) (hon : d.halfOn (s / 32) = true)
    (halloc : d.allocN (s / 32) 2 (max 1 (c.operandB m n).1) .new (s + 1) 0xFF [] = (d', .ok (a, g))) :
    opAlloc d s p c m n = .ok (journalled d' s p (.chainAlloc a g))
      { c.set (mRd m) (chainName a g % 2 ^ widthOf n) false with s := 0 } := by
  have hroom' : (d'.eng s p).journal.length < 16 := by rwa [eng_of_sets (sets_allocN halloc)]
  have hsize' : ¬ 128 < (c.operandB m n).1 := Nat.not_lt.mpr hsize
  simp [opAlloc, hclean, not_journalFull hroom, hsize', hon, halloc, journalAdd_of_room _ _ hroom',
    put_of_plain _ _ _ _ _ hplain, set_reply, buf_set]

/-- An operation on a chain that R304 lets the set act on puts its entry into the journal. -/
theorem onChain_of_held {share ref : Bool} {e : Nat → Nat → Nat → JEntry} {a g : Nat} {x : Chain} (hclean : c.bad (mRa m) = false)
    (hcleanB : (c.operandB m n).2 = false) (hroom : (d.eng s p).journal.length < 16) (hname : nameChain (c.reg (mRa m)) = (a, g))
    (hon : d.halfOn (Dev.halfAddr a) = true) (hheld : d.judgeHolder (s + 1) a g ref = (d, some x))
    (hfull : share = true → x.refcnt < 255) :
    onChain share ref e d s p c m n = .ok (journalled d s p (e a g ((c.operandB m n).1 % 256))) { c with s := 0 } := by
  have hshare : (share && decide (255 ≤ x.refcnt)) = false := by simpa using hfull
  simp [onChain, hclean, hcleanB, not_journalFull hroom, hname, hon, hheld, hshare, journalAdd_of_room _ _ hroom]

theorem opGive_of_held {a g : Nat} {x : Chain} (hclean : c.bad (mRa m) = false) (hcleanB : (c.operandB m n).2 = false)
    (hroom : (d.eng s p).journal.length < 16) (hname : nameChain (c.reg (mRa m)) = (a, g)) (hon : d.halfOn (Dev.halfAddr a) = true)
    (hheld : d.judgeHolder (s + 1) a g true = (d, some x)) (hdest : Dev.isHolder (c.operandB m n).1 = true) :
    opGive d s p c m n = .ok (journalled d s p (.chainGive a g ((c.operandB m n).1 % 256))) { c with s := 0 } := by
  have hchain : onChain false true (fun a g dest => .chainGive a g dest) d s p c m n = _ :=
    onChain_of_held hclean hcleanB hroom hname hon hheld nofun
  simp [opGive, hdest, hchain]

/-! ### Operations on queues and timers (R400 to R403) -/

/-- What ENQ places of a chain of `len` bytes: the item's own packet, or a descriptor that the engine originates (R401). -/
def enqDesc (d : Dev) (s p : Nat) (c : Core) (len a g : Nat) : Desc :=
  match ownPacket d s p c with
  | some o => { o with mlen := len }
  | none => originDesc d.epochs.curTag d.now 0 len a g

theorem opEnq_of_place {d' : Dev} {a g : Nat} {x : Chain} {w : Waiting} (hclean : c.bad (mRa m) = false) (hq : c.reg (mRa m) < 65536)
    (hroom : (d.eng s p).journal.length < 16) (hlow : c.reg (mRa m) < 55296 → allowed d s 3 = true)
    (hhigh : 63488 ≤ c.reg (mRa m) → allowed d s 2 = true) (hcur : c.cur = some (a, g))
    (hqueue : d.halfOn (Dev.halfOfQueue (c.reg (mRa m))) = true) (hchain : d.halfOn (Dev.halfAddr a) = true)
    (hset : 55296 ≤ c.reg (mRa m) → c.reg (mRa m) < 63488 → d.isOn (38 + setOfQueue (c.reg (mRa m))) = true)
    (hheld : d.judgeHolder (s + 1) a g true = (d, some x))
    (hplace : d.placeHeld (enqDesc d s p c x.bytes.length a g) (c.reg (mRa m)) true = (d', .ok w)) :
    opEnq d s p c m n =
      .ok (journalled d' s p (.enq (c.reg (mRa m)) w (a, g) (ownPacket d s p c).isSome)) { c with s := 0 } := by
  have hroom' : (d'.eng s p).journal.length < 16 := by rwa [eng_of_sets (sets_placeHeld hplace)]
  have hperm : (decide (c.reg (mRa m) < 55296) && !allowed d s 3 || decide (63488 ≤ c.reg (mRa m)) && !allowed d s 2) = false := by
    simpa using ⟨hlow, hhigh⟩
  have hdown :
      (decide (55296 ≤ c.reg (mRa m)) && decide (c.reg (mRa m) < 63488) && !d.isOn (38 + setOfQueue (c.reg (mRa m)))) = false := by
    simpa using hset
  cases hown : ownPacket d s p c
  all_goals
    rw [enqDesc, hown] at hplace
    simp [opEnq, hclean, Nat.not_le.mpr hq, hperm, not_journalFull hroom, hcur, hqueue, hchain, hdown, hheld, hown, hplace,
      journalAdd_of_room _ _ hroom']

/-- The course that an injection block names, 31 that of the engine's own packet (R400). -/
def injectName (own : Option Desc) (w : List Nat) : Nat :=
  if bits (word w 0) 28 24 = 31 then (own.map (·.ledger)).getD 0 else bits (word w 0) 28 24

theorem opInject_of_room {a g : Nat} {x : Chain} {w : List Nat} (hclean : c.bad (mRa m) = false) (hperm : allowed d s 1 = true)
    (hroom : (d.eng s p).journal.length < 16) (hmem : c.reg (mRa m) + 32 ≤ setMemSize)
    (hpoison : d.memPoison s p (c.reg (mRa m)) 32 = false) (hcur : c.cur = some (a, g)) (hw : d.block s p (c.reg (mRa m)) 8 = w)
    (hblock : injectOk w = true) (hown : (word w 0).testBit 31 = true → (ownPacket d s p c).isSome = true)
    (hcourse : d.courseOn (injectName (ownPacket d s p c) w) = true) (hchain : d.halfOn (Dev.halfAddr a) = true)
    (hheld : d.judgeHolder (s + 1) a g true = (d, some x)) (hplace : d.injectRoom (injectName (ownPacket d s p c) w) = true) :
    ∃ y : Desc, y.msrc = bits (word w 1) 17 16 ∧ y.tsSet = word w 4 ∧
      opInject d s p c m n =
        .ok (journalled d s p (.inject (injectName (ownPacket d s p c) w) (bits (word w 0) 9 0) y ((word w 0).testBit 31)))
          { c with s := 0 } := by
  have hret : ((word w 0).testBit 31 && (ownPacket d s p c).isNone) = false := by simpa using hown
  refine ⟨?y, ?msrc, ?tsSet, ?op⟩
  case op =>
    unfold opInject
    rw [injectName] at hcourse hplace
    simp only [hclean, hperm, not_journalFull hroom, gt_iff_lt, Nat.not_lt.mpr hmem, hpoison, hcur, hw, hblock, hret, hchain, hheld,
      hcourse, hplace, Bool.not_true, Bool.false_eq_true, Bool.or_self, if_false]
    exact journalAdd_of_room _ _ hroom
  case msrc => rfl
  case tsSet => rfl

/-- The item that SEND makes of the block `w`: its tag, ITEM_ID and source are the set's own (R402, log 58). -/
def sentItem (d : Dev) (s : Nat) (w : List Nat) : List Nat :=
  withBits (word w 0) 27 27 d.epochs.curTag :: (d.set s).sends ::
    ((d.slot d.epochs.curTag).num <<< 16 + (s + 1) <<< 8 + word w 2 % 256) :: w.drop 3

/-- What waits at the dispatch queue once SEND commits. -/
def sentWaiting (q now : Nat) (w : List Nat) (b : Nat × Nat) : Waiting :=
  { desc := { queue := q }, enq := now, nb := 1, item := some w, brk := some b }

theorem opSend_of_place {d' : Dev} {b : Nat × Nat} (hs : Map.sorted d.sets = true) (hclean : c.bad (mRa m) = false)
    (hcleanB : (c.operandB m n).2 = false) (hperm : allowed d s 0 = true) (hroom : (d.eng s p).journal.length < 16)
    (hmem : c.reg (mRa m) + 128 ≤ setMemSize)
    (hlow : 55296 ≤ (c.operandB m n).1) (hhigh : (c.operandB m n).1 < 63488)
    (hpoison : d.memPoison s p (c.reg (mRa m)) 128 = false) (hset : d.isOn (38 + setOfQueue (c.operandB m n).1) = true)
    (hqueue : d.halfOn (Dev.halfOfQueue (c.operandB m n).1) = true)
    (hplace : d.itemPlace (c.operandB m n).1 0 0 (sentItem d s (d.block s p (c.reg (mRa m)) 32)) = (d', .ok b)) :
    opSend d s p c m n =
      .ok (journalled (countSend d' s) s p (.send (c.operandB m n).1
        (sentWaiting (c.operandB m n).1 d'.now (sentItem d s (d.block s p (c.reg (mRa m)) 32)) b))) { c with s := 0 } := by
  have hroom' : ((countSend d' s).eng s p).journal.length < 16 := by
    have hsets := sets_itemPlace hplace
    rwa [eng_countSend s p (hsets ▸ hs), eng_of_sets hsets]
  rw [sentItem] at hplace
  have hrange : (decide (setMemSize < c.reg (mRa m) + 128) || decide ((c.operandB m n).1 < 55296) ||
      decide (63488 ≤ (c.operandB m n).1)) = false := by
    simp [Nat.not_lt.mpr hmem, Nat.not_lt.mpr hlow, Nat.not_le.mpr hhigh]
  simp only [opSend, hclean, hcleanB, hperm, not_journalFull hroom, gt_iff_lt, hrange, hpoison, hset, hqueue, hplace, Bool.not_true,
    Bool.or_self, Bool.false_eq_true, if_false]
  exact journalAdd_of_room _ _ hroom'

/-- The timer that the block `w` arms (R403). -/
def armEntry (w : List Nat) : JEntry :=
  .tarm (bits (word w 0) 11 0) (word w 1) (bits (word w 2) 26 24) (bits (word w 2) 23 20) (word w 3)

theorem opTarm_of_room (hclean : c.bad (mRa m) = false) (hroom : (d.eng s p).journal.length < 16)
    (hmem : c.reg (mRa m) + 16 ≤ setMemSize) (hpoison : d.memPoison s p (c.reg (mRa m)) 16 = false) :
    opTarm d s p c m n = .ok (journalled d s p (armEntry (d.block s p (c.reg (mRa m)) 4))) c := by
  simp [opTarm, hclean, Nat.not_lt.mpr hmem, hpoison, journalAdd_of_room _ _ hroom, armEntry]

theorem opTcancel_of_room (hclean : c.bad (mRa m) = false) (hroom : (d.eng s p).journal.length < 16) (ht : c.reg (mRa m) < 4096) :
    opTcancel d s p c m n = .ok (journalled d s p (.tcancel (c.reg (mRa m)))) c := by
  simp [opTcancel, hclean, Nat.not_le.mpr ht, journalAdd_of_room _ _ hroom]

end

end Sys2Proof.Proofs.EngineActs
end

section
open Sys2Proof Sys2Proof.Machine Sys2Proof.Proofs.EngineActs

/-- Settles O34, a unit's operation at a time. -/
theorem contextChainAndQueueOperations : Obligations.ContextChainAndQueueOperations := by
  intro s set pos m n u o hcan hr
  have hsorted := enginesSorted_of_canonical hcan set
  have hsame {e : Dev} (he : e.sets = s.dev.sets) := LeavesEngine.of_sets hcan he set pos
  have hkept := hsame (e := s.dev) rfl
  refine ⟨?find, ?read, ?write, ?free, ?create, ?sel, ?alloc, ?acts, ?enq, ?inject, ?send, ?tarm, ?tcancel⟩
  case find =>
    rintro j d' rfl rfl hplain hkeeper hfind
    exact completes_of_op hr rfl (opFind_of_found hplain hkeeper hfind)
      (retires_retired hr (hsame (sets_findCtx hfind)) (pc_set _ _ _ _))
  case read =>
    rintro rfl rfl ⟨hclean, -⟩ hkeeper hgood hcheck
    exact completes_of_op hr rfl (opRead_of_valid hclean hkeeper hgood hcheck) (retires_retired hr hkept rfl)
  case write =>
    rintro rfl rfl ⟨hclean, -⟩ hroom - ⟨hcheck, hheld, hkeeper⟩ hlen hend
    exact completes_of_op hr rfl (opCtxWrite_of_free hclean hroom hlen hend hcheck hheld hkeeper)
      ⟨retires_retired hr (hkept.journalled _) rfl, ctx_retired_journalled _⟩
  case free =>
    rintro rfl rfl ⟨hclean, -⟩ hroom - ⟨hcheck, hheld, hkeeper⟩
    exact completes_of_op hr rfl (onHandle_of_free hclean hroom rfl hcheck hheld hkeeper)
      ⟨retires_retired hr (hkept.journalled _) rfl, ctx_retired_journalled _⟩
  case create =>
    rintro j rfl rfl hplain hroom - hkeeper hkey hheld hbad hplace
    exact completes_of_op hr rfl (opCtxCreate_of_place hplain hroom hkeeper hkey hheld hbad hplace)
      ⟨newImage _ _ _, rfl, rfl, rfl, retires_retired hr (hkept.journalled _) (pc_set _ _ _ _), ctx_retired_journalled _⟩
  case sel =>
    rintro rfl rfl hclean
    exact completes_of_op hr rfl (opSel_of_clean hclean) (retires_retired hr hkept rfl)
  case alloc =>
    rintro d' h g rfl rfl hplain hclean hroom - hsize hon halloc - -
    exact completes_of_op hr rfl (opAlloc_of_granted hplain hclean hroom hsize hon halloc)
      ⟨retires_retired hr ((hsame (sets_allocN halloc)).journalled _) (pc_set _ _ _ _), chain?_retired_journalled _ _⟩
  case acts =>
    rintro h g d' c rfl ⟨hclean, hcleanB⟩ hroom - hname hon
    refine ⟨?share, ?rest⟩
    case share =>
      rintro rfl hheld hfull rfl
      exact completes_of_op hr rfl (onChain_of_held hclean hcleanB hroom hname hon hheld fun _ => hfull)
        ⟨retires_retired hr (hkept.journalled _) rfl, chain?_retired_journalled _ _⟩
    case rest =>
      intro hheld _
      have hheld := judgeHolder_of_release hheld
      refine ⟨?release, ?free, ?give⟩
      case release =>
        rintro rfl
        exact completes_of_op hr rfl (onChain_of_held hclean hcleanB hroom hname hon (hheld false) nofun)
          ⟨retires_retired hr (hkept.journalled _) rfl, chain?_retired_journalled _ _⟩
      case free =>
        rintro rfl
        exact completes_of_op hr rfl (onChain_of_held hclean hcleanB hroom hname hon (hheld false) nofun)
          ⟨retires_retired hr (hkept.journalled _) rfl, chain?_retired_journalled _ _⟩
      case give =>
        rintro rfl hdest
        exact completes_of_op hr rfl (opGive_of_held hclean hcleanB hroom hname hon (hheld true) hdest)
          ⟨retires_retired hr (hkept.journalled _) rfl, chain?_retired_journalled _ _⟩
  case enq =>
    rintro h g c d' w rfl rfl hclean hq hroom hlow hhigh hcur hqueue hchain hset hheld hplace -
    have hheld := judgeHolder_of_release hheld true
    exact completes_of_op hr rfl (opEnq_of_place hclean hq hroom hlow hhigh hcur hqueue hchain hset hheld hplace)
      (retires_retired hr ((hsame (sets_placeHeld hplace)).journalled _) rfl)
  case inject =>
    rintro h g c rfl rfl hclean hperm hroom hmem hpoison hcur w own ret name hblock hown hcourse hchain hheld hplace
    obtain ⟨y, hmsrc, htsSet, hop⟩ := opInject_of_room hclean hperm hroom hmem hpoison hcur rfl hblock hown hcourse hchain
      (judgeHolder_of_release hheld true) hplace
    exact completes_of_op hr rfl hop ⟨y, hmsrc, htsSet, retires_retired hr (hkept.journalled _) rfl⟩
  case send =>
    rintro d' v rfl rfl ⟨hclean, hcleanB⟩ hperm hroom hmem hlow hhigh hpoison hset hqueue w tag sent hplace -
    exact completes_of_op hr rfl
      (opSend_of_place hcan.sets hclean hcleanB hperm hroom hmem hlow hhigh hpoison hset hqueue hplace)
      ⟨sentWaiting _ _ _ _, rfl, rfl, retires_retired hr ((hsame (sets_itemPlace hplace)).countSend.journalled _) rfl⟩
  case tarm =>
    rintro rfl rfl hclean hroom hmem hpoison
    exact completes_of_op hr rfl (opTarm_of_room hclean hroom hmem hpoison)
      ⟨retires_retired hr (hkept.journalled _) rfl, timers_retired_journalled hsorted⟩
  case tcancel =>
    rintro rfl rfl hclean hroom ht
    exact completes_of_op hr rfl (opTcancel_of_room hclean hroom ht)
      ⟨retires_retired hr (hkept.journalled _) rfl, timers_retired_journalled hsorted⟩

end

section
/-! SUPPORT. The proof about the memory of a set (O60): what a memory reads after bytes have been written to it one by one. -/

namespace Sys2Proof.Proofs.SetMemory

open Sys2Proof Sys2Proof.Machine

/-- The memory `m` with the bytes `l` written from address `a` on, as `Dev.memWrite` writes them. -/
def putBytes (m : Map Byte) (a : Nat) (l : List Byte) : Map Byte := (l.zipIdx a).foldl (fun m e => Map.putD m e.2 0 e.1) m

theorem putBytes_cons (m : Map Byte) (a : Nat) (b : Byte) (l : List Byte) :
    putBytes m a (b :: l) = putBytes (Map.putD m a 0 b) (a + 1) l := rfl

theorem sorted_of_wf {m : Map Byte} (h : Memory.wf m = true) : Map.sorted m = true := ((Map.wf_iff m 0).mp h).1

/-- An address that none of the bytes goes to. -/
theorem getD_putBytes_of_outside {m : Map Byte} {a q : Nat} {l : List Byte} (hq : q < a ∨ a + l.length ≤ q)
    (hs : Map.sorted m = true) : Map.getD (putBytes m a l) q 0 = Map.getD m q 0 := by
  induction l generalizing m a with
  | nil => rfl
  | cons b l ih =>
    rw [List.length_cons] at hq
    rw [putBytes_cons, ih (by omega) (Map.sorted_putD a 0 b hs), Map.getD_putD_of_ne 0 b (by omega) hs]

/-- The address that the byte of index `i` goes to. -/
theorem getD_putBytes_of_inside {m : Map Byte} {a i : Nat} {l : List Byte} (hi : i < l.length) (hs : Map.sorted m = true) :
    Map.getD (putBytes m a l) (a + i) 0 = l[i] := by
  induction l generalizing m a i with
  | nil => simp at hi
  | cons b l ih =>
    have hs' := Map.sorted_putD a 0 b hs
    rw [putBytes_cons]
    cases i with
    | zero => rw [getD_putBytes_of_outside (by omega) hs', Nat.add_zero, Map.getD_putD_self a 0 b hs, List.getElem_cons_zero]
    | succ i => rw [show a + (i + 1) = a + 1 + i by omega, ih (Nat.lt_of_succ_lt_succ hi) hs', List.getElem_cons_succ]

section
variable {d : Dev} {s a : Nat} {l : List Byte}

/-- The set that is written. -/
theorem set_memWrite_self (hs : Map.sorted d.sets = true) :
    (d.memWrite s a l).set s =
      { d.set s with
        mem := putBytes (d.set s).mem a l,
        poison := (d.set s).poison.filter fun w => !(a ≤ 8 * w && 8 * w + 8 ≤ a + l.length) } :=
  d.set_setSet_self s _ hs

theorem memRead_memWrite_self (hs : Map.sorted d.sets = true) (hm : Map.sorted (d.set s).mem = true) :
    (d.memWrite s a l).memRead s a l.length = l := by
  refine List.ext_getElem (by simp [Dev.memRead]) fun i _ hi => ?_
  simp only [Dev.memRead, List.getElem_map, List.getElem_range, set_memWrite_self hs]
  exact getD_putBytes_of_inside hi hm

theorem memRead_memWrite_of_outside {b n : Nat} (hs : Map.sorted d.sets = true) (hm : Map.sorted (d.set s).mem = true)
    (hout : b + n ≤ a ∨ a + l.length ≤ b) : (d.memWrite s a l).memRead s b n = d.memRead s b n := by
  refine List.map_congr_left fun i hi => ?_
  have hi := List.mem_range.mp hi
  rw [set_memWrite_self hs, getD_putBytes_of_outside (by omega) hm]

/-- R580: only a word that the bytes fill is POISONED no longer. -/
theorem mem_poison_memWrite (hs : Map.sorted d.sets = true) (w : Nat) :
    w ∈ ((d.memWrite s a l).set s).poison ↔ w ∈ (d.set s).poison ∧ ¬ (a ≤ 8 * w ∧ 8 * w + 8 ≤ a + l.length) := by
  rw [set_memWrite_self hs, List.mem_filter, ← Bool.decide_and, ← decide_not, decide_eq_true_iff]

end

end Sys2Proof.Proofs.SetMemory
end

section
open Sys2Proof Sys2Proof.Machine Sys2Proof.Proofs.SetMemory

/-- Settles O60: each byte goes to its own address, in the order of the bytes. -/
theorem setMemoryReadsWhatWasWritten : Obligations.SetMemoryReadsWhatWasWritten := by
  intro d s a l hs hwf
  have hm := sorted_of_wf hwf
  refine ⟨memRead_memWrite_self hs hm, fun b n hout => memRead_memWrite_of_outside hs hm hout,
    fun t ht => d.set_setSet_of_ne _ ht hs, ?wf, mem_poison_memWrite hs, rfl⟩
  rw [set_memWrite_self hs]
  exact Dev.foldl_put_wf _ _ hwf

end

section
/-! SUPPORT. The proofs about operations on memory, packets, CRC and time (O33): a state that refutes the clause on RDW, its nanoword one
that sets the flags; and each clause of the statement as a theorem on its row, that on RDW for every nanoword without SETCC. -/

namespace Sys2Proof.Proofs.MemoryOps

open Sys2Proof Sys2Proof.Machine
open Sys2Proof.Proofs.EpochLife (get?_adjust)
open Sys2Proof.Proofs.EngineActs

/-! ### Addresses and widths (R380) -/

/-- Bytes of WIDTH. -/
abbrev bytesOf (n : Nat) : Nat := widthOf n / 8

theorem eight_mul_bytesOf (n : Nat) : 8 * bytesOf n = widthOf n := by simp [bytesOf, widthOf]

/-- A result of an operation that sets no flag. -/
abbrev resultOf (c : Core) (m n v : Nat) (bad : Bool) : Core := c.set (mRd m) (v % 2 ^ widthOf n) bad

theorem putOk_of_plain {n : Nat} (d : Dev) (c : Core) (m v : Nat) (bad : Bool) (hplain : n.testBit 49 = false) :
    putOk d c m n v bad = .ok d { resultOf c m n v bad with s := 0 } := by
  rw [putOk, put_of_plain _ _ _ _ _ hplain, resultOf, Core.set, Core.set]
  split <;> rfl

/-! ### What the operations come to (R381, R385) -/

section
variable {d : Dev} {s p m n a h g : Nat} {k : Core} {c : Chain}

theorem opStore_of_inside (add : Bool) (ha : addrOf k m n = (a, false)) (hclean : k.bad (mRd m) = false)
    (hin : a + bytesOf n ≤ setMemSize) (hmay : storeForbidden a (bytesOf n) = false) :
    opStore add d s p k m n =
      journalAdd d s p k (if add then .addc a (bytesOf n) (k.reg (mRd m) % 2 ^ widthOf n)
        else .st a (bytesOf n) (k.reg (mRd m) % 2 ^ widthOf n)) := by
  simp [opStore, ha, hclean, Nat.not_lt.mpr hin, hmay, eight_mul_bytesOf]

theorem opRdw_of_plain (hplain : n.testBit 49 = false) (hlow : mRd m ≠ 0) (hhigh : mRd m ≠ 31) :
    opRdw d s p k m n = .ok d ((k.set (mRd m) d.wallSec false).set (mRd m + 1) d.wallNs false) := by
  simp [opRdw, putAt, hlow, hhigh, hplain]

/-- A current chain that is valid, in a half that is on. -/
theorem curChain_of_valid (hcur : k.cur = some (h, g)) (hon : d.halfOn (Dev.halfAddr h) = true)
    (hchain : d.chain? h g = some c) (f : Dev → Nat → Nat → Chain → OpOut) : curChain d k f = f d h g c := by
  simp [curChain, hcur, hon, hchain]

theorem resultOf_pktEnd (v : Nat) (bad e : Bool) :
    resultOf { k with pktEnd := e } m n v bad = { resultOf k m n v bad with pktEnd := e } := by
  rw [resultOf, resultOf, Core.set, Core.set]
  split <;> rfl

/-- A load of bytes that all lie in the chain. -/
theorem opPld_of_inside (hplain : n.testBit 49 = false) (ha : addrOf k m n = (a, false))
    (hcur : k.cur = some (h, g)) (hon : d.halfOn (Dev.halfAddr h) = true) (hchain : d.chain? h g = some c)
    (hin : a + bytesOf n ≤ c.bytes.length) (hmax : a + bytesOf n ≤ 16383) :
    opPld d s p k m n =
      .ok d { resultOf k m n (ofBE (slice c.bytes a (bytesOf n))) c.poison with s := 0, pktEnd := false } := by
  have hover : a + bytesOf n - c.bytes.length = 0 := Nat.sub_eq_zero_of_le hin
  have hfree : d.freeBytes 0 = [] := rfl
  simp only [opPld, ha, curChain_of_valid hcur hon hchain, gt_iff_lt, Nat.not_lt.mpr hmax, hover, hfree, Nat.min_zero, List.append_nil,
    Dev.used, Nat.add_zero, Nat.lt_irrefl, decide_false, Bool.false_eq_true, if_false, putOk_of_plain _ _ _ _ _ hplain,
    resultOf_pktEnd]

theorem half_setHalf (d : Dev) (x : Nat) (f : Half → Half) : (d.setHalf x f).half x = f (d.half x) := by
  unfold Dev.setHalf Dev.half
  split <;> rfl

theorem setHalf_self (d : Dev) (x : Nat) : (d.setHalf x fun _ => d.half x) = d := by
  unfold Dev.setHalf Dev.half
  split <;> rfl

/-- The chain once it has been changed in place, its GEN kept. -/
theorem chain?_setChain {f : Chain → Chain} (hgen : ∀ x, (f x).gen = x.gen) (hchain : d.chain? h g = some c) :
    (d.setChain h f).chain? h g = some (f c) := by
  obtain ⟨hget, hcg⟩ := Option.filter_eq_some_iff.mp hchain
  simp only [Dev.chain?, Dev.setChain, half_setHalf, get?_adjust, hget, if_true, Option.map_some]
  simpa [Option.filter, hgen] using hcg

theorem takeBricks_zero (x : Half) : Dev.takeBricks x 0 = (x, []) := by
  have hnone : ∀ fuel, Dev.freshFrom x.retired fuel x.fresh 0 = ([], x.fresh) := fun fuel => by cases fuel <;> rfl
  simp [Dev.takeBricks, hnone]

/-- A chain whose bytes a store has made `l`, poisoned where the register stored was. -/
def stored (l : List Byte) (bad : Bool) (x : Chain) : Chain :=
  { x with bytes := l, modified := true, poison := x.poison || bad }

/-- A store into the set's own chain, inside the bytes and bricks that it has. -/
theorem opPst_of_inside (ha : addrOf k m n = (a, false)) (hcur : k.cur = some (h, g))
    (hon : d.halfOn (Dev.halfAddr h) = true) (hchain : d.chain? h g = some c) (hsole : c.refcnt = 1) (hown : c.holder = s + 1)
    (hin : a + bytesOf n ≤ c.bytes.length) (hmax : a + bytesOf n ≤ 16383) (hbricks : Dev.bricksFor c.bytes.length ≤ c.bricks.length) :
    opPst d s p k m n =
      .ok (d.setChain h (stored (patch c.bytes a (beBytes (bytesOf n) (k.reg (mRd m)))) (k.bad (mRd m)))) { k with s := 0 } := by
  have hle : a ≤ c.bytes.length := Nat.le_trans (Nat.le_add_right _ _) hin
  have hlen : max c.bytes.length (a + bytesOf n) = c.bytes.length := Nat.max_eq_left hin
  have hmore : Dev.bricksFor c.bytes.length - c.bricks.length = 0 := Nat.sub_eq_zero_of_le hbricks
  have hfree : d.freeBytes 0 = [] := rfl
  have hstored : stored = fun l bad x => { x with bytes := l, modified := true, poison := x.poison || bad } := rfl
  simp [opPst, ha, curChain_of_valid hcur hon hchain, hsole, hown, Nat.not_lt.mpr hmax, hlen, Nat.max_eq_right hle,
    Nat.sub_eq_zero_of_le hle, hmore, hfree, takeBricks_zero, setHalf_self, Dev.used, hstored]

end

/-! ### What a journalled operation leaves before the commit (R388) -/

section
variable {d : Dev} {s : Nat}

theorem mem_setEng (hs : EnginesSorted d s) (p : Nat) (f : Engine → Engine) :
    ((d.setEng s p f).set s).mem = (d.set s).mem := by rw [hs.set_setEng]

theorem mem_retired_journalled {p u o m : Nat} {x : JEntry} {c : Core} (hs : EnginesSorted d s) :
    ((retired (journalled d s p x) s p u o m c).set s).mem = (d.set s).mem := by
  have hu := hs.of_sets (sets_unarmed d s)
  have hj : EnginesSorted ((journalled d s p x).bump (Dev.setBase s + 0x138)) s := (hu.setEng p _).of_sets rfl
  calc ((retired (journalled d s p x) s p u o m c).set s).mem
      = ((journalled d s p x).set s).mem := mem_setEng hj p _
    _ = ((unarmed d s).set s).mem := mem_setEng hu p _
    _ = (d.set s).mem := by rw [set_of_sets (sets_unarmed d s)]

theorem time_retired_journalled {p u o m : Nat} {x : JEntry} {c : Core} :
    (retired (journalled d s p x) s p u o m c).time = d.time := by
  obtain ⟨_, _, _, hframe⟩ := retired_journalled_frame (d := d)
  rw [hframe]

end

/-! ### The clauses that hold, row by row -/

section
variable {st : State} {set : Fin 64} {pos : Fin 9} {m n a : Nat} {k : Core} (hcan : st.dev.Canonical)
  (hk : (st.dev.eng set pos).core = k)
include hcan hk

/-- An operation that changes no set and comes to the core `c` retires with it, the journal as it was. -/
theorem retires_of_op {i : Instr} {u o : Nat} {f : OpFn} {d : Dev} {c : Core} (hr : st.dev.Runs set pos m n u o)
    (hi : exec i st = st.act (·.opRow set pos u o false f)) (hf : f st.dev set pos k m n = .ok d c) (hd : d.sets = st.dev.sets)
    (hpc : c.pc = k.pc) :
    Completes i st fun e => st.dev.Retires e set pos m (waits u o) c (st.dev.eng set pos).journal :=
  completes_of_op hr hi (hk ▸ hf) (retires_retired hr (.of_sets hcan hd set pos) (hk ▸ hpc))

/-- An operation that puts one entry into the journal retires with it, set memory and the time base as they were. -/
theorem journals_of_op {i : Instr} {u o : Nat} {f : OpFn} {x : JEntry} (hr : st.dev.Runs set pos m n u o)
    (hi : exec i st = st.act (·.opRow set pos u o false f))
    (hf : f st.dev set pos k m n = journalAdd st.dev set pos k x) (hroom : (st.dev.eng set pos).journal.length < 16) :
    Completes i st fun d =>
      st.dev.Retires d set pos m (waits u o) k ((st.dev.eng set pos).journal ++ [x]) ∧
        (d.set set).mem = (st.dev.set set).mem ∧ d.time = st.dev.time :=
  completes_of_op hr hi (hk ▸ hf.trans (journalAdd_of_room _ _ hroom))
    ⟨retires_retired hr ((LeavesEngine.of_sets hcan rfl set pos).journalled x) (hk ▸ rfl),
      mem_retired_journalled (enginesSorted_of_canonical hcan set), time_retired_journalled⟩

theorem engLd_retires (hr : st.dev.Runs set pos m n 3 0) (hplain : n.testBit 49 = false) (ha : addrOf k m n = (a, false))
    (hin : a + bytesOf n ≤ setMemSize) :
    Completes (.engLd set pos false) st fun d =>
      st.dev.Retires d set pos m true
        (resultOf k m n (ofLE (st.dev.memSeen set pos a (bytesOf n))) (st.dev.memPoison set pos a (bytesOf n)))
        (st.dev.eng set pos).journal :=
  retires_of_op hcan hk hr rfl (by simp [opLd, ha, Nat.not_lt.mpr hin, put_of_plain _ _ _ _ _ hplain]) rfl (pc_set _ _ _ _)

theorem engLdi_retires (hr : st.dev.Runs set pos m n 3 1) (hplain : n.testBit 49 = false) (ha : addrOf k m n = (a, false))
    (hin : a + bytesOf n ≤ 128) :
    Completes (.engLdi set pos false) st fun d =>
      st.dev.Retires d set pos m false
        (resultOf k m n (ofLE (slice (wordsToLE (((st.dev.eng set pos).item.map (·.words)).getD [])) a (bytesOf n))) false)
        (st.dev.eng set pos).journal :=
  retires_of_op hcan hk hr rfl (by simp [opLdi, ha, Nat.not_lt.mpr hin, put_of_plain _ _ _ _ _ hplain]) rfl (pc_set _ _ _ _)

theorem engLdc_retires (hr : st.dev.Runs set pos m n 3 2) (hplain : n.testBit 49 = false) (ha : addrOf k m n = (a, false))
    (hin : a + bytesOf n ≤ 128) :
    Completes (.engLdc set pos false) st fun d =>
      st.dev.Retires d set pos m false (resultOf k m n (ofLE (slice (wordsToLE k.buf) a (bytesOf n))) false)
        (st.dev.eng set pos).journal :=
  retires_of_op hcan hk hr rfl (by simp [opLdc, ha, Nat.not_lt.mpr hin, put_of_plain _ _ _ _ _ hplain]) rfl (pc_set _ _ _ _)

theorem engStc_retires (hr : st.dev.Runs set pos m n 3 3) (ha : addrOf k m n = (a, false)) (hin : a + bytesOf n ≤ 128) :
    Completes (.engStc set pos false) st fun d =>
      st.dev.Retires d set pos m false
        { k with buf := leWords 32 (patch (wordsToLE k.buf) a (leBytes (bytesOf n) (k.reg (mRd m)))) } (st.dev.eng set pos).journal :=
  retires_of_op hcan hk hr rfl (by simp [opStc, ha, Nat.not_lt.mpr hin]) rfl rfl

theorem engSt_journals (hr : st.dev.Runs set pos m n 3 4) (ha : addrOf k m n = (a, false)) (hclean : k.bad (mRd m) = false)
    (hin : a + bytesOf n ≤ setMemSize) (hmay : storeForbidden a (bytesOf n) = false)
    (hroom : (st.dev.eng set pos).journal.length < 16) :
    Completes (.engSt set pos false) st fun d =>
      st.dev.Retires d set pos m false k
        ((st.dev.eng set pos).journal ++ [.st a (bytesOf n) (k.reg (mRd m) % 2 ^ widthOf n)]) ∧
        (d.set set).mem = (st.dev.set set).mem ∧ d.time = st.dev.time :=
  journals_of_op hcan hk hr rfl (opStore_of_inside false ha hclean hin hmay) hroom

theorem engAddc_journals (hr : st.dev.Runs set pos m n 3 5) (ha : addrOf k m n = (a, false)) (hclean : k.bad (mRd m) = false)
    (hin : a + bytesOf n ≤ setMemSize) (hmay : storeForbidden a (bytesOf n) = false)
    (hroom : (st.dev.eng set pos).journal.length < 16) :
    Completes (.engAddc set pos false) st fun d =>
      st.dev.Retires d set pos m false k
        ((st.dev.eng set pos).journal ++ [.addc a (bytesOf n) (k.reg (mRd m) % 2 ^ widthOf n)]) ∧
        (d.set set).mem = (st.dev.set set).mem ∧ d.time = st.dev.time :=
  journals_of_op hcan hk hr rfl (opStore_of_inside true ha hclean hin hmay) hroom

section
variable {h g : Nat} {c : Chain}

theorem engPld_retires (hr : st.dev.Runs set pos m n 4 0) (hplain : n.testBit 49 = false) (ha : addrOf k m n = (a, false))
    (hcur : k.cur = some (h, g)) (hon : st.dev.halfOn (Dev.halfAddr h) = true) (hchain : st.dev.chain? h g = some c)
    (hin : a + bytesOf n ≤ c.bytes.length) (hmax : a + bytesOf n ≤ 16383) :
    Completes (.engPld set pos false) st fun d =>
      st.dev.Retires d set pos m true
        { resultOf k m n (ofBE (slice c.bytes a (bytesOf n))) c.poison with s := 0, pktEnd := false } (st.dev.eng set pos).journal :=
  retires_of_op hcan hk hr rfl (opPld_of_inside hplain ha hcur hon hchain hin hmax) rfl (pc_set _ _ _ _)

theorem engPst_retires (hr : st.dev.Runs set pos m n 4 1) (ha : addrOf k m n = (a, false)) (hcur : k.cur = some (h, g))
    (hon : st.dev.halfOn (Dev.halfAddr h) = true) (hchain : st.dev.chain? h g = some c) (hsole : c.refcnt = 1)
    (hown : c.holder = set + 1) (hin : a + bytesOf n ≤ c.bytes.length) (hmax : a + bytesOf n ≤ 16383)
    (hbricks : Dev.bricksFor c.bytes.length ≤ c.bricks.length) :
    Completes (.engPst set pos false) st fun d =>
      st.dev.Retires d set pos m true { k with s := 0 } (st.dev.eng set pos).journal ∧
        (d.chain? h g).map (·.bytes) = some (patch c.bytes a (beBytes (bytesOf n) (k.reg (mRd m)))) := by
  subst hk
  exact completes_of_op hr rfl (opPst_of_inside ha hcur hon hchain hsole hown hin hmax hbricks)
    ⟨retires_retired hr (.of_sets hcan (sets_setHalf _ _ _) set pos) rfl,
      congrArg (Option.map (·.bytes)) (chain?_setChain (f := stored _ _) (fun _ => rfl) hchain)⟩

theorem engPlen_retires (hr : st.dev.Runs set pos m n 4 2) (hplain : n.testBit 49 = false) (hcur : k.cur = some (h, g))
    (hon : st.dev.halfOn (Dev.halfAddr h) = true) (hchain : st.dev.chain? h g = some c) :
    Completes (.engPlen set pos false) st fun d =>
      st.dev.Retires d set pos m false { resultOf k m n c.bytes.length false with s := 0 } (st.dev.eng set pos).journal :=
  retires_of_op hcan hk hr rfl (by simp [opPlen, curChain_of_valid hcur hon hchain, putOk_of_plain _ _ _ _ _ hplain]) rfl
    (pc_set _ _ _ _)

end

theorem engCrc_retires (hr : st.dev.Runs set pos m n 8 0) (hplain : n.testBit 49 = false) (hclean : k.bad (mRd m) = false)
    (hin : k.reg (mRd m) + (k.operandB m n).1 ≤ setMemSize) :
    Completes (.engCrc set pos false) st fun d =>
      st.dev.Retires d set pos m true
        (resultOf k m n
          (crcOver polyC (k.reg (mRa m) % 2 ^ 32) (st.dev.memSeen set pos (k.reg (mRd m)) (k.operandB m n).1) ^^^ 0xFFFFFFFF)
          (k.bad (mRa m) || (k.operandB m n).2 || st.dev.memPoison set pos (k.reg (mRd m)) (k.operandB m n).1))
        (st.dev.eng set pos).journal :=
  retires_of_op hcan hk hr rfl (by simp [opCrc, hclean, Nat.not_lt.mpr hin, put_of_plain _ _ _ _ _ hplain]) rfl (pc_set _ _ _ _)

theorem engHash_retires (hr : st.dev.Runs set pos m n 8 1) (hplain : n.testBit 49 = false) :
    Completes (.engHash set pos false) st fun d =>
      st.dev.Retires d set pos m false
        (resultOf k m n (st.dev.ctxHash (keyOfWords k.buf).1 (keyOfWords k.buf).2) false) (st.dev.eng set pos).journal :=
  retires_of_op hcan hk hr rfl (put_of_plain _ _ _ _ _ hplain) rfl (pc_set _ _ _ _)

/-- The clause that the state below refutes, for every nanoword without SETCC. -/
theorem engRdw_retires_of_plain (hr : st.dev.Runs set pos m n 9 0) (hplain : n.testBit 49 = false) (hlow : mRd m ≠ 0)
    (hhigh : mRd m ≠ 31) :
    Completes (.engRdw set pos false) st fun d =>
      st.dev.Retires d set pos m false ((k.set (mRd m) st.dev.wallSec false).set (mRd m + 1) st.dev.wallNs false)
        (st.dev.eng set pos).journal :=
  retires_of_op hcan hk hr rfl (opRdw_of_plain hplain hlow hhigh) rfl (by rw [pc_set, pc_set])

theorem engRdi_retires (hr : st.dev.Runs set pos m n 9 1) (hplain : n.testBit 49 = false) :
    Completes (.engRdi set pos false) st fun d =>
      st.dev.Retires d set pos m false (resultOf k m n st.dev.now false) (st.dev.eng set pos).journal :=
  retires_of_op hcan hk hr rfl (put_of_plain _ _ _ _ _ hplain) rfl (pc_set _ _ _ _)

theorem timeWrite_journals {i : Instr} {o : Nat} {f : Nat → JEntry} (hr : st.dev.Runs set pos m n 9 o)
    (hi : exec i st = st.act (·.opRow set pos 9 o false (opTimeWrite f))) (hperm : allowed st.dev set 4 = true)
    (hclean : k.bad (mRa m) = false) (hroom : (st.dev.eng set pos).journal.length < 16) :
    Completes i st fun d =>
      st.dev.Retires d set pos m false k ((st.dev.eng set pos).journal ++ [f (k.reg (mRa m) % 2 ^ 32)]) ∧
        (d.set set).mem = (st.dev.set set).mem ∧ d.time = st.dev.time :=
  journals_of_op hcan hk hr hi (by simp [opTimeWrite, hperm, hclean]) hroom

theorem engWservo_journals (hr : st.dev.Runs set pos m n 9 2) (hperm : allowed st.dev set 4 = true)
    (hclean : k.bad (mRa m) = false) (hroom : (st.dev.eng set pos).journal.length < 16) :
    Completes (.engWservo set pos false) st fun d =>
      st.dev.Retires d set pos m false k ((st.dev.eng set pos).journal ++ [.wservo (k.reg (mRa m) % 2 ^ 32)]) ∧
        (d.set set).mem = (st.dev.set set).mem ∧ d.time = st.dev.time :=
  timeWrite_journals hcan hk hr rfl hperm hclean hroom

theorem engWadj_journals (hr : st.dev.Runs set pos m n 9 3) (hperm : allowed st.dev set 4 = true)
    (hclean : k.bad (mRa m) = false) (hroom : (st.dev.eng set pos).journal.length < 16) :
    Completes (.engWadj set pos false) st fun d =>
      st.dev.Retires d set pos m false k ((st.dev.eng set pos).journal ++ [.wadj (k.reg (mRa m) % 2 ^ 32)]) ∧
        (d.set set).mem = (st.dev.set set).mem ∧ d.time = st.dev.time :=
  timeWrite_journals hcan hk hr rfl hperm hclean hroom

theorem engWstep_journals (hr : st.dev.Runs set pos m n 9 4) (hperm : allowed st.dev set 4 = true)
    (hclean : k.bad (mRa m) = false) (hroom : (st.dev.eng set pos).journal.length < 16) :
    Completes (.engWstep set pos false) st fun d =>
      st.dev.Retires d set pos m false k ((st.dev.eng set pos).journal ++ [.wstep (k.reg (mRa m) % 2 ^ 32)]) ∧
        (d.set set).mem = (st.dev.set set).mem ∧ d.time = st.dev.time :=
  timeWrite_journals hcan hk hr rfl hperm hclean hroom

end

/-! ### RDW with SETCC (R380) -/

/-- A microword with RD 1 that goes on at the next address. -/
def rdwMicro : Nat := 1 <<< 28

/-- Its nanoword: RDW at 64 bits with SETCC. -/
def rdwNano : Nat := 9 <<< 60 + 3 <<< 50 + 1 <<< 49

/-- Engine 0 of set 0 about to execute them, its flags clear and the wall view at 0 seconds. -/
def readsSeconds : Dev where
  epochs := { slot0 := { progs := [(0, { micro := [rdwMicro], nano := [rdwNano] })] } }
  sets := [(0, { engines := [(0, { item := some { words := List.replicate 32 0 } })] })]

theorem readsSeconds_canonical : readsSeconds.Canonical where
  regs := rfl
  cnts := rfl
  latch := rfl
  doms := rfl
  ports := rfl
  lanes := rfl
  crs := rfl
  slcs := ⟨rfl, nofun⟩
  aus := rfl
  banks := ⟨rfl, rfl⟩
  reels := rfl
  sets := rfl
  chans := rfl
  mbxs := rfl
  mems := by decide
  engs := by decide

theorem readsSeconds_runs : readsSeconds.Runs 0 0 rdwMicro rdwNano 9 0 where
  item := rfl
  free := ⟨rfl, rfl⟩
  on := by decide
  count := by decide
  clean := by decide +kernel
  word := by decide +kernel
  unit := by decide
  op := by decide
  safe := by decide
  brk := by decide +kernel

theorem z_set (c : Core) (n v : Nat) (bad : Bool) : (c.set n v bad).z = c.z := by
  unfold Core.set
  split <;> rfl

/-- RDW leaves Z set there, the seconds being 0. -/
theorem readsSeconds_z : ((readsSeconds.opRow 0 0 9 0 false opRdw).eng 0 0).core.z = true := by decide +kernel

theorem exec_engRdw (set : Fin 64) (pos : Fin 9) (bad : Bool) (s : State) :
    exec (.engRdw set pos bad) s = s.act (·.opRow set pos 9 0 bad opRdw) := rfl

end Sys2Proof.Proofs.MemoryOps
end

section
open Sys2Proof Sys2Proof.Machine Sys2Proof.Proofs.MemoryOps

/-- Refutes O33: its clause on RDW does not ask that SETCC be 0, as the clauses on other results do, and keeps the flags of the core. An
RDW with SETCC 1 sets Z where the seconds are 0 (R379, R380). -/
theorem not_memoryPacketAndTimeOperations : ¬ Obligations.MemoryPacketAndTimeOperations := by
  intro h
  obtain ⟨-, -, -, -, -, -, -, -, hrdw, -⟩ := h ⟨readsSeconds, []⟩ 0 0 rdwMicro rdwNano 9 0 readsSeconds_canonical readsSeconds_runs
  obtain ⟨d, hexec, hcore, -⟩ := hrdw rfl rfl (by decide) (by decide)
  rw [exec_engRdw, act_iff, State.mk.injEq] at hexec
  obtain ⟨rfl, -⟩ := hexec
  have hkept : ((readsSeconds.opRow 0 0 9 0 false opRdw).eng 0 0).core.z = (readsSeconds.eng 0 0).core.z :=
    (congrArg Core.z hcore).trans ((z_set _ _ _ _).trans (z_set _ _ _ _))
  have hclear : (readsSeconds.eng 0 0).core.z = false := rfl
  exact absurd readsSeconds_z (by rw [hkept, hclear]; decide)

end

section
/-! SUPPORT. The proofs about accesses to registers without power (O12) and the mask bits of the MSI-X table (O15): what an error of the
PCIe endpoint leaves alone, and which vectors a list holds. -/

namespace Sys2Proof.Proofs.HostAccess

open Sys2Proof Sys2Proof.Machine Sys2Proof.Proofs.TimeAndSpeed

/-! ### Accesses (R447) -/

/-- An error that finds no memory word uncorrectable and is none of the time base changes the local error registers alone. -/
theorem raise_frame {d : Dev} {src code : Nat} (detail : List Nat) (hmem : Dev.memOf src code = none) (htime : code / 0x1000 ≠ 0xB) :
    d.raise src code detail = { d with faults := (d.raise src code detail).faults } := by
  simp only [Dev.raise, Dev.raiseAs, hmem, if_neg htime]

theorem offAccess_frame (d : Dev) : d.offAccess = { d with faults := d.offAccess.faults } := raise_frame [] rfl (by decide)

theorem offAccess_raised (d : Dev) : d.offAccess.Raised 0xD080 0xD002 := raised_raise d _ _ _

theorem hostRead_of_unpowered {d : Dev} {a : Nat} (h : d.unpowered a = true) :
    d.hostRead a = { d.offAccess with readData := 0 } := by
  rw [Dev.hostRead, if_pos h]

/-- An access to a register whose domain is not ON. -/
def unpoweredAccess (write : Bool) (a : Nat) (d : Dev) : Dev :=
  if !d.unpowered a then d else if write then d.offAccess else d.hostRead a

theorem exec_domainOffAccess (a : BitVec 24) (write : Bool) (s : State) :
    exec (.domainOffAccess a write) s = s.host (unpoweredAccess write a.toNat) := rfl

theorem unpoweredAccess_write {d : Dev} {a : Nat} (h : d.unpowered a = true) : unpoweredAccess true a d = d.offAccess := by
  simp [unpoweredAccess, h]

theorem unpoweredAccess_read {d : Dev} {a : Nat} (h : d.unpowered a = true) :
    unpoweredAccess false a d = { d.offAccess with readData := 0 } := by
  simp [unpoweredAccess, h, hostRead_of_unpowered h]

/-! ### The mask bits (R451) -/

theorem contains_without_self (l : List Nat) (x : Nat) : (without l x).contains x = false := by simp [without]

theorem contains_addOnce_self (l : List Nat) (x : Nat) : (addOnce l x).contains x = true := by
  unfold addOnce
  split
  · assumption
  · simp

theorem maskVector_pending {d : Dev} {v : Nat} (h : d.msixPend.contains v = true) :
    d.maskVector v false =
      { d with unmasked := addOnce d.unmasked v, msixPend := without d.msixPend v, out := d.out ++ [.msix v] } := by
  simp only [Dev.maskVector, h, Bool.false_eq_true, if_true, if_false]

theorem maskVector_quiet {d : Dev} {v : Nat} (h : d.msixPend.contains v = false) :
    d.maskVector v false = { d with unmasked := addOnce d.unmasked v } := by
  simp only [Dev.maskVector, h, Bool.false_eq_true, if_false]

theorem exec_msixVectorUnmask (v : BitVec 8) (masked : Bool) (s : State) :
    exec (.msixVectorUnmask v masked) s = s.host (·.maskVector v.toNat masked) := rfl

end Sys2Proof.Proofs.HostAccess
end

section
open Sys2Proof Sys2Proof.Machine Sys2Proof.Proofs.TimeAndSpeed Sys2Proof.Proofs.HostAccess

/-- Settles O12, a write and a read. -/
theorem accessToAnUnpoweredRegister : Obligations.AccessToAnUnpoweredRegister := by
  intro s a write hb hoff
  refine completes_of_host (exec_domainOffAccess a write s) hb ?_
  cases write with
  | true =>
    rw [unpoweredAccess_write hoff]
    exact ⟨offAccess_raised _, nofun, offAccess_frame _⟩
  | false =>
    rw [unpoweredAccess_read hoff]
    exact ⟨offAccess_raised _, fun _ => rfl, congrArg (fun d : Dev => { d with readData := 0 }) (offAccess_frame s.dev)⟩

/-- Settles O15: a vector unmasked sends its message where its pending bit was set. -/
theorem msixMaskWrites : Obligations.MsixMaskWrites := by
  refine fun s v hb => ⟨?masked, ?unmasked⟩
  case masked => exact completes_of_host (exec_msixVectorUnmask v true s) hb ⟨contains_without_self _ _, rfl⟩
  case unmasked =>
    refine completes_of_host (exec_msixVectorUnmask v false s) hb ?_
    cases hpend : s.dev.msixPend.contains v.toNat with
    | true =>
      rw [maskVector_pending hpend]
      exact ⟨contains_addOnce_self _ _, contains_without_self _ _, rfl, rfl⟩
    | false =>
      rw [maskVector_quiet hpend]
      exact ⟨contains_addOnce_self _ _, hpend, (List.append_nil _).symm, rfl⟩

end

section
/-! SUPPORT. The proofs about descriptors (O43): a state that refutes the clause on COPY_OUT, its registers out of order; and each clause
of the statement as a theorem on its row, those on COPY_OUT and CHAIN ENQ for every state whose registers are in order. -/

namespace Sys2Proof.Proofs.Descriptors

open Sys2Proof Sys2Proof.Machine Sys2Proof.Proofs.TimeAndSpeed Sys2Proof.Proofs.ScansAndWindows Sys2Proof.Proofs.RecordDescriptors

/-! ### A register file out of order -/

/-- A COPY_OUT of eight bytes of set 0. -/
def copyEight : Vector (BitVec 32) 16 := #v[0x20010000, 0, 0, 0, 8, 0, 0, 0, 0, 0, 0, 0, 0, 0, 0, 0]

/-- The state of `disordered` with set 0 ON: INJ_ECC of channel 0 is armed, and hidden until HEAD goes round to 0. -/
def disorderedSet : Dev := { disordered with doms := [(38, .on)] }

theorem disorderedSet_starts : disorderedSet.Starts 0 2 (descWords copyEight) calm where
  ready := by decide +kernel
  op := by decide +kernel
  valid := by decide +kernel
  host := rfl
  ecc := ⟨rfl, by decide +kernel⟩

/-- The block as the statement has it after the copy. -/
def copied : Dev :=
  (((disorderedSet.fetchDesc 0).toHost (dHost (descWords copyEight)) (disorderedSet.memRead 0 0 8)).bytesOut 0 8).descEnds 0
    (disorderedSet.ringHead 0) (descWords copyEight) (.done 0 0 8 []) calm.rest

/-- The channel would run on to IDLE, its ring empty. -/
theorem copied_chanState : copied.chanState 0 = 0 := by decide +kernel

/-- It is HALTED instead, on an uncorrectable word that the injection makes. -/
theorem copyOut_halts :
    (disorderedSet.descRow 0 2 (descWords copyEight) calm fun d => d.copyOut 0 (descWords copyEight) calm).chanState 0 = 3 := by
  decide +kernel

theorem exec_copyOut (ch : Fin 64) (v : Vector (BitVec 32) 16) (f : DmaFacts) (s : State) :
    exec (.copyOut ch v f) s = s.act (·.descRow ch 2 (descWords v) f fun d => d.copyOut ch (descWords v) f) := rfl

/-! ### Descriptors that meet no error -/

/-- A descriptor that its channel starts ends as its operation does on the block with HEAD moved past it. -/
theorem descRow_of_starts {d x : Dev} {c op : Nat} {w : List Nat} {f : DmaFacts} {body : Dev → Dev × DescEnd} {e : DescEnd}
    (hs : d.Starts c op w f) (hbody : body (d.fetchDesc c) = (x, e)) :
    d.descRow c op w f body = x.descEnds c (d.ringHead c) w e f.rest := by
  obtain ⟨hready, hop, hvalid, hhost, -⟩ := hs
  simp [Dev.descRow, hready, hop, hvalid, hhost, hbody]

/-- No word that a descriptor reads is uncorrectable where none is listed and INJ_ECC is not armed. -/
theorem eccMet_eq_none {d : Dev} {c : Nat} {f : DmaFacts} (hecc : f.ecc = none) (hinj : d.flag (Dev.dmaBase c + 0x0C) 0 = false) :
    d.eccMet c f = none := by
  simp [Dev.eccMet, hecc, hinj]

theorem eccMet_fetchDesc {d : Dev} {c op : Nat} {w : List Nat} {f : DmaFacts} (hs : d.Starts c op w f)
    (hsorted : Map.sorted d.regs = true) : (d.fetchDesc c).eccMet c f = none :=
  eccMet_eq_none hs.ecc.1 ((flag_fetchDesc c 0 hsorted).trans hs.ecc.2)

/-- The block once the descriptor at HEAD has completed OK, `x` being what its work left. -/
abbrev endsOk (s : State) (ch : Fin 64) (v : Vector (BitVec 32) 16) (f : DmaFacts) (x : Dev) (len : Nat) (tail : List Nat) : Dev :=
  x.descEnds ch (s.dev.ringHead ch) (descWords v) (.done 0 0 len tail) f.rest

section
variable {s : State} {ch : Fin 64} {v : Vector (BitVec 32) 16} {f : DmaFacts} {w : List Nat} {d' : Dev}

theorem completes_of_descRow {i : Instr} {op len : Nat} {tail : List Nat} {body : Dev → Dev × DescEnd}
    (hi : exec i s = s.act (·.descRow ch op (descWords v) f body)) (hs : s.dev.Starts ch op (descWords v) f)
    (hbody : body (s.dev.fetchDesc ch) = (d', .done 0 0 len tail)) : Completes i s fun d => d = endsOk s ch v f d' len tail :=
  completes_of_act hi (descRow_of_starts hs hbody)

theorem descNop_ends (hs : s.dev.Starts ch 0 (descWords v) f) :
    Completes (.descNop ch v f) s fun d => d = endsOk s ch v f (s.dev.fetchDesc ch) 0 [] :=
  completes_of_descRow rfl hs rfl

/-! ### COPY (R454) -/

/-- The span of set memory that a COPY names: whole words of a set that is ON. -/
structure NamesSpan (d : Dev) (w : List Nat) (set off len : Nat) : Prop where
  space   : dSpace w = 1
  setNo   : bits (dAddr w) 37 32 = set
  offset  : bits (dAddr w) 18 0 = off
  length  : dLen w = len
  nonzero : len ≠ 0
  max     : len ≤ 0x1000000
  words   : off % 8 = 0 ∧ len % 8 = 0
  fits    : off + len ≤ 0x80000
  on      : d.isOn (38 + set) = true

theorem copyIn_of_span {d : Dev} {c set off len : Nat} (data : List Byte) (hspan : NamesSpan d w set off len)
    (hmay : Dev.hostMayWrite off len = true) (hhost : f.host = none) :
    d.copyIn c w data f = ((d.memWrite set off (Dev.padTo data len)).bytesIn c len, .done 0 0 len []) := by
  obtain ⟨hspace, rfl, rfl, rfl, hsome, hmax, ⟨hoff, hlen⟩, hfits, hon⟩ := hspan
  simp [Dev.copyIn, hspace, hsome, Nat.not_lt.mpr hmax, hoff, hlen, Nat.not_lt.mpr hfits, hmay, hon, hhost]

theorem copySource_of_span {d : Dev} {set off len : Nat} (hspan : NamesSpan d w set off len) (hclean : (d.set set).poison = []) :
    d.copySource w = (d, .ok (d.memRead set off len, none)) := by
  obtain ⟨hspace, rfl, rfl, rfl, -, -, ⟨hoff, hlen⟩, hfits, hon⟩ := hspan
  simp [Dev.copySource, hspace, hoff, hlen, Nat.not_lt.mpr hfits, hon, hclean]

theorem copyOut_of_span {d : Dev} {c set off len : Nat} (hspan : NamesSpan d w set off len) (hclean : (d.set set).poison = [])
    (hhost : f.host = none) (hecc : d.eccMet c f = none) :
    d.copyOut c w f = ((d.toHost (dHost w) (d.memRead set off len)).bytesOut c len, .done 0 0 len []) := by
  have hlength : (d.memRead set off len).length = len := by simp [Dev.memRead]
  simp [Dev.copyOut, copySource_of_span hspan hclean, hspan.length, hspan.nonzero, Nat.not_lt.mpr hspan.max, hecc, hhost, hlength,
    List.take_of_length_le (Nat.le_of_eq hlength)]

theorem copyIn_ends {set off len : Nat} (data : List Byte) (hs : s.dev.Starts ch 1 (descWords v) f)
    (hspan : NamesSpan s.dev (descWords v) set off len) (hmay : Dev.hostMayWrite off len = true) :
    Completes (.copyIn ch v data f) s fun d =>
      d = endsOk s ch v f (((s.dev.fetchDesc ch).memWrite set off (Dev.padTo data len)).bytesIn ch len) len [] :=
  completes_of_descRow rfl hs (copyIn_of_span (d := s.dev.fetchDesc ch) data { hspan with } hmay hs.host)

/-- The clause that the state above refutes, for every state whose registers are in order. -/
theorem copyOut_ends {set off len : Nat} (hsorted : Map.sorted s.dev.regs = true) (hs : s.dev.Starts ch 2 (descWords v) f)
    (hspan : NamesSpan s.dev (descWords v) set off len) (hclean : (s.dev.set set).poison = []) :
    Completes (.copyOut ch v f) s fun d =>
      d = endsOk s ch v f (((s.dev.fetchDesc ch).toHost (dHost (descWords v)) (s.dev.memRead set off len)).bytesOut ch len) len [] :=
  completes_of_descRow (exec_copyOut ch v f s) hs
    (copyOut_of_span (d := s.dev.fetchDesc ch) { hspan with } hclean hs.host (eccMet_fetchDesc hs hsorted))

/-! ### INJECT (R457) -/

/-- An INJECT of MODE 0 to the course `name`, which has room for it. -/
structure NamesRoom (d : Dev) (w : List Nat) (name : Nat) : Prop where
  valid : Dev.injectFieldsOk w = true
  mode  : bits (word w 10) 31 30 = 0
  names : bits (word w 10) 28 24 = name
  on    : d.courseOn name = true
  half  : d.halfOn (Dev.dieOfCourse (d.physical name)) = true
  room  : d.injectRoom name = true
  stays : d.moveHolds name = false

theorem injectHost_of_room {d : Dev} {c name a g : Nat} {data : List Byte} (hroom : NamesRoom d w name) (hhost : f.host = none)
    (halloc : (d.bytesIn c (dLen w)).alloc (Dev.dieOfCourse (d.physical name)) 3 .new 0 0xFF (Dev.padTo data (dLen w)) =
      (d', .ok (a, g))) :
    d.injectHost c w data f = (d'.enterInject name (bits (word w 10) 9 0) (d'.injectDesc w name a g (Dev.padTo data (dLen w))) false 3,
      .done 0 0 (dLen w) [dLen w]) := by
  obtain ⟨hvalid, hmode, rfl, hon, hhalf, hplace, hstays⟩ := hroom
  simp [Dev.injectHost, hvalid, hmode, hon, hhalf, hplace, hstays, hhost, halloc]

theorem descInject_ends {name a g : Nat} {data : List Byte} (hs : s.dev.Starts ch 4 (descWords v) f)
    (hfirst : (s.dev.chan ch).inj = none) (hroom : NamesRoom s.dev (descWords v) name)
    (halloc : ((s.dev.fetchDesc ch).bytesIn ch (dLen (descWords v))).alloc (Dev.dieOfCourse (s.dev.physical name)) 3 .new 0 0xFF
      (Dev.padTo data (dLen (descWords v))) = (d', .ok (a, g))) :
    Completes (.descInject ch v data f) s fun d =>
      d = endsOk s ch v f (d'.enterInject name (bits (word (descWords v) 10) 9 0)
        (d'.injectDesc (descWords v) name a g (Dev.padTo data (dLen (descWords v)))) false 3)
        (dLen (descWords v)) [dLen (descWords v)] := by
  refine completes_of_act (f := fun d => d.descInject ch (descWords v) data f) rfl ?_
  simp only [Dev.descInject, hfirst]
  exact descRow_of_starts hs (injectHost_of_room (d := s.dev.fetchDesc ch) { hroom with } hs.host halloc)

/-- An INJECT that has waited 100 µs for room ends BUSY. -/
theorem injectQueueTimeout_ends {t : Nat} (hwaits : (s.dev.chan ch).inj = some (t, w)) (hdue : t + 100000 ≤ s.dev.now) :
    Completes (.injectQueueTimeout ch f) s fun d =>
      d = s.dev.descEnds ch ((s.dev.ringHead ch + s.dev.ringSize ch - 1) % s.dev.ringSize ch) w (.done 1 0 0 []) f.rest := by
  refine completes_of_act (f := fun d => d.injectTimeout ch f) rfl ?_
  simp only [Dev.injectTimeout, hwaits, if_neg (Nat.not_lt.mpr hdue), DescEnd.code]

/-! ### ITEM (R461) -/

/-- The record that an ITEM of channel `c` queues for the 32 words `r` it reads. -/
def itemSent (d : Dev) (c : Nat) (r : List Nat) : List Nat :=
  let tag := d.epochs.curTag
  [withBits (word r 0) 27 27 tag, word r 1, (d.slot tag).num <<< 16 + (0x41 + c) <<< 8 + bits (word r 2) 7 0, word r 3] ++ r.drop 4

/-- An ITEM to the item queue `q` of a record `r` of valid fields, its CPL_TO 0 (R461). -/
structure NamesItem (w : List Nat) (q : Nat) (r : List Nat) : Prop where
  queue    : bits (word w 13) 31 16 = q
  range    : 55296 ≤ q ∧ q ≤ 63487
  kind     : bits (word r 0) 31 28 = 2
  cplTo    : bits (word r 0) 19 18 = 0
  low      : word r 0 &&& 0x3FFFF = 0
  reserved : word r 3 &&& 0x7F000000 = 0

theorem itemHost_of_sound {d : Dev} {c q : Nat} {data : List Byte} (hitem : NamesItem w q (leWords 32 (Dev.padTo data 128)))
    (hhost : f.host = none)
    (hqueue : (d.bytesIn c 128).queueItem q (itemSent d c (leWords 32 (Dev.padTo data 128))) = (d', none)) :
    d.itemHost c w data f = (d'.refuseIfDown q, .done 0 0 0 []) := by
  obtain ⟨rfl, ⟨hmin, hmax⟩, hkind, hcplTo, hlow, hreserved⟩ := hitem
  have hqueue' : (d.bytesIn c 128).queueItem _ (itemSent (d.bytesIn c 128) c _) = (d', none) := hqueue
  simp only [itemSent, List.cons_append, List.nil_append] at hqueue'
  simp [Dev.itemHost, hmin, hmax, hkind, hcplTo, hlow, hreserved, hhost, hqueue', DescEnd.code]

theorem item_ends {q : Nat} {data : List Byte} (hs : s.dev.Starts ch 7 (descWords v) f)
    (hitem : NamesItem (descWords v) q (leWords 32 (Dev.padTo data 128)))
    (hqueue : ((s.dev.fetchDesc ch).bytesIn ch 128).queueItem q (itemSent s.dev ch (leWords 32 (Dev.padTo data 128))) = (d', none)) :
    Completes (.item ch v data f) s fun d => d = endsOk s ch v f (d'.refuseIfDown q) 0 [] :=
  completes_of_descRow rfl hs (itemHost_of_sound (d := s.dev.fetchDesc ch) hitem hs.host hqueue)

/-! ### CHAIN (R460) -/

/-- A CHAIN of CHOP `k` on the chain `a` of generation `g`, whose half is ON; one that gives it away names a holder. -/
structure NamesChain (d : Dev) (w : List Nat) (k a g : Nat) : Prop where
  chop  : bits (word w 10) 31 28 = k
  valid : 1 ≤ k ∧ k ≤ 5
  name  : nameChain (dAddr w) = (a, g)
  on    : d.halfOn (Dev.halfAddr a) = true
  giver : k = 4 → Dev.isHolder (bits (word w 10) 7 0) = true

/-- The work of the CHOPs on the chain `a` of generation `g`. -/
def chopWork (d : Dev) (c : Nat) (w : List Nat) (a g : Nat) : Nat → Dev × DescEnd
  | 1 => Dev.chopEnd (d.shareBy (0x41 + c) a g)
  | 2 => Dev.chopEnd (d.releaseBy (0x41 + c) a g)
  | 3 => Dev.chopEnd (d.freeBy (0x41 + c) a g)
  | 4 => Dev.chopEnd (d.giveBy (0x41 + c) a g (bits (word w 10) 7 0))
  | _ => d.hostEnq c w a g

/-- A CHAIN ends as its CHOP does; ENQ alone reads a word that may be uncorrectable. -/
theorem chainRow_of_starts {d : Dev} {c k a g : Nat} {e : DescEnd} (hs : d.Starts c 6 w f) (hname : NamesChain d w k a g)
    (hecc : k = 5 → (d.fetchDesc c).eccMet c f = none) (hwork : chopWork (d.fetchDesc c) c w a g k = (d', e)) :
    d.chainRow c k w f = d'.descEnds c (d.ringHead c) w e f.rest := by
  obtain ⟨hchop, ⟨hlow, hhigh⟩, hnamed, hon, hgiver⟩ := hname
  have hon' : (d.fetchDesc c).halfOn (Dev.halfAddr a) = true := hon
  rw [Dev.chainRow, hchop, if_neg (by simp)]
  refine descRow_of_starts hs ?_
  have hk : k = 1 ∨ k = 2 ∨ k = 3 ∨ k = 4 ∨ k = 5 := by omega
  rcases hk with rfl | rfl | rfl | rfl | rfl <;> simpa [hnamed, hon', hgiver, hecc, chopWork] using hwork

section
variable {k a g : Nat} (hs : s.dev.Starts ch 6 (descWords v) f)
include hs

theorem completes_of_chain {i : Instr} (hi : exec i s = s.act (·.chainRow ch k (descWords v) f))
    (hname : NamesChain s.dev (descWords v) k a g)
    (hecc : k = 5 → (s.dev.fetchDesc ch).eccMet ch f = none)
    (hwork : chopWork (s.dev.fetchDesc ch) ch (descWords v) a g k = (d', .done 0 0 0 [])) :
    Completes i s fun d => d = endsOk s ch v f d' 0 [] :=
  completes_of_act hi (chainRow_of_starts hs hname hecc hwork)

theorem dmaChainShare_ends (hname : NamesChain s.dev (descWords v) 1 a g)
    (hshare : (s.dev.fetchDesc ch).shareBy (0x41 + ch) a g = (d', .ok)) :
    Completes (.dmaChainShare ch v f) s fun d => d = endsOk s ch v f d' 0 [] :=
  completes_of_chain hs rfl hname nofun (congrArg Dev.chopEnd hshare)

theorem dmaChainRelease_ends (hname : NamesChain s.dev (descWords v) 2 a g)
    (hrelease : (s.dev.fetchDesc ch).releaseBy (0x41 + ch) a g = (d', .ok)) :
    Completes (.dmaChainRelease ch v f) s fun d => d = endsOk s ch v f d' 0 [] :=
  completes_of_chain hs rfl hname nofun (congrArg Dev.chopEnd hrelease)

theorem dmaChainFree_ends (hname : NamesChain s.dev (descWords v) 3 a g)
    (hfree : (s.dev.fetchDesc ch).freeBy (0x41 + ch) a g = (d', .ok)) :
    Completes (.dmaChainFree ch v f) s fun d => d = endsOk s ch v f d' 0 [] :=
  completes_of_chain hs rfl hname nofun (congrArg Dev.chopEnd hfree)

theorem dmaChainGive_ends (hname : NamesChain s.dev (descWords v) 4 a g)
    (hgive : (s.dev.fetchDesc ch).giveBy (0x41 + ch) a g (bits (word (descWords v) 10) 7 0) = (d', .ok)) :
    Completes (.dmaChainGive ch v f) s fun d => d = endsOk s ch v f d' 0 [] :=
  completes_of_chain hs rfl hname nofun (congrArg Dev.chopEnd hgive)

/-- ENQ reads the chain's word: like COPY_OUT, for every state whose registers are in order. -/
theorem dmaChainEnq_ends (hsorted : Map.sorted s.dev.regs = true) (hname : NamesChain s.dev (descWords v) 5 a g)
    (henq : (s.dev.fetchDesc ch).hostEnq ch (descWords v) a g = (d', .done 0 0 0 [])) :
    Completes (.dmaChainEnq ch v f) s fun d => d = endsOk s ch v f d' 0 [] :=
  completes_of_chain hs rfl hname (fun _ => eccMet_fetchDesc hs hsorted) henq

end

/-! ### RECV (R458, R459) -/

/-- The RECV that the descriptor `w` at HEAD posts. -/
def recvOf (d : Dev) (c : Nat) (w : List Nat) : Recv :=
  ⟨d.ringHead c, word w 1, dHost w, dLen w, (word w 0).testBit 25, (word w 0).testBit 26, (word w 0).testBit 24⟩

theorem recv_posted (hs : s.dev.Starts ch 5 (descWords v) f) (hroom : (s.dev.chan ch).posted.length < 4096) :
    Completes (.recv ch v f) s fun d =>
      d = ((s.dev.fetchDesc ch).setChan ch fun x =>
        { x with posted := x.posted ++ [recvOf s.dev ch (descWords v)] }).chanSettle ch := by
  obtain ⟨hready, hop, hvalid, hhost, -⟩ := hs
  refine completes_of_act (f := fun d => d.recvPost ch (descWords v) f) rfl ?_
  simp [Dev.recvPost, hready, hop, hvalid, hhost, hroom, recvOf]

/-- The packet `p`, with the chain `k`, at the head of the queue that channel `c` serves next, sound, and the RECV `r` to take it without
holding its chain. -/
structure Delivers (d : Dev) (c : Nat) (t : TxFacts) (f : DmaFacts) (r : Recv) (more : List Recv) (q : Nat) (p : Waiting)
    (rest : List Waiting) (k : Chain) : Prop where
  posted : (d.chan c).posted = r :: more
  next   : d.nextHostQueue c = some q
  items  : (d.queue q).items = p :: rest
  runs   : d.chanState c ≤ 1
  room   : (d.chan c).held.length < 256
  host   : f.host = none
  ecc    : f.ecc = none ∧ d.flag (Dev.dmaBase c + 0x0C) 0 = false
  chain  : d.chain? p.desc.chain p.desc.gen = some k
  whole  : k.poison = false ∧ k.broken = none
  read   : t.bad = false ∧ t.link = false ∧ t.seen = none
  mortar : crc32c k.bytes = p.desc.mortar
  frees  : r.hold = false

/-- The record and the bytes of a packet. -/
def packetBody (p : Waiting) (k : Chain) : List Byte := wordsToLE p.desc.toWords ++ k.bytes

/-- The block with the packet out of its queue and in host memory, its chain not yet released. -/
def sentToHost (d : Dev) (c : Nat) (r : Recv) (more : List Recv) (q : Nat) (p : Waiting) (rest : List Waiting) (k : Chain) : Dev :=
  let body := packetBody p k
  let n := min body.length r.len
  let served := d.setChan c fun y => { y with posted := more, lastQ := q }
  let soj := served.now - p.enq
  let taken := served.setQueue q fun y =>
    { y with items := rest, awake := y.awake && !rest.isEmpty, lastSoj := soj, maxSoj := max y.maxSoj soj }
  ((taken.toHost r.host (body.take n)).bytesOut c n).bump (Dev.dmaBase c + 0xA8)

theorem recvDeliver_ends {t : TxFacts} {r : Recv} {more : List Recv} {q : Nat} {p : Waiting} {rest : List Waiting} {k : Chain}
    (h : Delivers s.dev ch t f r more q p rest k) :
    Completes (.recvDeliver ch t f) s fun d =>
      let sent := sentToHost s.dev ch r more q p rest k
      let body := packetBody p k
      let n := min body.length r.len
      sent.out = s.dev.out ++ [.host r.host (body.take n)] ∧
      d = ((sent.release p.desc.chain p.desc.gen).endCopy p.desc .departed).descEnds ch r.index
        [5 <<< 28 + b2n r.irq <<< 26 + b2n r.stop <<< 24, r.id]
        (.done 0 0 n [k.bytes.length, q <<< 16 + b2n (decide (r.len < body.length))]) f.rest := by
  obtain ⟨hposted, hnext, hitems, hruns, hroom, hhost, ⟨hecc, hinj⟩, hchain, ⟨hpoison, hbroken⟩,
    ⟨hbad, hlink, hseen⟩, hmortar, hfrees⟩ := h
  refine completes_of_act (f := fun d => d.recvDeliver ch t f) rfl ⟨rfl, ?_⟩
  have htaken : (s.dev.setChan ch fun y => { y with posted := more, lastQ := q }).chain? p.desc.chain p.desc.gen = some k := hchain
  have hmet : (s.dev.setChan ch fun y => { y with posted := more, lastQ := q }).eccMet ch f = none := eccMet_eq_none hecc hinj
  simp [Dev.recvDeliver, hposted, hnext, hitems, Nat.not_lt.mpr hruns, Nat.not_le.mpr hroom, htaken, hhost, hmet, hpoison, hbroken, hbad,
    hlink, hseen, hmortar, hfrees, sentToHost, packetBody]

/-! ### Completion records (R462, R463) -/

theorem length_leBytes (n v : Nat) : (leBytes n v).length = n := by
  induction n generalizing v with
  | zero => rfl
  | succ n ih => simp [leBytes, ih]

theorem wordsToLE_cons (x : Nat) (l : List Nat) : wordsToLE (x :: l) = leBytes 4 x ++ wordsToLE l := rfl

theorem length_wordsToLE (l : List Nat) : (wordsToLE l).length = 4 * l.length := by
  induction l with
  | nil => rfl
  | cons x l ih => rw [wordsToLE_cons, List.length_append, length_leBytes, ih, List.length_cons, Nat.mul_succ, Nat.add_comm]

theorem take_wordsToLE_cons (x : Nat) (l : List Nat) : (wordsToLE (x :: l)).take 4 = leBytes 4 x := by
  rw [wordsToLE_cons, List.take_left' (length_leBytes 4 x)]

/-- A signal after a record adds to what is sent. -/
theorem out_cplSignal_if (d : Dev) (c : Nat) (b : Bool) : ∃ more, (if b then d.cplSignal c else d).out = d.out ++ more := by
  unfold Dev.cplSignal Dev.signal
  split
  · split
    · exact ⟨_, rfl⟩
    · exact ⟨[], (List.append_nil _).symm⟩
  · exact ⟨[], (List.append_nil _).symm⟩

/-- The eight words of a record in its slot: the last holds the channel's PHASE. -/
def slotWords (d : Dev) (c : Nat) (w : List Nat) : List Nat :=
  w.take 7 ++ [w.getD 7 0 + b2n (decide ((d.chan c).passes % 2 = 0)) * 2 ^ 31]

/-- The host address of the slot at a completion ring's head. -/
def slotAddr (d : Dev) (c : Nat) : Nat :=
  d.reg (Dev.dmaBase c + 0x28) * 2 ^ 32 + d.reg (Dev.dmaBase c + 0x24) / 32 * 32 + 32 * d.fld (Dev.dmaBase c + 0x34) 15 0

/-- A record written goes to the slot at the head; only a signal may follow. -/
theorem out_cplWrite (d : Dev) (c : Nat) (w : List Nat) (irq : Bool) :
    ∃ more, (d.cplWrite c w irq).out = d.out ++ Emission.host (slotAddr d c) (wordsToLE (slotWords d c w)) :: more := by
  obtain ⟨more, hmore⟩ := out_cplSignal_if _ c _
  exact ⟨more, hmore.trans (List.append_assoc _ _ _)⟩

theorem descRecord_of_room {d : Dev} {c : Nat} (index id op len : Nat) (tail : List Nat) (irq : Bool) (hfree : d.cplFree c = true)
    (hheld : (d.chan c).held = []) (hruns : d.chanState c ≠ 4) :
    d.descRecord c index id op 0 0 len tail irq = (d.bump (Dev.dmaBase c + 0x80)).cplWrite c
      [id, op <<< 24, len, tail.getD 0 0, tail.getD 1 0, tail.getD 2 0, 0, index] irq := by
  have hfree' : (d.bump (Dev.dmaBase c + 0x80)).cplFree c = true := hfree
  have hheld' : ((d.bump (Dev.dmaBase c + 0x80)).chan c).held = [] := hheld
  have hruns' : (d.bump (Dev.dmaBase c + 0x80)).chanState c ≠ 4 := hruns
  simp [Dev.descRecord, Dev.cplPut, hfree', hheld', hruns']

/-- The record of a descriptor that completed OK goes to the slot at the head, 32 bytes of which the first four are its DESC_ID. -/
theorem descRecord_out {d : Dev} {c : Nat} (index id op len : Nat) (tail : List Nat) (irq : Bool) (hfree : d.cplFree c = true)
    (hheld : (d.chan c).held = []) (hruns : d.chanState c ≠ 4) :
    ∃ (bytes : List Byte) (more : List Emission),
      (d.descRecord c index id op 0 0 len tail irq).out = d.out ++ Emission.host (slotAddr d c) bytes :: more ∧
      bytes.length = 32 ∧ bytes.take 4 = leBytes 4 id := by
  rw [descRecord_of_room index id op len tail irq hfree hheld hruns]
  obtain ⟨more, hmore⟩ := out_cplWrite (d.bump (Dev.dmaBase c + 0x80)) c
    [id, op <<< 24, len, tail.getD 0 0, tail.getD 1 0, tail.getD 2 0, 0, index] irq
  exact ⟨_, more, hmore, length_wordsToLE _, take_wordsToLE_cons _ _⟩

end

end Sys2Proof.Proofs.Descriptors
end

section
open Sys2Proof Sys2Proof.Machine Sys2Proof.Proofs.RecordDescriptors Sys2Proof.Proofs.Descriptors

/-- Refutes O43: its clause on COPY_OUT asks for no order of the registers. In a state that `Dev.Canonical` excludes, taking the descriptor
moves HEAD to 0, which uncovers an armed INJ_ECC listed behind DMA_HEAD, and the channel halts where the bytes were to go to the host. -/
theorem not_descriptorRows : ¬ Obligations.DescriptorRows := by
  intro h
  obtain ⟨-, -, hcopyOut, -⟩ := h.1 ⟨disorderedSet, []⟩ 0 copyEight calm 2 disorderedSet_starts
  obtain ⟨d, hexec, hd⟩ := hcopyOut rfl (by decide +kernel) (by decide +kernel) (by decide +kernel) (by decide +kernel)
    (by decide +kernel) (by decide +kernel) (by decide +kernel) rfl
  rw [exec_copyOut, act_iff, State.mk.injEq] at hexec
  obtain ⟨hdev, -⟩ := hexec
  have hhalts : d.chanState 0 = 3 := (congrArg (·.chanState 0) hdev).trans copyOut_halts
  have hruns : d.chanState 0 = 0 := (congrArg (·.chanState 0) hd).trans copied_chanState
  exact absurd (hruns.symm.trans hhalts) (by decide)

end

section
/-! SUPPORT. The proofs about the mailboxes (O36 to O38): what is read of a mailbox after it was changed; the host's side row by row,
where each row of O37 holds but MBX_STALLED, which holds for the synchronous commands that R492 names; the take of a posted command, and
what the checks before its own meaning answer. -/

namespace Sys2Proof.Proofs.Mailboxes

open Sys2Proof Sys2Proof.Machine Sys2Proof.Proofs.TimeAndSpeed Sys2Proof.Proofs.ScansAndWindows Sys2Proof.Proofs.EpochLife
  Sys2Proof.Proofs.ContextCache Sys2Proof.Proofs.HostAccess

/-! ### Reading after writing -/

/-- A mailbox that a change leaves in another state than IDLE is listed. -/
theorem mbxs_setMbx_of_st {d : Dev} {m : Nat} {f : Mbx → Mbx} (h : (f (d.mbx m)).st ≠ 0) :
    (d.setMbx m f).mbxs = Map.put d.mbxs m (f (d.mbx m)) := by
  have hne : f (d.mbx m) ≠ {} := fun he => h (by rw [he])
  exact if_neg hne

/-- It reads as it was left, whatever the order of the keys. -/
theorem mbx_setMbx_of_st {d : Dev} {m : Nat} {f : Mbx → Mbx} (h : (f (d.mbx m)).st ≠ 0) : (d.setMbx m f).mbx m = f (d.mbx m) := by
  rw [Dev.mbx, mbxs_setMbx_of_st h, Map.getD, Map.get?_put_self, Option.getD_some]

theorem mbx_of_mbxs {d e : Dev} (h : e.mbxs = d.mbxs) (m : Nat) : e.mbx m = d.mbx m := by rw [Dev.mbx, Dev.mbx, h]

theorem mbxs_mbxEvent (d : Dev) (m i : Nat) : (d.mbxEvent m i).mbxs = d.mbxs := rfl

theorem mbxs_mbxSignal (d : Dev) (m : Nat) : (d.mbxSignal m).mbxs = d.mbxs := by
  unfold Dev.mbxSignal
  split
  · rw [Dev.signal_frame]
  · rfl

theorem fld_setFld_self {d : Dev} {a hi : Nat} (lo v : Nat) (hs : Map.sorted d.regs = true) (hr : resetOf a < 2 ^ 32) (hhi : hi < 32) :
    (d.setFld a hi lo v).fld a hi lo = v % 2 ^ (hi + 1 - lo) := by
  rw [Dev.fld, Dev.setFld, reg_setReg_word _ hs hr, ← bits_withBits_self (d.reg a) hi lo v]
  exact bits_congr fun i _ hi' => by rw [Nat.testBit_mod_two_pow, decide_eq_true (Nat.lt_of_le_of_lt hi' hhi), Bool.true_and]

/-- MBX_EVENT and MBX_CRING_TAIL are 0 at reset. -/
theorem resetOf_mbxEvent (m : Fin 8) : resetOf (Dev.mbxBase m + 0x0C) = 0 := by
  revert m
  decide +kernel

theorem resetOf_cringTail (m : Fin 8) : resetOf (Dev.mbxBase m + 0x1C) = 0 := by
  revert m
  decide +kernel

/-- An event of a mailbox shows in MBX_EVENT. -/
theorem flag_mbxEvent (d : Dev) (m : Fin 8) {i : Nat} (hi : i < 32) : (d.mbxEvent m i).flag (Dev.mbxBase m + 0x0C) i = true :=
  (listed_setBit d hi (by rw [resetOf_mbxEvent, Nat.zero_testBit])).flag

/-! ### Responses (R478) -/

/-- A response that is written leaves its mailbox DONE. -/
theorem mbx_respond (d : Dev) (m : Nat) (head payload : List Nat) :
    (d.respond m false head payload).mbx m = { d.mbx m with run := none, st := 3, rsp := head ++ payload, stalled := false } := by
  have hset : (d.setMbx m fun x => { x with run := none, st := 3, rsp := head ++ payload, stalled := false }).mbx m =
      { d.mbx m with run := none, st := 3, rsp := head ++ payload, stalled := false } := mbx_setMbx_of_st (Nat.succ_ne_zero 2)
  exact (mbx_of_mbxs (mbxs_mbxSignal _ m) m).trans hset

theorem ticketsOnly_respond (d : Dev) (m : Nat) (head payload : List Nat) : TicketsOnly d (d.respond m false head payload) :=
  (TicketsOnly.setMbx d m _).trans <| (TicketsOnly.mbxEvent _ m 0).trans (TicketsOnly.mbxSignal _ m)

theorem statusWord_of_ticketsOnly {d e : Dev} (h : TicketsOnly d e) (status reason phase : Nat) (retried deferred : Bool) :
    e.statusWord status reason phase retried deferred = d.statusWord status reason phase retried deferred := by
  obtain ⟨_, _, _, _, rfl⟩ := h.frame
  rfl

/-- A command that ends with no result words leaves its answer in its mailbox. -/
theorem complete_answers (d : Dev) (m : Nat) {r : Req} (hr : r.silent = false) (status reason phase : Nat) :
    (d.complete m r status reason phase [] false).Answers m r status reason phase [] := by
  have hcomplete : d.complete m r status reason phase [] false =
      (d.remember m r.tag (Dev.header r (d.statusWord status reason phase false false) 0 0 0)).respond m false
        (Dev.header r (d.statusWord status reason phase false false) 0 0 0) [] := by simp [Dev.complete, hr]
  have hword := statusWord_of_ticketsOnly ((TicketsOnly.setMbx d m _).trans (ticketsOnly_respond
    (d.remember m r.tag (Dev.header r (d.statusWord status reason phase false false) 0 0 0)) m
    (Dev.header r (d.statusWord status reason phase false false) 0 0 0) [])) status reason phase false false
  unfold Dev.Answers
  rw [hcomplete, mbx_respond]
  exact ⟨rfl, rfl, by rw [hword]; rfl⟩

/-! ### The host's side (R479, R480, R482, R486) -/

section
variable {s : State} {m : Fin 8}

theorem exec_mbxCancel (m : Fin 8) (s : State) : exec (.mbxCancel m) s = s.host (·.cancelPosted m) := rfl

/-- The header that answers a CANCEL. -/
def cancelHead (d : Dev) (m : Nat) : List Nat := Dev.header (d.readReq m) (d.statusWord 0x0B 2 0 false false) 0 0 0

theorem cancelPosted_of_posted {d : Dev} {m : Nat} (h : (d.mbx m).st = 1) :
    d.cancelPosted m = (d.remember m (d.readReq m).tag (cancelHead d m)).respond m false (cancelHead d m) [] := if_pos h

theorem cancelPosted_of_ne {d : Dev} {m : Nat} (h : (d.mbx m).st ≠ 1) : d.cancelPosted m = d := if_neg h

theorem statusWord_notRun (d : Dev) : d.statusWord 0x0B 2 0 false false = 0x0B * 2 ^ 16 + 2 * 2 ^ 8 + 8 * d.stw.active := by
  simp [Dev.statusWord, b2n, Nat.shiftLeft_eq, Nat.mul_comm]

/-- What word 1 of that header says, bit 3 being the steward. -/
theorem bits_notRun {x : Nat} (h : x < 2) :
    bits (0x0B * 2 ^ 16 + 2 * 2 ^ 8 + 8 * x) 31 16 = 0x0B ∧ bits (0x0B * 2 ^ 16 + 2 * 2 ^ 8 + 8 * x) 15 8 = 2 ∧
      bits (0x0B * 2 ^ 16 + 2 * 2 ^ 8 + 8 * x) 7 6 = 0 := by
  simp only [bits, Nat.shiftRight_eq_div_pow]
  omega

theorem exec_mbxDoorbell (m : Fin 8) (tag : BitVec 16) (s : State) : exec (.mbxDoorbell m tag) s = s.host (·.doorbell m tag.toNat) := rfl

theorem exec_mbxRequestAreaWrite (m : Fin 8) (i : Fin 1024) (v : BitVec 32) (s : State) :
    exec (.mbxRequestAreaWrite m i v) s = s.host (·.reqWrite m i v) := rfl

theorem exec_mbxAck (m : Fin 8) (s : State) : exec (.mbxAck m) s = s.host (·.ack m) := rfl

theorem exec_mbxCringTailWrite (m : Fin 8) (v : BitVec 16) (s : State) :
    exec (.mbxCringTailWrite m v) s = s.host (·.cringTail m v.toNat) := rfl

/-- A doorbell in IDLE or DONE posts the command with its TAG. -/
theorem doorbell_posts (tag : BitVec 16) (hb : s.dev.bar0 = true) (hposted : (s.dev.mbx m).st ≠ 1) (hruns : (s.dev.mbx m).st ≠ 2) :
    Completes (.mbxDoorbell m tag) s fun d =>
      (d.mbx m).st = 1 ∧ (d.mbx m).door = tag.toNat ∧ (d.mbx m).postedAt = s.dev.now ∧ d = { s.dev with mbxs := d.mbxs } := by
  refine completes_of_host (exec_mbxDoorbell m tag s) hb ?_
  simp only [Dev.doorbell, hposted, hruns, decide_false, Bool.or_self, Bool.false_eq_true, if_false]
  rw [mbx_setMbx_of_st (Nat.succ_ne_zero 0)]
  exact ⟨rfl, Nat.mod_eq_of_lt tag.isLt, rfl, rfl⟩

/-- A doorbell in POSTED or RUNNING sets DB_REJECT and nothing else. -/
theorem doorbell_rejected (tag : BitVec 16) (hb : s.dev.bar0 = true) (h : (s.dev.mbx m).st = 1 ∨ (s.dev.mbx m).st = 2) :
    Completes (.mbxDoorbell m tag) s fun d => d.flag (Dev.mbxBase m + 0x0C) 2 = true ∧ d = { s.dev with regs := d.regs } := by
  refine completes_of_host (exec_mbxDoorbell m tag s) hb ?_
  simp only [Dev.doorbell, Bool.or_eq_true, decide_eq_true_eq, if_pos h]
  exact ⟨flag_mbxEvent _ m (by decide), rfl⟩

/-- A write to the request area in IDLE or DONE is stored. -/
theorem reqWrite_stores (i : Fin 1024) (v : BitVec 32) (hb : s.dev.bar0 = true) (hc : s.dev.Canonical)
    (hposted : (s.dev.mbx m).st ≠ 1) (hruns : (s.dev.mbx m).st ≠ 2) (hreq : Map.sorted (s.dev.mbx m).req = true) :
    Completes (.mbxRequestAreaWrite m i v) s fun d =>
      Map.getD (d.mbx m).req i 0 = v ∧ (d.mbx m).st = (s.dev.mbx m).st ∧ d = { s.dev with mbxs := d.mbxs } := by
  refine completes_of_host (exec_mbxRequestAreaWrite m i v s) hb ?_
  simp only [Dev.reqWrite, hposted, hruns, decide_false, Bool.or_self, Bool.false_eq_true, if_false]
  rw [Dev.mbx_setMbx_self _ _ _ hc.mbxs]
  exact ⟨Map.getD_putD_self _ _ _ hreq, rfl, rfl⟩

/-- A write to the request area in POSTED or RUNNING sets WR_REJECT and nothing else. -/
theorem reqWrite_rejected (i : Fin 1024) (v : BitVec 32) (hb : s.dev.bar0 = true) (h : (s.dev.mbx m).st = 1 ∨ (s.dev.mbx m).st = 2) :
    Completes (.mbxRequestAreaWrite m i v) s fun d =>
      d.flag (Dev.mbxBase m + 0x0C) 3 = true ∧ d = { s.dev with regs := d.regs } := by
  refine completes_of_host (exec_mbxRequestAreaWrite m i v s) hb ?_
  simp only [Dev.reqWrite, Bool.or_eq_true, decide_eq_true_eq, if_pos h]
  exact ⟨flag_mbxEvent _ m (by decide), rfl⟩

theorem ack_frees (hb : s.dev.bar0 = true) (hc : s.dev.Canonical) (h : (s.dev.mbx m).st = 3) :
    Completes (.mbxAck m) s fun d => (d.mbx m).st = 0 ∧ d = { s.dev with mbxs := d.mbxs } := by
  refine completes_of_host (exec_mbxAck m s) hb ?_
  rw [Dev.ack, if_pos h, Dev.mbx_setMbx_self _ _ _ hc.mbxs]
  exact ⟨rfl, rfl⟩

theorem recordDrain_of_none {d : Dev} {m : Nat} (h : (d.mbx m).held = []) : d.recordDrain m = d := by
  rw [Dev.recordDrain, h, List.foldl_nil]

/-- A tail within the ring is stored where no record is held. -/
theorem cringTail_stores (v : BitVec 16) (hb : s.dev.bar0 = true) (hc : s.dev.Canonical) (hheld : (s.dev.mbx m).held = [])
    (hring : v.toNat < s.dev.cringSize m) :
    Completes (.mbxCringTailWrite m v) s fun d => d.fld (Dev.mbxBase m + 0x1C) 15 0 = v.toNat := by
  refine completes_of_host (exec_mbxCringTailWrite m v s) hb ?_
  rw [Dev.cringTail, recordDrain_of_none (by exact hheld), Nat.mod_eq_of_lt hring,
    fld_setFld_self _ _ (sorted_regs_of_canonical hc) (by rw [resetOf_cringTail]; decide) (by decide)]
  exact Nat.mod_eq_of_lt v.isLt

/-! ### The two deadlines (R481, R492) -/

theorem exec_mbxNotTaken (m : Fin 8) (s : State) : exec (.mbxNotTaken m) s = s.act (·.notTaken m) := rfl

theorem exec_mbxStalled (m : Fin 8) (s : State) : exec (.mbxStalled m) s = s.act (·.mbxStalled m) := rfl

/-- A mailbox's deadline passed: its fault waits, its event shows, and the mailbox keeps what `f` leaves it. -/
theorem deadline_passed (d : Dev) (m : Fin 8) {code i : Nat} {f : Mbx → Mbx} (hmem : Dev.memOf (0xD040 + m) code = none)
    (htime : code / 0x1000 ≠ 0xB) (hi : i < 32) (hst : (f (d.mbx m)).st ≠ 0) :
    let e := ((d.setMbx m f).raise (0xD040 + m) code).mbxEvent m i
    e.Raised (0xD040 + m) code ∧ e.flag (Dev.mbxBase m + 0x0C) i = true ∧ e.mbx m = f (d.mbx m) := by
  refine ⟨raised_raise _ _ _ _, flag_mbxEvent _ m hi, ?_⟩
  rw [← mbx_setMbx_of_st hst]
  refine mbx_of_mbxs ?_ m
  rw [mbxs_mbxEvent, raise_frame [] hmem htime]

/-- A command POSTED for 10 ms raises 0xD040 and sets NOT_TAKEN; it stays POSTED. -/
theorem notTaken_raises (hst : (s.dev.mbx m).st = 1) (hlate : (s.dev.mbx m).late = false)
    (hdue : (s.dev.mbx m).postedAt + 10000000 ≤ s.dev.now) :
    Completes (.mbxNotTaken m) s fun d =>
      d.Raised (0xD040 + m) 0xD040 ∧ d.flag (Dev.mbxBase m + 0x0C) 6 = true ∧ (d.mbx m).st = 1 := by
  refine completes_of_act (exec_mbxNotTaken m s) ?_
  obtain ⟨hraised, hevent, hmbx⟩ := deadline_passed s.dev m (code := 0xD040) (i := 6) (f := fun x => { x with late := true }) rfl
    (by decide) (by decide) (by simp [hst])
  simp only [Dev.notTaken, hst, hlate, hdue, decide_true, Bool.not_false, Bool.and_self, if_true]
  exact ⟨hraised, hevent, by rw [hmbx]; exact hst⟩

/-- A synchronous command RUNNING for WD_MS raises 0xD041 and sets STALLED; it stays RUNNING. -/
theorem mbxStalled_raises {r : Req} (hst : (s.dev.mbx m).st = 2) (hfirst : (s.dev.mbx m).stalled = false)
    (hrun : (s.dev.mbx m).run = some r) (hdue : r.takenAt + r.wd * 1000000 ≤ s.dev.now)
    (hsync : (op? r.opcode).any (·.async) = false) :
    Completes (.mbxStalled m) s fun d =>
      d.Raised (0xD040 + m) 0xD041 ∧ d.flag (Dev.mbxBase m + 0x0C) 7 = true ∧ (d.mbx m).st = 2 := by
  refine completes_of_act (exec_mbxStalled m s) ?_
  obtain ⟨hraised, hevent, hmbx⟩ := deadline_passed s.dev m (code := 0xD041) (i := 7) (f := fun x => { x with stalled := true }) rfl
    (by decide) (by decide) (by simp [hst])
  simp only [Dev.mbxStalled, hst, hfirst, hrun, hdue, hsync, Option.any_some, decide_true, Bool.not_false, Bool.and_self, if_true]
  exact ⟨hraised, hevent, by rw [hmbx]; exact hst⟩

end

/-! ### An asynchronous command RUNNING (R492) -/

/-- TILE_SEAL, an asynchronous command, as it was taken at 0 with WD_MS 1. -/
def sealRequest : Req := { head := 0x0302 * 2 ^ 16 :: 4 :: List.replicate 14 0, words := [0], door := 0, takenAt := 0, wd := 1 }

/-- A block in which it still runs in mailbox 0 a ms later. -/
def sealRuns : Dev where
  mbxs := [(0, { st := 2, run := some sealRequest })]
  time := { distMono := 1000000 * 2 ^ 24 }

theorem sealRuns_canonical : sealRuns.Canonical where
  regs := rfl
  cnts := rfl
  latch := rfl
  doms := rfl
  ports := rfl
  lanes := rfl
  crs := rfl
  slcs := ⟨rfl, nofun⟩
  aus := rfl
  banks := ⟨rfl, rfl⟩
  reels := rfl
  sets := rfl
  chans := rfl
  mbxs := rfl
  mems := nofun
  engs := nofun

/-- MBX_STALLED leaves it alone. -/
theorem sealRuns_unwatched : sealRuns.mbxStalled 0 = sealRuns := by decide +kernel

/-! ### The take (R481) -/

/-- The block once a posted command has been taken. -/
def taken (d : Dev) (m : Nat) (r : Req) : Dev := d.setMbx m fun x => { x with st := 2, run := some r, late := false }

section
variable {d : Dev} {m code : Nat} {r : Req} {body : Dev → Req → Nat × Nat → Dev × Reply} {hostFail : Bool} {free : Req → Bool}

theorem mbx_taken (d : Dev) (m : Nat) (r : Req) : (taken d m r).mbx m = { d.mbx m with st := 2, run := some r, late := false } :=
  mbx_setMbx_of_st (Nat.succ_ne_zero 1)

theorem reqRefusal_taken (d : Dev) (m : Nat) (r q : Req) : (taken d m r).reqRefusal q = d.reqRefusal q := rfl

theorem ticketRoom_taken (d : Dev) (m : Nat) (r : Req) : (taken d m r).ticketRoom m = d.ticketRoom m := by
  simp only [Dev.ticketRoom, mbx_taken]
  rfl

theorem retryOf_taken (d : Dev) (m : Nat) (r q : Req) : (taken d m r).retryOf m q = d.retryOf m q := by
  simp only [Dev.retryOf, mbx_taken]
  rfl

theorem silent_of_waits (h : d.Waits m code r) : r.silent = false := by
  rw [← h.req]
  rfl

theorem takeAs_of_idle (slow : Bool) (h : d.stewardRuns = false) : d.takeAs m code slow body hostFail free = d := by
  simp [Dev.takeAs, h]

/-- A posted command is taken, and run unless it is still running after the step. -/
theorem takeAs_of_waits (slow : Bool) (h : d.Waits m code r) :
    d.takeAs m code slow body hostFail free =
      if slow then taken d m r else (taken d m r).runReq m r hostFail free body := by
  have hledger : (d.setMbx m fun x => { x with st := 2, run := some r, late := false }).ledgerEntry m = taken d m r :=
    if_neg (by exact Bool.eq_false_iff.mp h.clean)
  simp only [Dev.takeAs, h.runs, h.idle, h.posted, h.req, h.opc, decide_true, Bool.true_or, Bool.and_self, Bool.not_true,
    Bool.false_eq_true, if_true, if_false, hledger]

/-! ### What R483, R485 and R489 answer -/

theorem runReq_of_refusal {st why : Nat} (h : d.reqRefusal r = some (st, why)) :
    d.runReq m r hostFail free body = d.complete m r st why 0 [] false := by
  simp only [Dev.runReq, h]

theorem runReq_of_retry {head : List Nat} (hpass : d.reqRefusal r = none) (h : d.retryOf m r = some head) :
    d.runReq m r hostFail free body = d.respond m r.silent head [] := by
  simp only [Dev.runReq, hpass, h]

theorem runReq_of_busy (hpass : d.reqRefusal r = none) (hfirst : d.retryOf m r = none)
    (h : (d.groupBusy m r.opcode || (op? r.opcode).any (·.async) && !free r && !d.ticketRoom m) = true) :
    d.runReq m r hostFail free body = d.complete m r 1 0 0 [] false := by
  simp only [Dev.runReq, hpass, hfirst, h, if_true]

theorem retryOf_first (h : r.retry = false) : d.retryOf m r = none := by
  simp [Dev.retryOf, h]

/-- A retry whose TAG no open ticket holds and whose outcome is remembered finds the header to answer with. -/
theorem retryOf_past {p : Past} (h : r.retry = true) (hticket : (d.mbx m).tickets.find? (·.req.tag = r.tag) = none)
    (hpast : (d.mbx m).past.find? (·.tag = r.tag) = some p) :
    d.retryOf m r = some ([p.head.getD 0 0, withBits (p.head.getD 1 0) 5 5 1, 0] ++ p.head.drop 3) := by
  simp [Dev.retryOf, h, hticket, hpast]

/-! ### Exclusivity (R489) -/

/-- A pair that a map of rising keys lists is what its key reads. -/
theorem get?_of_mem {α : Type} {m : Map α} {e : Nat × α} (hs : Map.sorted m = true) (he : e ∈ m) : Map.get? m e.1 = some e.2 := by
  induction m with
  | nil => cases he
  | cons x m ih =>
    obtain ⟨k, v⟩ := x
    obtain ⟨hlow, hrest⟩ := (Map.sorted_cons_iff k v m).mp hs
    rcases List.mem_cons.mp he with rfl | he
    · simp [Map.get?]
    · have hk := hlow e he
      rw [Map.get?, if_neg (by omega), if_neg (by omega), ih hrest he]

/-- Taking a command of a mailbox does not hide an exclusive command from the others of its group. -/
theorem groupBusy_taken (hs : Map.sorted d.mbxs = true) (h : d.groupBusy m code = true) : (taken d m r).groupBusy m code = true := by
  have hset : (taken d m r).mbxs = Map.put d.mbxs m { d.mbx m with st := 2, run := some r, late := false } :=
    mbxs_setMbx_of_st (Nat.succ_ne_zero 1)
  simp only [Dev.groupBusy, Bool.and_eq_true, List.any_eq_true] at h ⊢
  obtain ⟨hexcl, ⟨k, x⟩, hmem, hx⟩ := h
  refine ⟨hexcl, ?_⟩
  have hget : Map.get? d.mbxs k = some x := get?_of_mem hs hmem
  by_cases hk : k = m
  · subst hk
    have hmbx : d.mbx k = x := by rw [Dev.mbx, Map.getD, hget, Option.getD_some]
    refine ⟨_, mem_of_get? (by rw [hset]; exact Map.get?_put_self _ _ _), ?_⟩
    simpa [hmbx] using hx
  · exact ⟨(k, x), mem_of_get? (by rw [hset, Map.get?_put_of_ne _ _ hk hs, hget]), hx⟩

end

/-! ### The rows that run a command (R498) -/

/-- Each of the rows takes a command of its opcode; PWR_STATE_SET alone may do without a ticket (R484). -/
theorem exec_mailboxRow {c : Instr} {m code : Nat} {slow : Bool} (h : mailboxRow c = some (m, code, slow)) :
    ∃ (body : Body) (free : Req → Bool), (∀ s, exec c s = s.act (·.takeAs m code slow body false free)) ∧
      (code ≠ 0x0701 → ∀ r, free r = false) := by
  unfold mailboxRow at h
  split at h
  case h_22 => -- PWR_STATE_SET
    cases h
    exact ⟨_, _, fun _ => rfl, fun h => absurd rfl h⟩
  case h_45 => cases h -- no row of R498
  all_goals
    cases h
    exact ⟨_, _, fun _ => rfl, fun _ _ => rfl⟩

/-! ### Tickets (R484, R490) -/

/-- The ticket of an asynchronous command as it is taken. -/
def newTicket (d : Dev) (m : Nat) (r : Req) : Ticket := { num := (d.nextTicket m).2, req := r, phase := 0 }

/-- The block once a taken command holds a ticket, before it is answered. -/
def ticketed (d : Dev) (m : Nat) (r : Req) : Dev :=
  ((taken d m r).setMbx m fun x => { x with tickets := x.tickets ++ [newTicket d m r] }).setMbx m
    fun x => { x with count := (d.nextTicket m).2 }

theorem mbx_ticketed (d : Dev) (m : Nat) (r : Req) :
    (ticketed d m r).mbx m =
      { d.mbx m with st := 2, run := some r, late := false, count := (d.nextTicket m).2,
                     tickets := (d.mbx m).tickets ++ [newTicket d m r] } := by
  have hlisted : ((taken d m r).setMbx m fun x =>
      { x with tickets := x.tickets ++ [newTicket d m r] }).mbx m =
      { d.mbx m with st := 2, run := some r, late := false,
                     tickets := (d.mbx m).tickets ++ [newTicket d m r] } := by
    rw [mbx_setMbx_of_st (by rw [mbx_taken]; exact Nat.succ_ne_zero 1), mbx_taken]
  rw [ticketed, mbx_setMbx_of_st (by rw [hlisted]; exact Nat.succ_ne_zero 1), hlisted]

theorem deferred_eq (d : Dev) (m : Nat) (r : Req) :
    d.deferred m r = ((ticketed d m r).respond m false
      (Dev.header r ((ticketed d m r).statusWord 0 0 0 false true) 0 0 (Dev.ticketWord (d.nextTicket m))) []).partial_
        (d.nextTicket m) := rfl

theorem mbx_partial {d e : Dev} {m : Nat} (h : (e.mbx m).st ≠ 0) :
    (e.partial_ (d.nextTicket m)).mbx m =
      { e.mbx m with tickets := (e.mbx m).tickets.map fun y => if y.num = (d.nextTicket m).2 then { y with phase := 1 } else y } :=
  mbx_setMbx_of_st (d := e) (m := m) h

/-- A deferred response leaves its mailbox DONE, its count the ticket's and the ticket open with its effect begun. -/
theorem mbx_deferred (d : Dev) (m : Nat) (r : Req) :
    ((d.deferred m r).mbx m).st = 3 ∧ ((d.deferred m r).mbx m).run = none ∧
      ((d.deferred m r).mbx m).count = (d.nextTicket m).2 ∧
      { newTicket d m r with phase := 1 } ∈ ((d.deferred m r).mbx m).tickets := by
  have hanswered := mbx_respond (ticketed d m r) m
    (Dev.header r ((ticketed d m r).statusWord 0 0 0 false true) 0 0 (Dev.ticketWord (d.nextTicket m))) []
  rw [mbx_ticketed] at hanswered
  rw [deferred_eq, mbx_partial (by rw [hanswered]; exact Nat.succ_ne_zero 2), hanswered]
  exact ⟨rfl, rfl, rfl, List.mem_map.mpr ⟨newTicket d m r, List.mem_append_right _ (.head _), if_pos rfl⟩⟩

end Sys2Proof.Proofs.Mailboxes
end

section
open Sys2Proof Sys2Proof.Machine Sys2Proof.Proofs.TimeAndSpeed Sys2Proof.Proofs.ScansAndWindows Sys2Proof.Proofs.Mailboxes

/-- Settles O38, a check at a time. -/
theorem mailboxChecks : Obligations.MailboxChecks := by
  refine ⟨fun s c m code slow hrow hoff => ?idle, fun s c m code r hrow hw => ?slow,
    fun s c m code st why r hrow hw hrefused => ?refused, fun s c m code r p hc hrow hw hpass hretry hticket hpast => ?retried,
    fun s c m code r hc hrow hw hpass hfirst hbusy => ?busy, fun d m r _ => ?deferred⟩
  case idle =>
    obtain ⟨body, free, hexec, -⟩ := exec_mailboxRow hrow
    rw [hexec, State.act, takeAs_of_idle slow hoff]
  case slow =>
    obtain ⟨body, free, hexec, -⟩ := exec_mailboxRow hrow
    refine completes_of_act (hexec s) ?_
    rw [takeAs_of_waits true hw, if_pos rfl, mbx_taken]
    exact ⟨rfl, rfl, rfl⟩
  case refused =>
    obtain ⟨body, free, hexec, -⟩ := exec_mailboxRow hrow
    refine completes_of_act (hexec s) ?_
    rw [takeAs_of_waits false hw, if_neg Bool.false_ne_true, runReq_of_refusal (by rw [reqRefusal_taken, hrefused])]
    exact complete_answers _ m (silent_of_waits hw) st why 0
  case retried =>
    obtain ⟨body, free, hexec, -⟩ := exec_mailboxRow hrow
    refine completes_of_act (hexec s) ?_
    rw [takeAs_of_waits false hw, if_neg Bool.false_ne_true,
      runReq_of_retry (by rw [reqRefusal_taken, hpass]) (by rw [retryOf_taken, retryOf_past hretry hticket hpast]), silent_of_waits hw,
      mbx_respond]
    exact ⟨rfl, List.append_nil _⟩
  case busy =>
    obtain ⟨body, free, hexec, hfree⟩ := exec_mailboxRow hrow
    refine completes_of_act (hexec s) ?_
    rw [takeAs_of_waits false hw, if_neg Bool.false_ne_true,
      runReq_of_busy (by rw [reqRefusal_taken, hpass]) (by rw [retryOf_taken, retryOf_first hfirst]) ?_]
    · exact complete_answers _ m (silent_of_waits hw) 1 0 0
    rw [hw.opc, ticketRoom_taken, Bool.or_eq_true]
    rcases hbusy with hgroup | ⟨hasync, hcode, hroom⟩
    · exact .inl (groupBusy_taken hc.mbxs hgroup)
    · exact .inr (by rw [hasync, hfree hcode, hroom]; rfl)
  case deferred =>
    obtain ⟨hst, hrun, hcount, hticket⟩ := mbx_deferred d m r
    exact ⟨hst, hrun, hcount, _, hticket, rfl, rfl, rfl⟩

/-- Settles O36: the state of the mailbox decides. -/
theorem cancelActsOnlyInPosted : Obligations.CancelActsOnlyInPosted := by
  refine ⟨fun s m hb hst => ?posted, fun s m hst => ?other⟩
  case posted =>
    refine completes_of_host (exec_mbxCancel m s) hb ?_
    rw [cancelPosted_of_posted hst, mbx_respond]
    have hword : (cancelHead s.dev m ++ []).getD 1 0 = 0x0B * 2 ^ 16 + 2 * 2 ^ 8 + 8 * s.dev.stw.active := statusWord_notRun s.dev
    exact ⟨rfl, hword, fun hactive => by rw [hword]; exact bits_notRun hactive⟩
  case other => rw [exec_mbxCancel, State.host, State.act, cancelPosted_of_ne hst, ite_self]

/-- Refutes O37: its clause on MBX_STALLED does not ask that the command be synchronous, as R492 does. TILE_SEAL, RUNNING for WD_MS,
raises no fault. -/
theorem not_mailboxHostSide : ¬ Obligations.MailboxHostSide := by
  intro h
  obtain ⟨-, -, hstalled⟩ := h ⟨sealRuns, []⟩ 0 sealRuns_canonical
  obtain ⟨d, hexec, ⟨p, hp, -⟩, -⟩ := hstalled sealRequest rfl rfl rfl (by decide)
  rw [exec_mbxStalled, act_iff, State.mk.injEq] at hexec
  obtain ⟨rfl, -⟩ := hexec
  rw [show (0 : Fin 8).val = 0 from rfl, sealRuns_unwatched] at hp
  cases hp

end
